-- ==== Sys2Proof/Word.lean ====
section
/-!
DEFINITION. Sys2Proof/Word.lean: the plain types every other file is written over: a byte, a
32-bit register word, and a sparse table in one canonical form. R12 makes every structure the
device defines little-endian; the readers and writers for that stand in Machine/Bits.lean.
-/
namespace Sys2Proof

/-- One byte. -/
abbrev Byte := BitVec 8

/-- One 32-bit word of a register. -/
abbrev Word := BitVec 32

/-- A sparse table: key and value pairs with strictly rising keys. An unlisted key holds the
table's default, and no listed value equals it, so equal tables are equal data. -/
abbrev Tab (α : Type) := List (Nat × α)

/-- Minimum and maximum of a saturating counter that stops at `top`. -/
def satAdd (top a b : Nat) : Nat := min top (a + b)

end Sys2Proof
end

