-- ==== Sys2Proof/Syntax.lean ====
section
/-!
DEFINITION. Sys2Proof/Syntax.lean: the commands of the block, one constructor per row of
spec/opcode_table.json, each with its operands.
-/
namespace Sys2Proof

/-- What a block tick brings from outside the rules: the completion of the fabric's work, the serial
inputs' samples, and the memory errors the fabric met. -/
structure TickIn where
  /-- per class 1-5: slack in ns (R346) -/
  slack   : List Int
  /-- classes that abandoned work at this tick (R342) -/
  missed  : List Nat
  /-- where the pipeline depth is 2: classes that abandoned stage-A work of the block after the one this tick
  releases (R341, R342) -/
  early   : List Nat
  /-- unit IDs of the objects, feeds and buses whose work was abandoned (R343, R359) -/
  units   : List Nat
  /-- source node of a serial input and its samples of the block -/
  inputs  : List (Nat × List Int)
  /-- memory words the fabric read with an error: address, and whether uncorrectable (R631) -/
  ecc     : List (Nat × Bool)
  /-- PEER_OFFSET in ns as the control cluster last measured it over Port S (R584) -/
  offset  : Int
  deriving DecidableEq, Repr

/-- One command of the block: one constructor per row of the opcode table. For a row that is a
command packet, `q` is the command queue whose head packet is taken (R79); every other row
carries the data of its own event. -/
inductive Instr where
  /-- SYS_NOP (R79): Returns its parameters unchanged after the common command checks. -/
  | sysNop (q : Nat)
  /-- SYS_IDENTIFY (R79): Returns part, stepping, firmware, slot, pair and profile identity (Table 2-15). -/
  | sysIdentify (q : Nat)
  /-- SYS_GET_READINESS (R109): Returns the readiness word and the current render index. -/
  | sysGetReadiness (q : Nat)
  /-- SYS_GET_GENERATIONS (R89): Returns the role generation of each listed unit, or 0 for an invalid ID. -/
  | sysGetGenerations (q : Nat)
  /-- SYS_GET_WINDOW (R95): Returns a slot's window record. -/
  | sysGetWindow (q : Nat)
  /-- SYS_SET_WINDOW (R106): Replaces a non-privileged slot's level, memory ranges and unit ranges and increments its generation. -/
  | sysSetWindow (q : Nat)
  /-- SYS_ASSIGN_CHANNEL (R104): Sets the owner slot of an idle traverse channel D0-D31 and increments its generation. -/
  | sysAssignChannel (q : Nat)
  /-- SYS_BIND_UDP (R107): Binds or unbinds the source address, port and key of H6 or H7 and resets its accepted-sequence floor. -/
  | sysBindUdp (q : Nat)
  /-- SYS_FREEZE (R101): Freezes a slot, traverse channel or the sight line with cause 0x3 and returns the new freeze serial. -/
  | sysFreeze (q : Nat)
  /-- SYS_THAW (R102): Thaws a frozen master that is named with its current freeze serial. -/
  | sysThaw (q : Nat)
  /-- SYS_SET_EVENT_FILTER (R93): Sets the slot's minimum event severity for each ECLASS. -/
  | sysSetEventFilter (q : Nat)
  /-- SYS_RESTART_CLUSTER (R104): Sends ACCEPTED, clears HOST_QUEUES and restarts the control cluster while audio runs on. -/
  | sysRestartCluster (q : Nat)
  /-- SYS_GPIO_CONFIG (R113): Sets one GPIO pin's mode, event line, flags, level, pulse width and debounce. -/
  | sysGpioConfig (q : Nat)
  /-- SYS_GPIO_STATUS (R115): Returns each pin's taken level, mode, line and edge count, and clears the counts if CLEAR is set. -/
  | sysGpioStatus (q : Nat)
  /-- SYS_FAB_STATUS (R349): Returns the fabric margin, profile, voltage and slack registers without clearing them. -/
  | sysFabStatus (q : Nat)
  /-- SYS_FAB_SET_MARGIN (R371): Sets TARGET, HYST and SHED_MAX from the next block boundary. -/
  | sysFabSetMargin (q : Nat)
  /-- SYS_FAB_BUDGET (R365): Runs the profile-change budget check for a named profile without requesting a change. -/
  | sysFabBudget (q : Nat)
  /-- SYS_FW_STATUS (R617): Returns the boot record, running and staged banks, trial time left and bank versions. -/
  | sysFwStatus (q : Nat)
  /-- SYS_FW_CHUNK (R626): Writes firmware data into the staging region at an offset. -/
  | sysFwChunk (q : Nat)
  /-- SYS_FW_STAGE (R626): Checks a firmware image and starts writing it to the non-running main bank, or passes it to the island. -/
  | sysFwStage (q : Nat)
  /-- SYS_FW_SWITCH (R627): Writes a trial boot record, sets the switch latch and restarts the cluster into the staged bank. -/
  | sysFwSwitch (q : Nat)
  /-- SYS_FW_CONFIRM (R627): Confirms the trial bank as the verified bank. -/
  | sysFwConfirm (q : Nat)
  /-- SYS_RESET (R634): Sends ACCEPTED and performs a command main reset 1 ms later. -/
  | sysReset (q : Nat)
  /-- DIAG_FAULTS (R630): Returns the sticky fault registers without clearing them. -/
  | diagFaults (q : Nat)
  /-- DIAG_LOG_READ (R635): Returns entries of the main event history. -/
  | diagLogRead (q : Nat)
  /-- DIAG_CLEAR (R634): Clears a sticky W1C word by mask, or clears an RC word. -/
  | diagClear (q : Nat)
  /-- MER_GET_TIME (R184): Returns device time, render index, increment, servo mode and the render-index offset from device time. -/
  | merGetTime (q : Nat)
  /-- MER_SET_INCREMENT (R164): Sets the device-time increment, which ends any slew. -/
  | merSetIncrement (q : Nat)
  /-- MER_SLEW (R169): Replaces the increment with a temporary value for a stated number of CD0 ticks. -/
  | merSlew (q : Nat)
  /-- MER_STEP (R170): Adds a signed offset to device time and sends MER_TIME_STEP. -/
  | merStep (q : Nat)
  /-- MER_SET_TIME (R170): Replaces device time and sends MER_TIME_STEP. -/
  | merSetTime (q : Nat)
  /-- MER_SERVO (R168): Turns the PTP servo on or off and sets its port set, step threshold and maximum slew. -/
  | merServo (q : Nat)
  /-- MER_LAUNCH_ARM (R180): Arms a launch slot with firing time, period, count and event line. -/
  | merLaunchArm (q : Nat)
  /-- MER_LAUNCH_CANCEL (R180): Cancels a launch slot and returns the firings made. -/
  | merLaunchCancel (q : Nat)
  /-- MER_SET_LATE_TOLERANCE (R179): Sets the late tolerance of a port or of the launch slots. -/
  | merSetLateTolerance (q : Nat)
  /-- MER_PORT_DELAY (R173): Sets a port's ingress and egress stamp delays and one-step enable. -/
  | merPortDelay (q : Nat)
  /-- MER_LOOP_CONFIG (R206): Applies a media loop's whole coupled reference set and settings at one block boundary. -/
  | merLoopConfig (q : Nat)
  /-- MER_LOOP_STATUS (R199): Returns a loop's state, cause, hop entry, phase error, glitch count, frequency offset and time in state. -/
  | merLoopStatus (q : Nat)
  /-- MER_HOP_LEARN (R197): Starts a band search for given settings whose result is stored in a hop entry without adopting it. -/
  | merHopLearn (q : Nat)
  /-- MER_LOOP_REALIGN (R203): Starts a realignment of a media loop. -/
  | merLoopRealign (q : Nat)
  /-- NET_PORT_CONFIG (R210): Sets a port's mode, flags, VIDs, MAXFRAME and LPI idle time. -/
  | netPortConfig (q : Nat)
  /-- NET_PORT_STATUS (R209): Returns a port's link, mode, pause, LPI, TW and sight-line peer address. -/
  | netPortStatus (q : Nat)
  /-- NET_GET_COUNTERS (R249): Returns a port's counters and clears them if CLEAR is set. -/
  | netGetCounters (q : Nat)
  /-- NET_SET_RULE (R220): Writes one programmable receive rule. -/
  | netSetRule (q : Nat)
  /-- NET_SET_MCAST (R216): Writes one multicast address-filter entry of a port. -/
  | netSetMcast (q : Nat)
  /-- NET_SET_WAKE (R221): Writes one wake pattern. -/
  | netSetWake (q : Nat)
  /-- NET_SEND (R226): Submits one host frame to transmit queue k = 3 of a port or to the field-bus host queue. -/
  | netSend (q : Nat)
  /-- NET_FB_CONFIG (R235): Sets the field-bus role, PLCA parameters and roll-call settings. -/
  | netFbConfig (q : Nat)
  /-- NET_FB_NODES (R243): Returns the field-node table. -/
  | netFbNodes (q : Nat)
  /-- NET_FB_FORGET (R243): Frees the index of an absent field node and increments its generation. -/
  | netFbForget (q : Nat)
  /-- STR_GET (R258): Returns a stream entry and its map run. -/
  | strGet (q : Nat)
  /-- STR_BIND (R295): Applies a whole stream entry and its map run at one block boundary. -/
  | strBind (q : Nat)
  /-- STR_ENABLE (R276): Enables or disables a stream entry at a block boundary. -/
  | strEnable (q : Nat)
  /-- STR_SET_MAP (R295): Changes receive or transmit channel-map entries alone. -/
  | strSetMap (q : Nat)
  /-- STR_STATUS (R297): Returns a stream's state, depth, residency and counters, and clears them if CLEAR is set. -/
  | strStatus (q : Nat)
  /-- STR_ASRC_CONFIG (R279): Sets an ASRC group's mode and loop, unlocking it if the mode changes. -/
  | strAsrcConfig (q : Nat)
  /-- STR_CONTINUITY (R290): Returns a transmit stream's continuity record. -/
  | strContinuity (q : Nat)
  /-- STR_SDP_LIST (R293): Returns sessions of the remote SDP cache. -/
  | strSdpList (q : Nat)
  /-- STR_TDM_CONFIG (R316): Applies a TDM port's whole coupled set as a staged commit. -/
  | strTdmConfig (q : Nat)
  /-- STR_TDM_MASK (R318): Writes a TDM port's input and output slot masks. -/
  | strTdmMask (q : Nat)
  /-- STR_AES_CONFIG (R329): Configures an AES3 receiver or transmitter. -/
  | strAesConfig (q : Nat)
  /-- STR_WCLK_CONFIG (R331): Configures the word-clock output's domain, multiplier and flags. -/
  | strWclkConfig (q : Nat)
  /-- STR_SERIAL_STATUS (R338): Returns a serial interface's state, rate, mutes, counters and channel status, clearing counters if CLEAR is set. -/
  | strSerialStatus (q : Nat)
  /-- ALM_STATUS (R402): Returns bank, swap, program and direct-lane status. -/
  | almStatus (q : Nat)
  /-- ALM_LOAD (R397): Starts copying a program image into the idle bank, which becomes LOADING. -/
  | almLoad (q : Nat)
  /-- ALM_SWAP (R399): Schedules the idle bank to become the running bank at boundary B. -/
  | almSwap (q : Nat)
  /-- ALM_SET_GAIN (R389): Writes target codes of gain registers. -/
  | almSetGain (q : Nat)
  /-- ALM_GET_GAIN (R385): Returns current and target codes of gain registers. -/
  | almGetGain (q : Nat)
  /-- ALM_SET_CONFIG (R388): Sets the gain step timeout and the default swap window. -/
  | almSetConfig (q : Nat)
  /-- ALM_SINK_FADE (R396): Starts sink fades towards ON or OFF over a ramp. -/
  | almSinkFade (q : Nat)
  /-- ALM_BUS_SCALE (R394): Changes a bus's automatic scaling mode from the next block boundary. -/
  | almBusScale (q : Nat)
  /-- ALM_DIRECT_SET (R407): Writes a direct-lane entry. -/
  | almDirectSet (q : Nat)
  /-- ALM_DIRECT_ENABLE (R406): Enables or disables a direct lane with a 64-sample fade. -/
  | almDirectEnable (q : Nat)
  /-- ALM_PLAY (R409): Starts a player on a library message with a repeat count. -/
  | almPlay (q : Nat)
  /-- ALM_PLAY_STOP (R409): Fades a player out over 64 samples. -/
  | almPlayStop (q : Nat)
  /-- ALM_TESTGEN (R410): Sets a test generator's mode, level and frequency. -/
  | almTestgen (q : Nat)
  /-- OBJ_GET (R419): Returns an object record. -/
  | objGet (q : Nat)
  /-- OBJ_SET (R423): Writes an object's bytes 0-47 as one staged set. -/
  | objSet (q : Nat)
  /-- OBJ_MOVE (R427): Starts a motion or jump of an object towards a target position. -/
  | objMove (q : Nat)
  /-- OBJ_ENABLE (R424): Enables or disables an object. -/
  | objEnable (q : Nat)
  /-- OBJ_SET_GAIN (R422): Sets an object's gain code. -/
  | objSetGain (q : Nat)
  /-- OBJ_SET_SOURCE (R421): Changes an object's source with a crossfade and increments its generation. -/
  | objSetSource (q : Nat)
  /-- OBJ_RENDER_CONFIG (R413): Sets the speed of sound, reference point, grid cell and RESERVE_SAFE. -/
  | objRenderConfig (q : Nat)
  /-- OBJ_STATUS (R457): Returns renderer tap and survey counts and counters, clearing them if CLEAR is set. -/
  | objStatus (q : Nat)
  /-- OBJ_ZONE_SET (R439): Writes a renderer zone entry. -/
  | objZoneSet (q : Nat)
  /-- OBJ_MESH_LOAD (R435): Starts loading and checking a triangulation mesh image, or unloads it with length 0. -/
  | objMeshLoad (q : Nat)
  /-- OBJ_TAPS (R441): Returns an object's tap entries. -/
  | objTaps (q : Nat)
  /-- FEED_GET (R416): Returns a feed record. -/
  | feedGet (q : Nat)
  /-- FEED_SET (R417): Writes a feed's bytes 0-35. -/
  | feedSet (q : Nat)
  /-- FEED_TRIM (R418): Writes a feed's trim gain and delay. -/
  | feedTrim (q : Nat)
  /-- COR_ALLOC (R465): Resizes a feed's standby bank, taking the lowest free slot run. -/
  | corAlloc (q : Nat)
  /-- COR_SWAP (R473): Requests a correction bank swap at a block boundary. -/
  | corSwap (q : Nat)
  /-- COR_ARM (R473): Binds or clears a one-shot event-line arm that requests a swap. -/
  | corArm (q : Nat)
  /-- COR_BANKS (R463): Returns a feed's bank descriptors and SPEC_ERR. -/
  | corBanks (q : Nat)
  /-- COR_POOL (R464): Returns correction pool use and the longest free run. -/
  | corPool (q : Nat)
  /-- COR_COMPACT (R466): Starts moving running banks to lower slots. -/
  | corCompact (q : Nat)
  /-- COR_BIQUAD (R484): Writes whole biquad coefficient sets in STEP or FADE mode. -/
  | corBiquad (q : Nat)
  /-- COR_BIQUAD_GET (R483): Returns biquad coefficients and PENDING_COUPLE flags. -/
  | corBiquadGet (q : Nat)
  /-- COR_LIMITER (R490): Sets a feed limiter's parameters. -/
  | corLimiter (q : Nat)
  /-- COR_COMPRESSOR (R490): Sets a bus compressor's parameters. -/
  | corCompressor (q : Nat)
  /-- COR_LIMIT_DELAY (R485): Sets the device-wide limiter delay with a fade at every feed output. -/
  | corLimitDelay (q : Nat)
  /-- COR_DYN_STATUS (R491): Returns a dynamics unit's settings, level and reduction, clearing them if CLEAR is set. -/
  | corDynStatus (q : Nat)
  /-- SAF_STATUS (R513): Returns per-zone levels, winners and delegation states, active requests and faults. -/
  | safStatus (q : Nat)
  /-- SAF_INPUTS (R505): Returns the state and last voltage of each supervised input. -/
  | safInputs (q : Nat)
  /-- SAF_ACTIVATE (R512): Raises or releases an island request as a command source. -/
  | safActivate (q : Nat)
  /-- SAF_RESET (R507): Releases latched requests. -/
  | safReset (q : Nat)
  /-- SAF_HEARTBEAT (R522): Supplies the host heartbeat from the supervising slot. -/
  | safHeartbeat (q : Nat)
  /-- SAF_CFG_READ (R539): Returns a committed or staged configuration section. -/
  | safCfgRead (q : Nat)
  /-- SAF_CFG_WRITE (R539): Stages one configuration section. -/
  | safCfgWrite (q : Nat)
  /-- SAF_CFG_COMMIT (R539): Checks and applies the configuration record formed by committed and staged sections. -/
  | safCfgCommit (q : Nat)
  /-- SAF_MSG_LOAD (R530): Starts copying a message into island SRAM through an LD channel. -/
  | safMsgLoad (q : Nat)
  /-- SAF_MSG_DELETE (R530): Deletes an island message. -/
  | safMsgDelete (q : Nat)
  /-- SAF_MSG_LIST (R528): Returns the island message directory. -/
  | safMsgList (q : Nat)
  /-- SAF_LOG_READ (R540): Returns entries of the island RAM or flash log. -/
  | safLogRead (q : Nat)
  /-- SAF_LINES (R531): Returns line-supervision entries' faults and report ages. -/
  | safLines (q : Nat)
  /-- SAF_SVC_SET_KEY (R537): Stores a new safety key, accepted only on the service port. -/
  | safSvcSetKey (q : Nat)
  /-- SAF_RESTART (R544): Sends ACCEPTED and restarts the island 1 ms later. -/
  | safRestart (q : Nat)
  /-- DAT_STATUS (R556): Returns datum ID, load phase, running slot, overlay layers and staged writes. -/
  | datStatus (q : Nat)
  /-- DAT_LOAD (R556): Starts a datum load from an address or the flash datum slot. -/
  | datLoad (q : Nat)
  /-- DAT_STORE (R560): Starts writing the running datum image to the flash datum slot. -/
  | datStore (q : Nat)
  /-- DAT_OVL_STORE (R561): Stores an overlay record as an overlay unit. -/
  | datOvlStore (q : Nat)
  /-- DAT_OVL_APPLY (R562): Checks an overlay and schedules it to apply at a block boundary. -/
  | datOvlApply (q : Nat)
  /-- DAT_OVL_REMOVE (R566): Schedules an active overlay's removal at a block boundary. -/
  | datOvlRemove (q : Nat)
  /-- DAT_OVL_GET (R561): Returns an overlay's state and header. -/
  | datOvlGet (q : Nat)
  /-- DAT_STAGE (R571): Adds a DAT_FIELD write to the slot's stage. -/
  | datStage (q : Nat)
  /-- DAT_COMMIT (R571): Applies every staged write at one block boundary if every touched set is consistent. -/
  | datCommit (q : Nat)
  /-- DAT_DISCARD (R571): Empties the slot's stage. -/
  | datDiscard (q : Nat)
  /-- OTP_READ (R573): Returns OTP identity bytes, generation states and the active base record. -/
  | otpRead (q : Nat)
  /-- OTP_PROGRAM (R574): Starts programming a base record into the lowest BLANK OTP generation. -/
  | otpProgram (q : Nat)
  /-- PAIR_STATUS (R581): Returns pair state, peer state, fence, MSEQ and takeover data. -/
  | pairStatus (q : Nat)
  /-- PAIR_CONFIG (R579): Writes the pair record. -/
  | pairConfig (q : Nat)
  /-- PAIR_HANDOVER (R605): Schedules a voluntary move of the active role at boundary H. -/
  | pairHandover (q : Nat)
  /-- PAIR_PEER_LOAD (R606): Makes the settled Backsight load a datum while the Foresight plays on. -/
  | pairPeerLoad (q : Nat)
  /-- PAIR_LEAVE (R609): Leaves the pair: a Foresight sends LEAVE and becomes ALONE, a Backsight enters SEEKING. -/
  | pairLeave (q : Nat)
  /-- PAIR_REJOIN (R609): Sends JOIN_REQUEST from SEEKING or ISOLATED. -/
  | pairRejoin (q : Nat)
  /-- ORDERED_RELEASE (R88): A command waiting under ORDERED proceeds through checks 3 onwards once every earlier command of the slot has its final reply. -/
  | orderedRelease (q : Nat)
  /-- PENDING_COMMAND_APPLY (R86): At its block boundary a pending or AT_RI command applies in order of acceptance, rechecking generations, and sends its final reply. -/
  | pendingCommandApply
  /-- UDP_DATAGRAM_RECEIVE (R72): An authenticated command datagram on H6 or H7 is checked for tag, boot count and counter and enters a command queue. -/
  | udpDatagramReceive (ipver : Nat) (addr : List Byte) (sport : Nat) (frag : Bool) (d : List Byte)
  /-- CELL_PUSH_WRITE (R62): An aligned 64-byte write to a command-queue aperture pushes one cell. -/
  | cellPushWrite (slot : Nat) (off : Nat) (d : List Byte)
  /-- CELL_POP_READ (R133): An aligned 64-byte read from a reply or event aperture pops one cell, or returns zeros when empty. -/
  | cellPopRead (slot : Nat) (off : Nat) (len : Nat)
  /-- QUEUE_COMMIT (R126): A DOORBELL COMMIT closes the open packet or ends discarding. -/
  | queueCommit (slot : Nat) (q : Nat)
  /-- QUEUE_ABORT (R127): A DOORBELL ABORT rewinds the open packet or ends discarding. -/
  | queueAbort (slot : Nat) (q : Nat)
  /-- QUEUE_RESET (R140): A DOORBELL RESET empties both banks, discards markers and increments EPOCH. -/
  | queueReset (slot : Nat) (q : Nat)
  /-- SNAPSHOT_TAKE (R110): A write of TAKE latches device time and render index into the slot's snapshot registers. -/
  | snapshotTake (slot : Nat)
  /-- CHANNEL_START (R153): A DOORBELL START puts an idle, parked or faulted channel into WAIT with the first fetch at HEAD. -/
  | channelStart (who : Nat) (ch : Nat)
  /-- CHANNEL_EXTEND (R158): A DOORBELL EXTEND sets EXT_PENDING or wakes a parked channel for a re-read. -/
  | channelExtend (who : Nat) (ch : Nat)
  /-- CHANNEL_STOP (R154): A DOORBELL STOP brings the channel to IDLE, finishing any current station. -/
  | channelStop (who : Nat) (ch : Nat)
  /-- RC_COUNTER_READ (R16): A read of an RC register returns its value and returns it to its reset value in the same access. -/
  | rcCounterRead (slot : Nat) (off : Nat)
  /-- STICKY_FAULT_CLEAR (R630): A privileged write of ones to a W1C sticky fault word clears those bits. -/
  | stickyFaultClear (slot : Nat) (off : Nat) (v : Word)
  /-- REGISTER_WRITE (R99): A write to any other control-window register sets permitted fields or is ignored. -/
  | registerWrite (slot : Nat) (off : Nat) (v : Word)
  /-- FUNCTION_LEVEL_RESET (R68): A PCIe FLR empties the slot's queues, increments epochs, resets sequence expectations and thaws a privileged slot. -/
  | functionLevelReset (slot : Nat)
  /-- PERST_N_ASSERT (R69): PERST_N resets the PCIe endpoint and H0-H3 as a function-level reset of all four functions. -/
  | perstNAssert
  /-- CHANNEL_GRANT (R155): The free engine grants the next waiting channel in round-robin order. -/
  | channelGrant (island : Bool)
  /-- STATION_FETCH (R144): A station is read from the traverse window and checked. -/
  | stationFetch (ch : Nat)
  /-- STATION_COMPLETE (R160): After all data writes are acknowledged the station's STATUS is written back and the channel moves on or parks. -/
  | stationComplete (ch : Nat) (d : List Byte)
  /-- CONTROL_WORD_REREAD (R158): A channel whose tail finished with EXT_PENDING re-reads the tail's CONTROL and continues or parks. -/
  | controlWordReread (ch : Nat)
  /-- DATA_BEAT_BUS_ERROR (R161): A bus error on a data beat finishes the station BAD with its code and the channel continues. -/
  | dataBeatBusError (ch : Nat) (code : Nat) (moved : Nat)
  /-- DEVICE_TARGET_TIMEOUT (R161): A device target silent for 100 µs gives TIMEOUT. -/
  | deviceTargetTimeout (ch : Nat) (moved : Nat)
  /-- PCIE_COMPLETION_TIMEOUT (R161): A host-memory read without completion in 50 ms gives TIMEOUT. -/
  | pcieCompletionTimeout (ch : Nat) (moved : Nat)
  /-- PERIPHERAL_REQUEST_TIMEOUT (R161): A peripheral that has not requested within 1 ms of the station's start finishes it BAD with TIMEOUT. -/
  | peripheralRequestTimeout (ch : Nat)
  /-- PERIPHERAL_WITHDRAW (R161): A peripheral withdrawing during a burst finishes the station SHORT. -/
  | peripheralWithdraw (ch : Nat) (d : List Byte) (taken : Nat)
  /-- PERIPHERAL_RETURN_TIMEOUT (R161): A peripheral absent 1 ms between bursts finishes the station SHORT. -/
  | peripheralReturnTimeout (ch : Nat) (d : List Byte) (taken : Nat)
  /-- GPIO_LEVEL_TAKEN (R114): A new pin level held for DEBOUNCE + 1 samples is taken, counted as an edge and may pulse GLINE. -/
  | gpioLevelTaken (pin : Nat) (high : Bool)
  /-- GPIO_PULSE_END (R114): A mode-3 output returns to its inactive level when PULSE_NS expires. -/
  | gpioPulseEnd (pin : Nat)
  /-- SLEW_END (R169): After the slew's last tick the last set increment returns. -/
  | slewEnd
  /-- LAUNCH_SLOT_FIRE (R180): At its firing time a launch slot pulses its line and advances by its period. -/
  | launchSlotFire (k : Nat)
  /-- FRAME_TRANSMIT (R224): A port chooses its next eligible frame by strict priority and sends it, stamping it if asked. -/
  | frameTransmit (port : Nat)
  /-- TX_FRAME_AT_HEAD (R179): A launch-timed frame reaching the head is sent, held, or dropped as late or far. -/
  | txFrameAtHead (port : Nat) (k : Nat)
  /-- FRAME_LAUNCH (R178): A held frame is released when device time reaches its launch time. -/
  | frameLaunch (port : Nat) (k : Nat)
  /-- REFERENCE_STOP (R187): No valid reference edge within 1.5 periods puts the loop into COAST with cause STOP. -/
  | referenceStop (l : Nat)
  /-- REFERENCE_GLITCH (R187): An out-of-range reference period is ignored and counted in GLITCH_CT. -/
  | referenceGlitch (l : Nat)
  /-- REFERENCE_RATE_CHANGE (R188): A 64-period mean off by over 0.5% drops the reference and coasts the loop with cause RATE. -/
  | referenceRateChange (l : Nat)
  /-- RATE_MEASURE_DONE (R188): After 16 periods the new rate is measured, MER_RATE_CHANGE is sent and the hop table is searched. -/
  | rateMeasureDone (l : Nat) (mhz : Nat)
  /-- REFERENCE_RETURN (R201): 64 valid periods after a fault return the reference and the loop slews or realigns. -/
  | referenceReturn (l : Nat) (err : Int)
  /-- LOOP_LOCK (R190): 64 consecutive comparisons below threshold make the loop LOCKED. -/
  | loopLock (l : Nat)
  /-- LOOP_LOCK_LOSS (R190): One comparison over the loss threshold puts the loop into COAST with cause LOCK. -/
  | loopLockLoss (l : Nat)
  /-- COAST_WINDOW_EXPIRE (R191): An expired coast window switches fed domains to fallback and enters HOLDOVER. -/
  | coastWindowExpire (l : Nat) (sec : Bool)
  /-- BAND_SEARCH_DONE (R196): A band search or hop restores a band and the loop enters ACQUIRE. -/
  | bandSearchDone (l : Nat) (band : Nat) (centre : Nat)
  /-- SEARCH_TIMEOUT (R199): No band within 10 ms leaves the loop OFF with MER_LOOP_FALLBACK. -/
  | searchTimeout (l : Nat)
  /-- HOP_LEARN_DONE (R197): A learn search stores its result in the hop entry and sends the final reply. -/
  | hopLearnDone (l : Nat) (found : Bool) (band : Nat) (centre : Nat)
  /-- REALIGN_BOUNDARY (R203): At B the DCO phase is stepped and the render index reloaded, withholding block ticks if needed. -/
  | realignBoundary (l : Nat)
  /-- REALIGN_TICK_RESUME (R203): Block ticks resume when floor(t × r) passes the last render index used. -/
  | realignTickResume
  /-- REALIGN_FADE_IN_DONE (R199): After the 64-sample fade-in the loop enters LOCKED. -/
  | realignFadeInDone (l : Nat)
  /-- BLOCK_TICK (R32): At each block tick the exchange banks swap and the fabric, gauge, loops and tables act. -/
  | blockTick (t : TickIn)
  /-- DIRECT_TICK (R403): At every fourth render index the direct-lane banks change hands and direct work is judged. -/
  | directTick (missed : Bool) (ins : List (Nat × List Int))
  /-- VCODE_FALL (R351): After 64 blocks at ample slack VCODE falls by 1. -/
  | vcodeFall
  /-- SHED_RISE (R356): After 8 short blocks at CEIL, SHED_LEVEL rises and FAB_SHED is sent. -/
  | shedRise
  /-- SHED_FALL (R357): After 256 blocks at ample slack SHED_LEVEL falls by 1. -/
  | shedFall
  /-- VCODE_RAMP_STEP (R367): VCODE moves one code per 10 µs towards a lowered ceiling or a target band. -/
  | vcodeRampStep
  /-- VDD_READBACK_CHECK (R353): 1 ms after a setpoint write the read-back is judged and FAB_VDD_FAULT freezes VCODE on mismatch. -/
  | vddReadbackCheck (ack : Bool) (mv : Nat)
  /-- PM_ALERT (R649): PM_ALERT_N low makes the device read status and output and clear or act on the fault. -/
  | pmAlert (mv : Nat)
  /-- THERMAL_READ (R354): Every 1 ms the sensors are read and the Summit ceiling is lowered or restored. -/
  | thermalRead (t : List Int)
  /-- PROFILE_CHANGE_APPLY (R367): A pending profile change applies at the first eligible boundary with prerequisites met. -/
  | profileChangeApply
  /-- PARTITION_USABLE (R367): A powered-up partition becomes usable within 250 µs. -/
  | partitionUsable (n : Nat)
  /-- PARTITION_GATE (R369): Partitions the new profile does not power are gated one block after the change. -/
  | partitionGate
  /-- PROGRAM_SWAP (R400): At B the idle program becomes running, state transfers and the crossfade begins. -/
  | programSwap
  /-- SWAP_CROSSFADE_END (R401): At B + W only the new program runs and the old bank becomes idle and LOADED. -/
  | swapCrossfadeEnd
  /-- ALM_LOAD_DONE (R397): The copied image passes or fails the load checks and the bank becomes LOADED or EMPTY. -/
  | almLoadDone
  /-- GAIN_STEP (R388): A pending gain step applies at a zero crossing of the signal at its point. -/
  | gainStep (reg : Nat) (x : Int)
  /-- GAIN_STEP_TIMEOUT (R388): A gain step without a zero crossing applies at the TIMEOUT-th sample. -/
  | gainStepTimeout (reg : Nat)
  /-- PLAYER_DONE (R409): A player ends its last repeat, presents zero and sends ALM_PLAY_DONE. -/
  | playerDone (pl : Nat)
  /-- DIRECT_SOURCE_CHANGE (R405): A direct-lane source becomes unusable or usable again and ALM_DIRECT_IDLE is sent. -/
  | directSourceChange (lane : Nat) (inp : Nat)
  /-- DIRECT_LANE_FADE_END (R406): A disabled lane's fade-out ends and its sink has no writer. -/
  | directLaneFadeEnd (lane : Nat)
  /-- TAP_FADE_END (R446): A tap's 256-sample fade ends and it becomes steady or its entry is freed. -/
  | tapFadeEnd (tap : Nat)
  /-- MESH_ADOPT (R435): A checked mesh is adopted at the next boundary, MESH flags are set and OBJ_MESH_LOADED is sent. -/
  | meshAdopt
  /-- MESH_LOAD_DONE (R435): A mesh image read finishes and its checks decide the final reply. -/
  | meshLoadDone
  /-- CORRECTION_SWAP (R474): At B a feed's banks are checked and exchanged with a 512-sample crossfade. -/
  | correctionSwap (feed : Nat)
  /-- COR_CROSSFADE_END (R472): At B + 512 the incoming bank runs alone and COR_SWAPPED is sent. -/
  | corCrossfadeEnd (feed : Nat)
  /-- COR_COMPACT_DONE (R466): Compaction ends and its final reply reports runs moved. -/
  | corCompactDone
  /-- BIQUAD_FADE_END (R484): A FADE-mode section's 64-sample crossfade ends and the old section is discarded. -/
  | biquadFadeEnd (unit : Nat) (sec : Nat)
  /-- FRAME_RECEIVE (R216): A received frame passes size, filter, wake, stream, PTP, rule and management stages. -/
  | frameReceive (port : Nat) (f : List Byte) (fcs : Bool)
  /-- PAUSE_EXPIRE (R228): A pause time runs out and transmission resumes. -/
  | pauseExpire (port : Nat)
  /-- LINK_UP (R209): A port's link comes up and its readiness bit sets. -/
  | linkUp (port : Nat)
  /-- LINK_DOWN (R209): A port's link goes down and its readiness bit clears. -/
  | linkDown (port : Nat)
  /-- LPI_ENTER (R233): After LPI_IDLE with nothing due the transmitter enters low-power idle. -/
  | lpiEnter (port : Nat)
  /-- LPI_EXIT (R234): The transmitter leaves low-power idle before a launch time or for an eligible frame. -/
  | lpiExit (port : Nat)
  /-- WAKE_HOLD_EXPIRE (R223): A wake hold expires and the partition returns to the profile's state. -/
  | wakeHoldExpire (w : Nat)
  /-- PLCA_BEACON_LOSS (R236): A follower without beacon for 4 ms falls back to CSMA/CD and sends FB_PLCA_DOWN. -/
  | plcaBeaconLoss
  /-- PLCA_BEACON_SEEN (R236): A beacon returns a follower to PLCA, or stops a coordinator that did not send it. -/
  | plcaBeaconSeen
  /-- CSMA_COLLISION (R237): A collision is counted and backed off, dropping the frame after 16 attempts. -/
  | csmaCollision
  /-- ROLL_CALL (R242): Every CALL_MS the roll caller judges missed calls and sends CALL. -/
  | rollCall
  /-- FB_ANSWER (R242): An ANSWER makes a node present, new or reassigned. -/
  | fbAnswer (f : List Byte)
  /-- FB_ASSIGN (R243): A follower records an ASSIGN in its node table. -/
  | fbAssign (f : List Byte)
  /-- FB_LEAVE (R242): A LEAVE makes the node absent. -/
  | fbLeave (f : List Byte)
  /-- FB_REPORT (R531): A REPORT raises or clears line faults of matching supervision entries. -/
  | fbReport (f : List Byte)
  /-- FB_TRIGGER (R532): A TRIGGER matching a trigger-map entry raises its request. -/
  | fbTrigger (f : List Byte)
  /-- STREAM_PACKET_FORM (R285): A transmit packet is formed with its timestamps and launch time, or held on a Backsight. -/
  | streamPacketForm (so : Nat)
  /-- STREAM_ABSENT (R275): No accepted packet for ABSENT_PKTS packet times makes the entry ABSENT. -/
  | streamAbsent (si : Nat)
  /-- PATH_ABSENT (R274): One path of a DUAL entry goes absent and STR_PATH_DOWN is sent. -/
  | pathAbsent (si : Nat) (path : Nat)
  /-- ASRC_LOCK (R281): A TRACK group locks after 200 ms within 1 ppm and its members fade in. -/
  | asrcLock (g : Nat) (ppb : Int)
  /-- NON_AUDIO_DETECT (R334): A burst preamble mutes the pair at once and sends STR_NON_AUDIO. -/
  | nonAudioDetect (iface : Nat) (pair : Nat) (even : Nat) (odd : Nat)
  /-- NON_AUDIO_HOLD_END (R334): 4,096 frames after the last preamble the pair fades back in. -/
  | nonAudioHoldEnd (iface : Nat) (pair : Nat)
  /-- SAP_ANNOUNCE (R293): Every 30 s firmware announces each announced AES67 transmit entry. -/
  | sapAnnounce (so : Nat)
  /-- ADP_ENTITY_AVAILABLE (R293): Every 5 s firmware sends ADP ENTITY_AVAILABLE. -/
  | adpEntityAvailable
  /-- SDP_SESSION_EXPIRE (R293): A remote SDP session is removed 300 s after its last announcement. -/
  | sdpSessionExpire (idx : Nat)
  /-- ACMP_CONNECT (R293): An ACMP connection binds or unbinds an entry and sends STR_BOUND. -/
  | acmpConnect (tx : Bool) (idx : Nat) (on : Bool) (id : List Byte) (dmac : List Byte) (vid : Nat)
  /-- SERIAL_CLOCK_STOP (R323): A slave port or receiver loses its clock and becomes CLOCK_LOST with STOP. -/
  | serialClockStop (k : Nat)
  /-- SERIAL_RATE_CHANGE (R323): A serial clock changes rate and the interface becomes CLOCK_LOST with RATE or is re-rated. -/
  | serialRateChange (k : Nat) (hz : Nat)
  /-- SERIAL_CLOCK_RETURN (R323): A serial clock returns and the interface realigns and runs. -/
  | serialClockReturn (k : Nat) (hz : Nat)
  /-- SERIAL_FS_GLITCH (R323): A glitch period of a serial clock is counted in FS_GLITCH. -/
  | serialFsGlitch (k : Nat)
  /-- BITCOUNT_ERROR (R322): A slave frame with the wrong bit count repeats the previous samples; 16 in a row stop the port. -/
  | bitcountError (p : Nat) (again : Bool)
  /-- SERIAL_SLIP (R313): Drift of one block length repeats or skips L frames with fades. -/
  | serialSlip (k : Nat) (slow : Bool)
  /-- TDM_MASK_LATCH (R319): At a frame-sync edge accepted masks latch, or PENDING_COUPLE is raised. -/
  | tdmMaskLatch (p : Nat)
  /-- TDM_FRAMING_CHANGE (R317): A new framing takes hold at the frame-sync of the first block-aligned frame. -/
  | tdmFramingChange (p : Nat)
  /-- AES_SUBFRAME_ERROR (R327): A parity or biphase error replaces the sample and is counted. -/
  | aesSubframeError (n : Nat) (kind : Nat)
  /-- AES_CS_BLOCK (R328): A complete channel-status block is checked and stored. -/
  | aesCsBlock (n : Nat) (d : List Byte)
  /-- AES_RECEIVER_LOCK (R325): A receiver locks after 64 valid frames at a nominal rate. -/
  | aesReceiverLock (n : Nat) (hz : Nat)
  /-- SIGHT_SYNC_SEND (R246): Every 1 ms until ready, a SYNC is broadcast on Port S. -/
  | sightSyncSend
  /-- SIGHT_SYNC_RECEIVE (R246): A SYNC is acknowledged, learned, or restarts the transport. -/
  | sightSyncReceive (f : List Byte)
  /-- SIGHT_ACK_RECEIVE (R247): An ACK advances acknowledgement and may make the transport ready. -/
  | sightAckReceive (f : List Byte)
  /-- SIGHT_ACK_TIMER (R247): With no own frame within 10 µs an ACK is sent. -/
  | sightAckTimer
  /-- SIGHT_RETRANSMIT (R247): ACKSEQ stalled for 50 µs resends from the oldest unacknowledged frame. -/
  | sightRetransmit
  /-- PEER_HEARTBEAT (R587): A received HEARTBEAT updates peer state, PEER requests and continuity checks. -/
  | peerHeartbeat (f : List Byte)
  /-- SIGHT_COMMAND_RECEIVE (R591): A mirrored command arrives for application at its boundary in MSEQ order. -/
  | sightCommandReceive (f : List Byte)
  /-- SIGHT_RESULT_RECEIVE (R593): A Backsight's command result reaches the Foresight and is compared. -/
  | sightResultReceive (f : List Byte)
  /-- SIGHT_SNAPSHOT_RECEIVE (R607): Snapshot entries reach a joiner. -/
  | sightSnapshotReceive (f : List Byte)
  /-- SIGHT_IMAGE_RECEIVE (R607): Image data for a program bank, mesh or overlay reaches a joiner. -/
  | sightImageReceive (f : List Byte)
  /-- STREAM_STATE_RECEIVE (R595): Continuity records arrive for adoption at their RI_BASE. -/
  | streamStateReceive (f : List Byte)
  /-- MEMORY_WRITE_RECEIVE (R594): A mirrored memory write is written, or freezes the sight line if outside the mirrored regions. -/
  | memoryWriteReceive (f : List Byte)
  /-- JOIN_REQUEST (R584): The Foresight accepts or refuses a joiner. -/
  | joinRequest (f : List Byte)
  /-- JOIN_ACCEPT (R607): The joiner enters JOINING and MSEQ restarts at 1. -/
  | joinAccept (f : List Byte)
  /-- JOIN_DONE (R607): The Foresight enters FORESIGHT. -/
  | joinDone (f : List Byte)
  /-- HANDOVER (R605): The Backsight accepts a handover at H and answers HANDOVER_ACK. -/
  | handover (f : List Byte)
  /-- HANDOVER_ACK (R605): The Foresight learns that the peer accepts the handover. -/
  | handoverAck (f : List Byte)
  /-- TAKEOVER (R603): The old Foresight learns of the takeover and stays held. -/
  | takeover (f : List Byte)
  /-- LEAVE (R609): A peer's LEAVE sends the Backsight to SEEKING. -/
  | leave (f : List Byte)
  /-- REFUSE (R584): A joiner is told why its JOIN_REQUEST was refused. -/
  | refuse (f : List Byte)
  /-- PAIR_TAKEOVER (R602): At the third consecutive miss the Backsight releases outputs, replays frames and becomes ALONE. -/
  | pairTakeover
  /-- FENCE_WAIT_EXPIRE (R601): A fence still asserted 2 blocks after the third miss makes the device ISOLATED. -/
  | fenceWaitExpire
  /-- FENCE_CONFLICT (R586): FENCE_IN asserted for a block makes an active PAIR_ID 1 device hold and seek. -/
  | fenceConflict
  /-- FORESIGHT_HOLD (R603): After its third withheld heartbeat a Foresight holds its shared outputs. -/
  | foresightHold
  /-- FORESIGHT_RELEASE (R603): Without a takeover within one block the held Foresight releases its outputs. -/
  | foresightRelease
  /-- FORESIGHT_REJOIN (R603): After 3 s of own heartbeats a held old Foresight rejoins as Backsight. -/
  | foresightRejoin
  /-- PAIR_SEEK_TIMEOUT (R583): No SYNC within the seek time makes the device ALONE. -/
  | pairSeekTimeout
  /-- JOIN_SNAPSHOT_START (R607): At J the joiner starts from the snapshot and enters BACKSIGHT. -/
  | joinSnapshotStart
  /-- PAIR_SETTLED (R607): At J + 3 s SETTLED and PAIR set and PAIR_FORMED is sent. -/
  | pairSettled
  /-- HANDOVER_BOUNDARY (R605): At H the active role, outputs and fence move to the new device. -/
  | handoverBoundary
  /-- HANDOVER_ABANDON (R605): Without HANDOVER_ACK by H - 2L the handover is abandoned with TIMEOUT. -/
  | handoverAbandon
  /-- PAIR_SKEW (R608): PEER_OFFSET above 5 µs for 1 s sends PAIR_SKEW. -/
  | pairSkew
  /-- ISLAND_INPUT_SAMPLE (R504): Every 250 µs each safety input voltage is sampled into a band. -/
  | islandInputSample (mv : List Nat) (ins : List (Nat × List Int))
  /-- INPUT_STATE_CHANGE (R505): DEBOUNCE samples in one band change the input state and raise or release faults and requests. -/
  | inputStateChange (inp : Nat)
  /-- INPUT_BAND_TIMEOUT (R505): 1 s in BETWEEN raises fault INPUT_BAND. -/
  | inputBandTimeout (inp : Nat)
  /-- DELEGATION_APPLY (R523): With all heartbeats present the island applies the request's overlay at boundary A. -/
  | delegationApply (r : Nat)
  /-- DELEGATION_HANDOFF (R523): D + 3 blocks after A the request's sinks become DELEGATED and SAF_DELEGATED is sent. -/
  | delegationHandoff (r : Nat)
  /-- FABRIC_HB_MISS (R522): HB_FAB missed fabric heartbeats raise FABRIC_HB and take over delegated requests. -/
  | fabricHbMiss
  /-- FIRMWARE_HEARTBEAT (R522): A control-cluster firmware heartbeat reaches the island. -/
  | firmwareHeartbeat
  /-- FIRMWARE_HB_TIMEOUT (R522): No firmware heartbeat for HB_FW ms raises FIRMWARE_HB and takes over. -/
  | firmwareHbTimeout
  /-- HOST_HB_TIMEOUT (R522): No host heartbeat for HB_HOST ms raises HOST_HB and takes over. -/
  | hostHbTimeout
  /-- DELEGATION_RETURN (R524): After RETURN_S of healthy heartbeats a TAKEN_OVER request returns to DIRECT_START. -/
  | delegationReturn (r : Nat)
  /-- ISLAND_OVERLAY_REMOVE (R525): An ended request's overlay is removed at the next block boundary. -/
  | islandOverlayRemove (n : Nat)
  /-- REPORT_SILENT (R531): No REPORT for REPORT_TO raises fault REPORT_SILENT. -/
  | reportSilent (e : Nat)
  /-- TRIGGER_HOLD_EXPIRE (R532): TRIG_HOLD after the last TRIGGER a non-latched request is released. -/
  | triggerHoldExpire (r : Nat)
  /-- ISLAND_TIME_COMPARE (R503): Once per second island time steps or slews towards device time. -/
  | islandTimeCompare
  /-- ISLAND_WATCHDOG_EXPIRE (R500): An unserved island watchdog resets the island. -/
  | islandWatchdogExpire
  /-- LOCKSTEP_MISMATCH (R500): A lockstep mismatch resets the island. -/
  | lockstepMismatch
  /-- LS_RESET_N_ASSERT (R541): LS_RESET_N restarts the island with latched requests kept. -/
  | lsResetNAssert
  /-- ISLAND_READY (R495): 120 ms after power-good and reset release the island is ready, having verified firmware. -/
  | islandReady
  /-- VDD_LS_POWER_GOOD (R644): VDD_LS rises above 4.3 V and the island starts. -/
  | vddLsPowerGood
  /-- VDD_LS_LOSS (R644): VDD_LS below 4.1 V for 20 µs makes the island absent. -/
  | vddLsLoss
  /-- SERVICE_PACKET_WRITE (R535): Instruction 0x40 delivers a wrapped packet to the island service port for checking. -/
  | servicePacketWrite (d : List Byte)
  /-- SERVICE_REPLY_READ (R535): Instruction 0x41 returns the oldest waiting wrapped reply or event. -/
  | serviceReplyRead
  /-- MESSAGE_LOAD_DONE (R530): A message copy is checked and becomes VALID or BAD. -/
  | messageLoadDone
  /-- ISLAND_BANK_VERIFIED (R626): 60 s ready on a new island bank makes it the last verified bank. -/
  | islandBankVerified
  /-- DATUM_FETCH_DONE (R556): The datum image is in the idle slot and CHECK begins. -/
  | datumFetchDone
  /-- DATUM_CHECK_DONE (R556): The datum checks pass, fading level-0 content towards B, or fail with DAT_LOAD_FAILED. -/
  | datumCheckDone
  /-- DATUM_BOUNDARY (R557): At B readiness clears, overlays are removed, delegated requests go direct and tables start from reset. -/
  | datumBoundary
  /-- DATUM_APPLY_DONE (R556): Every entry has been written in image order. -/
  | datumApplyDone
  /-- DATUM_ACTIVATE (R556): At the next boundary the profile is active, readiness sets, content fades in and DAT_LOADED is sent. -/
  | datumActivate
  /-- DAT_STORE_DONE (R560): The flash datum slot has been written, CRC last. -/
  | datStoreDone
  /-- OVERLAY_APPLY_BOUNDARY (R562): At its boundary an overlay is rechecked and all its entries take hold. -/
  | overlayApplyBoundary (n : Nat)
  /-- OVERLAY_REMOVE_BOUNDARY (R566): At its boundary an overlay is removed and its keys uncover. -/
  | overlayRemoveBoundary (n : Nat)
  /-- OVERLAY_RESUME (R565): A suspended host overlay resumes at the boundary after a place frees. -/
  | overlayResume (n : Nat)
  /-- OTP_PROGRAM_DONE (R574): Programming and read-backs end, the generation becomes VALID or SPENT, and the final reply is sent. -/
  | otpProgramDone (step : Nat)
  /-- FW_STAGE_DONE (R626): The staged bank reads back and SYS_FW_STAGED and the final reply are sent. -/
  | fwStageDone
  /-- TRIAL_AUTO_CONFIRM (R627): 60 s on the trial bank without restart confirms it under AUTO_CONFIRM. -/
  | trialAutoConfirm
  /-- TRIAL_TIMEOUT (R627): No confirmation within 600 s reverts to the verified bank. -/
  | trialTimeout
  /-- MAIN_SUPPLY_LOSS (R643): A main supply below its loss threshold for 2 µs causes a power-on reset. -/
  | mainSupplyLoss
  /-- RESET_N_ASSERT (R611): RESET_N low starts an external main reset. -/
  | resetNAssert
  /-- RESET_N_RELEASE (R623): RESET_N release samples straps and starts the bring-up timeline. -/
  | resetNRelease (boot : Nat) (pair : Bool)
  /-- TIME_START (R166): 20 ms after release device time starts from 0:0.0 and TIME sets. -/
  | timeStart
  /-- FIELD_STORE_SELFTEST_DONE (R624): The field-store self-test ends, setting FIELD_STORE or FS_TEST. -/
  | fieldStoreSelftestDone (ok : Bool)
  /-- LONG_STORE_TRAINED (R624): Long-store training ends, setting LONG_STORE or LS_TRAIN. -/
  | longStoreTrained (ok : Bool)
  /-- FIRMWARE_BOOT (R620): The ROM chooses and verifies a bank, boots it or enters recovery or halt, and SYS_BOOT is offered. -/
  | firmwareBoot
  /-- FABRIC_SELFTEST_DONE (R370): The partition self-test ends, failed partitions stay gated and FABRIC sets if FP0 passed. -/
  | fabricSelftestDone (failed : Nat)
  /-- CLUSTER_WATCHDOG_EXPIRE (R614): 100 ms without watchdog service restarts the control cluster. -/
  | clusterWatchdogExpire
  /-- FIRMWARE_FATAL_ERROR (R614): A firmware fatal error restarts the control cluster. -/
  | firmwareFatalError
  /-- CLUSTER_READY (R625): After a cluster restart HOST_QUEUES sets, SYS_BOOT is offered and pending events are delivered. -/
  | clusterReady
  /-- COMMAND_RESET (R634): 1 ms after SYS_RESET sends ACCEPTED, the command main reset takes hold. -/
  | commandReset (boot : Nat) (pair : Bool)
  /-- ISLAND_RESTART (R544): 1 ms after SAF_RESTART sends ACCEPTED, the island restarts as LS_RESET_N would, and the ROM chooses its bank. -/
  | islandRestart
  /-- LS_RESET_N_RELEASE (R495): Release of LS_RESET_N lets the island start, and it becomes ready 120 ms later. -/
  | lsResetNRelease
  /-- LPI_RX_ENTRY (R234): The link partner enters low-power idle, and LPI_RX_ENTRIES counts it. -/
  | lpiRxEntry (port : Nat)
  deriving DecidableEq, Repr

end Sys2Proof
end

