-- ==== Sys2Proof/Decode.lean ====
section
/-!
DEFINITION. Sys2Proof/Decode.lean: what a word spells. No row of the opcode table gives bits: a
command arrives as a packet, a register access or an event, so no word spells a command.
-/
namespace Sys2Proof

/-- The command a word spells by the table's bits: none, for the table gives no row bits. -/
def decodeTableWord (_nbits _w : Nat) : Option Instr := none

end Sys2Proof
end

