-- ==== Sys2Proof/Machine/Bits.lean ====
section
/-!
DEFINITION. Sys2Proof/Machine/Bits.lean: little-endian readers and writers (R12), signed fields,
the two check codes of Table 0-2, and the operations of a sparse table.
-/
namespace Sys2Proof.Machine

/-! ## Little-endian fields (R12) -/

/-- The number a little-endian byte list spells. -/
def leNat : List Byte → Nat
  | [] => 0
  | b :: bs => b.toNat + 256 * leNat bs

/-- `n` bytes from offset `o`. -/
def slice (b : List Byte) (o n : Nat) : List Byte := (b.drop o).take n

/-- The unsigned field of `n` bytes at offset `o`; bytes past the end read as zero. -/
def un (n : Nat) (b : List Byte) (o : Nat) : Nat := leNat (slice b o n)

def u8 (b : List Byte) (o : Nat) : Nat := un 1 b o
def u16 (b : List Byte) (o : Nat) : Nat := un 2 b o
def u32 (b : List Byte) (o : Nat) : Nat := un 4 b o
def u40 (b : List Byte) (o : Nat) : Nat := un 5 b o
def u48 (b : List Byte) (o : Nat) : Nat := un 6 b o
def u64 (b : List Byte) (o : Nat) : Nat := un 8 b o

/-- Two's complement of width `w`. -/
def signed (w v : Nat) : Int := if 2 * v < 2 ^ w then (v : Int) else (v : Int) - (2 ^ w : Nat)

def i16 (b : List Byte) (o : Nat) : Int := signed 16 (u16 b o)
def i32 (b : List Byte) (o : Nat) : Int := signed 32 (u32 b o)
def i64 (b : List Byte) (o : Nat) : Int := signed 64 (u64 b o)

/-- `n` bytes, little-endian, of a natural number modulo 2^(8n). -/
def le : Nat → Nat → List Byte
  | 0, _ => []
  | n + 1, v => BitVec.ofNat 8 v :: le n (v / 256)

/-- The unsigned form of a signed number in width `w`. -/
def unsigned (w : Nat) (v : Int) : Nat := (v % (2 ^ w : Nat)).toNat

/-- `n` bytes, little-endian, of a signed number. -/
def leI (n : Nat) (v : Int) : List Byte := le n (unsigned (8 * n) v)

/-- `n` zero bytes. -/
def zeros (n : Nat) : List Byte := List.replicate n 0

/-- Every byte of the field is zero (R15). -/
def zeroAt (b : List Byte) (o n : Nat) : Bool := un n b o == 0

/-- Bits [hi:lo] of a number. -/
def bitsOf (v hi lo : Nat) : Nat := (v / 2 ^ lo) % 2 ^ (hi + 1 - lo)

/-- Bit `i` of a number. -/
def bitOf (v i : Nat) : Bool := v.testBit i

/-- 1 or 0. -/
def b2n (b : Bool) : Nat := if b then 1 else 0

/-- Big-endian number, for fields inside network frames (R12). -/
def beNat (b : List Byte) : Nat := leNat b.reverse

def be (n v : Nat) : List Byte := (le n v).reverse

/-- Field of `n` bytes at `o`, big-endian. -/
def ub (n : Nat) (b : List Byte) (o : Nat) : Nat := beNat (slice b o n)

/-- Clamp to an interval. -/
def clampI (lo hi v : Int) : Int := max lo (min hi v)

/-- Saturate a signed number to 32 bits. -/
def sat32 (v : Int) : Int := clampI (-2147483648) 2147483647 v

/-! ## Check codes (Table 0-2) -/

/-- One bit step of CRC-32C, reflected. -/
def crc32Bit (c : Nat) : Nat := if c % 2 = 1 then (c / 2) ^^^ 0x82F63B78 else c / 2

def crc32Byte (c : Nat) (b : Byte) : Nat :=
  crc32Bit (crc32Bit (crc32Bit (crc32Bit (crc32Bit (crc32Bit (crc32Bit (crc32Bit (c ^^^ b.toNat))))))))

/-- CRC-32C (R13). -/
def crc32c (bs : List Byte) : Nat := (bs.foldl crc32Byte 0xFFFFFFFF) ^^^ 0xFFFFFFFF

/-- One bit step of CRC-16/CCITT-FALSE. -/
def crc16Bit (c : Nat) : Nat := if c.testBit 15 then ((2 * c) % 65536) ^^^ 0x1021 else 2 * c

def crc16Byte (c : Nat) (b : Byte) : Nat :=
  crc16Bit (crc16Bit (crc16Bit (crc16Bit (crc16Bit (crc16Bit (crc16Bit (crc16Bit
    (c ^^^ (b.toNat * 256)))))))))

/-- CRC-16/CCITT-FALSE (R13). -/
def crc16 (bs : List Byte) : Nat := bs.foldl crc16Byte 0xFFFF

/-! ## Sparse tables -/

/-- The value at key `i`, or the default `d`. -/
def tget {α : Type} (d : α) : Tab α → Nat → α
  | [], _ => d
  | (k, v) :: t, i => if i = k then v else if i < k then d else tget d t i

/-- What is left of a table from above key `i` on. -/
def tskip {α : Type} (i : Nat) : Tab α → Tab α
  | [] => []
  | (k, v) :: t => if k ≤ i then tskip i t else (k, v) :: t

/-- Set the value at key `i`, keeping the canonical form. -/
def tput {α : Type} [DecidableEq α] (d : α) : Tab α → Nat → α → Tab α
  | [], i, v => if v = d then [] else [(i, v)]
  | (k, w) :: t, i, v =>
    if i < k then (if v = d then (k, w) :: t else (i, v) :: (k, w) :: t)
    else if i = k then (if v = d then tskip i t else (i, v) :: t)
    else (k, w) :: tput d t i v

/-- Change the value at key `i` by a function. -/
def tmod {α : Type} [DecidableEq α] (d : α) (t : Tab α) (i : Nat) (f : α → α) : Tab α :=
  tput d t i (f (tget d t i))

/-- Every key is above `i`. -/
def tabove {α : Type} (i : Nat) : Tab α → Bool
  | [] => true
  | (k, _) :: t => decide (i < k) && tabove i t

/-- The canonical form: keys strictly rising, no value equal to the default. -/
def twf {α : Type} [DecidableEq α] (d : α) : Tab α → Bool
  | [] => true
  | (k, v) :: t => tabove k t && (!decide (v = d)) && twf d t

/-! ## Memory: a sparse table of bytes that reads 0 where nothing is listed -/

/-- The canonical form of a memory. -/
def Memory.wf (m : Tab Byte) : Bool := twf 0 m

def readByte (m : Tab Byte) (a : Nat) : Byte := tget 0 m a

def writeByte (m : Tab Byte) (a : Nat) (b : Byte) : Tab Byte := tput 0 m a b

def readBytes (m : Tab Byte) (a : Nat) : Nat → List Byte
  | 0 => []
  | n + 1 => readByte m a :: readBytes m (a + 1) n

def writeBytes (m : Tab Byte) (a : Nat) : List Byte → Tab Byte
  | [] => m
  | b :: bs => writeBytes (writeByte m a b) (a + 1) bs

end Sys2Proof.Machine
end

