-- ==== Sys2Proof/Machine/Digest.lean ====
section
/-!
DEFINITION. Sys2Proof/Machine/Digest.lean: SHA-256 and SHA-384, HMAC-SHA-256 and the verification of an ECDSA P-384
signature, which the spec names (R71, R496, R618, Table 2-4, Table 15-4) and leaves to their standards (FIPS 180-4,
RFC 2104, FIPS 186-5; PRESUMED, notes/assumptions/4.md).
-/
namespace Sys2Proof.Machine

/-! ## SHA-2 -/

def sha256K0 : List (BitVec 32) :=
  [0x428a2f98, 0x71374491, 0xb5c0fbcf, 0xe9b5dba5, 0x3956c25b, 0x59f111f1, 0x923f82a4, 0xab1c5ed5,
   0xd807aa98, 0x12835b01, 0x243185be, 0x550c7dc3, 0x72be5d74, 0x80deb1fe, 0x9bdc06a7, 0xc19bf174]

def sha256K1 : List (BitVec 32) :=
  [0xe49b69c1, 0xefbe4786, 0x0fc19dc6, 0x240ca1cc, 0x2de92c6f, 0x4a7484aa, 0x5cb0a9dc, 0x76f988da,
   0x983e5152, 0xa831c66d, 0xb00327c8, 0xbf597fc7, 0xc6e00bf3, 0xd5a79147, 0x06ca6351, 0x14292967]

def sha256K2 : List (BitVec 32) :=
  [0x27b70a85, 0x2e1b2138, 0x4d2c6dfc, 0x53380d13, 0x650a7354, 0x766a0abb, 0x81c2c92e, 0x92722c85,
   0xa2bfe8a1, 0xa81a664b, 0xc24b8b70, 0xc76c51a3, 0xd192e819, 0xd6990624, 0xf40e3585, 0x106aa070]

def sha256K3 : List (BitVec 32) :=
  [0x19a4c116, 0x1e376c08, 0x2748774c, 0x34b0bcb5, 0x391c0cb3, 0x4ed8aa4a, 0x5b9cca4f, 0x682e6ff3,
   0x748f82ee, 0x78a5636f, 0x84c87814, 0x8cc70208, 0x90befffa, 0xa4506ceb, 0xbef9a3f7, 0xc67178f2]

/-- The round constants of SHA-256: the cube roots of the first 64 primes. -/
def sha256K : List (BitVec 32) := sha256K0 ++ sha256K1 ++ sha256K2 ++ sha256K3

def sha384K0 : List (BitVec 64) :=
  [0x428a2f98d728ae22, 0x7137449123ef65cd, 0xb5c0fbcfec4d3b2f, 0xe9b5dba58189dbbc,
   0x3956c25bf348b538, 0x59f111f1b605d019, 0x923f82a4af194f9b, 0xab1c5ed5da6d8118,
   0xd807aa98a3030242, 0x12835b0145706fbe, 0x243185be4ee4b28c, 0x550c7dc3d5ffb4e2,
   0x72be5d74f27b896f, 0x80deb1fe3b1696b1, 0x9bdc06a725c71235, 0xc19bf174cf692694,
   0xe49b69c19ef14ad2, 0xefbe4786384f25e3, 0x0fc19dc68b8cd5b5, 0x240ca1cc77ac9c65]

def sha384K1 : List (BitVec 64) :=
  [0x2de92c6f592b0275, 0x4a7484aa6ea6e483, 0x5cb0a9dcbd41fbd4, 0x76f988da831153b5,
   0x983e5152ee66dfab, 0xa831c66d2db43210, 0xb00327c898fb213f, 0xbf597fc7beef0ee4,
   0xc6e00bf33da88fc2, 0xd5a79147930aa725, 0x06ca6351e003826f, 0x142929670a0e6e70,
   0x27b70a8546d22ffc, 0x2e1b21385c26c926, 0x4d2c6dfc5ac42aed, 0x53380d139d95b3df,
   0x650a73548baf63de, 0x766a0abb3c77b2a8, 0x81c2c92e47edaee6, 0x92722c851482353b]

def sha384K2 : List (BitVec 64) :=
  [0xa2bfe8a14cf10364, 0xa81a664bbc423001, 0xc24b8b70d0f89791, 0xc76c51a30654be30,
   0xd192e819d6ef5218, 0xd69906245565a910, 0xf40e35855771202a, 0x106aa07032bbd1b8,
   0x19a4c116b8d2d0c8, 0x1e376c085141ab53, 0x2748774cdf8eeb99, 0x34b0bcb5e19b48a8,
   0x391c0cb3c5c95a63, 0x4ed8aa4ae3418acb, 0x5b9cca4f7763e373, 0x682e6ff3d6b2b8a3,
   0x748f82ee5defb2fc, 0x78a5636f43172f60, 0x84c87814a1f0ab72, 0x8cc702081a6439ec]

def sha384K3 : List (BitVec 64) :=
  [0x90befffa23631e28, 0xa4506cebde82bde9, 0xbef9a3f7b2c67915, 0xc67178f2e372532b,
   0xca273eceea26619c, 0xd186b8c721c0c207, 0xeada7dd6cde0eb1e, 0xf57d4f7fee6ed178,
   0x06f067aa72176fba, 0x0a637dc5a2c898a6, 0x113f9804bef90dae, 0x1b710b35131c471b,
   0x28db77f523047d84, 0x32caab7b40c72493, 0x3c9ebe0a15c9bebc, 0x431d67c49c100d4c,
   0x4cc5d4becb3e42b6, 0x597f299cfc657e2a, 0x5fcb6fab3ad6faec, 0x6c44198c4a475817]

/-- The round constants of SHA-384: the cube roots of the first 80 primes. -/
def sha384K : List (BitVec 64) := sha384K0 ++ sha384K1 ++ sha384K2 ++ sha384K3

def sha256Start : List (BitVec 32) :=
  [0x6a09e667, 0xbb67ae85, 0x3c6ef372, 0xa54ff53a, 0x510e527f, 0x9b05688c, 0x1f83d9ab, 0x5be0cd19]

def sha384Start : List (BitVec 64) :=
  [0xcbbb9d5dc1059ed8, 0x629a292a367cd507, 0x9159015a3070dd17, 0x152fecd8f70e5939,
   0x67332667ffc00b31, 0x8eb44a8768581511, 0xdb0c2e0d64f98fa7, 0x47b5481dbefa4fa4]

/-- Amounts of one of the four mixing functions: two rotations, and a third rotation or a shift. -/
structure ShaMix where
  r1    : Nat
  r2    : Nat
  r3    : Nat
  shift : Bool
  deriving DecidableEq, Repr

def ShaMix.of {w : Nat} (m : ShaMix) (x : BitVec w) : BitVec w :=
  x.rotateRight m.r1 ^^^ x.rotateRight m.r2 ^^^ (if m.shift then x >>> m.r3 else x.rotateRight m.r3)

/-- What tells SHA-256 from SHA-384: its constants and its mixing functions. -/
structure ShaKind (w : Nat) where
  keys   : List (BitVec w)
  start  : List (BitVec w)
  big0   : ShaMix
  big1   : ShaMix
  small0 : ShaMix
  small1 : ShaMix
  deriving DecidableEq, Repr

def sha256Kind : ShaKind 32 :=
  { keys := sha256K, start := sha256Start, big0 := ⟨2, 13, 22, false⟩, big1 := ⟨6, 11, 25, false⟩
    small0 := ⟨7, 18, 3, true⟩, small1 := ⟨17, 19, 10, true⟩ }

def sha384Kind : ShaKind 64 :=
  { keys := sha384K, start := sha384Start, big0 := ⟨28, 34, 39, false⟩, big1 := ⟨14, 18, 41, false⟩
    small0 := ⟨1, 8, 7, true⟩, small1 := ⟨19, 61, 6, true⟩ }

/-- The rounds of one block: the eight working words, and the sixteen words of the schedule that come next. -/
def shaRounds {w : Nat} (k : ShaKind w) : List (BitVec w) → List (BitVec w) → List (BitVec w) → List (BitVec w)
  | [], v, _ => v
  | c :: cs, v, m =>
    let g := fun i : Nat => v.getD i 0
    let n := fun i : Nat => m.getD i 0
    let t1 := g 7 + k.big1.of (g 4) + ((g 4 &&& g 5) ^^^ (~~~ g 4 &&& g 6)) + c + n 0
    let t2 := k.big0.of (g 0) + ((g 0 &&& g 1) ^^^ (g 0 &&& g 2) ^^^ (g 1 &&& g 2))
    let next := k.small1.of (n 14) + n 9 + k.small0.of (n 1) + n 0
    shaRounds k cs [t1 + t2, g 0, g 1, g 2, g 3 + t1, g 4, g 5, g 6] (m.drop 1 ++ [next])

/-- Words of a block, most significant byte first. -/
def shaWords (w : Nat) (b : List Byte) : List (BitVec w) :=
  (List.range 16).map fun i => BitVec.ofNat w (beNat (slice b (w / 8 * i) (w / 8)))

def shaBlocks {w : Nat} (k : ShaKind w) (m : List Byte) : Nat → List (BitVec w) → List (BitVec w)
  | 0, h => h
  | n + 1, h =>
    let v := shaRounds k k.keys h (shaWords w m)
    shaBlocks k (m.drop (2 * w)) n (List.zipWith (· + ·) h v)

/-- The message, a one, zeros, and its length in bits, in whole blocks of `2 * w` bytes. -/
def shaPad (w : Nat) (m : List Byte) : List Byte :=
  let tail := w / 4
  let n := m.length + 1 + tail
  m ++ [0x80] ++ zeros ((2 * w - n % (2 * w)) % (2 * w)) ++ be tail (8 * m.length)

def sha2 {w : Nat} (k : ShaKind w) (m : List Byte) : List Byte :=
  let p := shaPad w m
  (shaBlocks k p (p.length / (2 * w)) k.start).flatMap fun x => be (w / 8) x.toNat

def sha256 (m : List Byte) : List Byte := sha2 sha256Kind m

def sha384 (m : List Byte) : List Byte := (sha2 sha384Kind m).take 48

/-- HMAC-SHA-256 with a key of at most 64 bytes (R71, R537). -/
def hmacSha256 (key m : List Byte) : List Byte :=
  let k := slice (key ++ zeros 64) 0 64
  sha256 (k.map (· ^^^ 0x5C) ++ sha256 (k.map (· ^^^ 0x36) ++ m))

/-! ## ECDSA on P-384 -/

namespace P384
def p : Nat := 2 ^ 384 - 2 ^ 128 - 2 ^ 96 + 2 ^ 32 - 1
def b : Nat := 0xb3312fa7e23ee7e4988e056be3f82d19181d9c6efe8141120314088f5013875ac656398d8a2ed19d2a85c8edd3ec2aef
/-- Order of the base point. -/
def n : Nat := 0xffffffffffffffffffffffffffffffffffffffffffffffffc7634d81f4372ddf581a0db248b0a77aecec196accc52973
def gx : Nat := 0xaa87ca22be8b05378eb1c71ef320ad746e1d3b628ba79b9859f741e082542a385502f25dbf55296c3a545e3872760ab7
def gy : Nat := 0x3617de4a96262c6f5d9e98bf9292dc29f8f41dbd289a147ce9da3113b5f0b8c00a60b1ce1d7e819d7a431d7c90ea0e5f

/-- `x ^ e` modulo `m`, by the low `bits` bits of `e`. -/
def power (m : Nat) : Nat → Nat → Nat → Nat
  | 0, _, _ => 1 % m
  | bits + 1, x, e =>
    let r := power m bits (x * x % m) (e / 2)
    if e % 2 = 1 then x * r % m else r

/-- The inverse modulo a prime. -/
def inverse (m x : Nat) : Nat := power m 384 (x % m) (m - 2)

/-- A point of the curve, none the point at infinity. -/
abbrev Pt := Option (Nat × Nat)

def onCurve (q : Nat × Nat) : Bool :=
  decide (q.1 < p) && decide (q.2 < p) && q.2 * q.2 % p == (q.1 * q.1 * q.1 + (p - 3) * q.1 + b) % p

/-- The point a line of slope `k` through both meets, reflected. -/
def chord (k : Nat) (x1 y1 x2 : Nat) : Pt :=
  let x := (k * k + 2 * p - x1 - x2) % p
  some (x, (k * (x1 + p - x) + p - y1) % p)

def add : Pt → Pt → Pt
  | none, q => q
  | q, none => q
  | some (x1, y1), some (x2, y2) =>
    if x1 = x2 then
      if (y1 + y2) % p = 0 then none
      else chord ((3 * x1 * x1 + p - 3) * inverse p (2 * y1) % p) x1 y1 x2
    else chord ((y2 + p - y1) * inverse p (x2 + p - x1) % p) x1 y1 x2

/-- `k` times a point, by the low `bits` bits of `k`. -/
def times : Nat → Nat → Pt → Pt
  | 0, _, _ => none
  | bits + 1, k, q =>
    let r := times bits (k / 2) (add q q)
    if k % 2 = 1 then add q r else r

/-- The signature (r, s) of a message of hash `e` verifies under the public key `q`. -/
def verifies (e r s : Nat) (q : Nat × Nat) : Bool :=
  let w := inverse n s
  decide (0 < r) && decide (r < n) && decide (0 < s) && decide (s < n) && onCurve q &&
    (match add (times 384 (e * w % n) (some (gx, gy))) (times 384 (r * w % n) (some q)) with
     | some (x, _) => x % n == r
     | none => false)
end P384

/-- The signature of a firmware header: bytes 0-163 are signed, bytes 68-163 are the key and bytes 164-259 the
signature, each half 48 bytes big-endian (R618, Table 15-4). -/
def signatureOk (head : List Byte) : Bool :=
  P384.verifies (beNat (sha384 (head.take 164))) (beNat (slice head 164 48)) (beNat (slice head 212 48))
    (beNat (slice head 68 48), beNat (slice head 116 48))

end Sys2Proof.Machine
end

