-- ==== Sys2Proof/Config.lean ====
section
/-!
DEFINITION. Sys2Proof/Config.lean: what the spec leaves open. Every constant here is opaque: it
has no body, so no proof can learn a value of it (notes/assumptions/1.md names who draws them).
-/
namespace Sys2Proof.Config

/-- A free value of `w` bits. The step draws it with State's counter `freeCtr`, which it then
advances, so that two draws are unrelated. -/
opaque freeBits (w : Nat) (draw : Nat) : BitVec w

/-- A free natural number, for an open count or choice. -/
opaque freeNat (draw : Nat) : Nat

/-- A free sample or signed amount. -/
opaque freeInt (draw : Nat) : Int

/-- What a memory cell reads as when the spec gives no layout for it (queue-pool cells that hold
no packet, R42; tap and geometry tables other than the tap table, R456). -/
opaque freeCell (draw : Nat) (addr : Nat) : BitVec 8

/-- Digest of the public key that the island's ROM holds (R496). -/
opaque islandKey : List (BitVec 8)

/-- Sample `k` of a convolution engine's output: R468 bounds its error and does not fix it. -/
opaque firSample (feed : Nat) (spectra : List Nat) (history : List Int) (k : Nat) : Int

/-- A sample out of an asynchronous sample-rate converter (R279 names it, no filter is fixed). -/
opaque asrcSample (group : Nat) (ratio : Int) (input : List Int) (k : Nat) : Int

/-- The address that DHCP or autoconfiguration gave a network port: IPv4 4 bytes, IPv6 16. -/
opaque portAddress (v6 : Bool) (port : Nat) : List (BitVec 8)

/-- Sample `k` of a test generator: R410 gives its mode, level and frequency and the noise register's
taps and seed, not its phase or the way from the register to a sample. -/
opaque genSample (mode : Nat) (level : Int) (mhz rate lfsr k : Nat) : Int

/-- Sample `k` of a player or island player: a message's samples brought to the output rate (R409
names no filter). -/
opaque playSample (message : List (BitVec 8)) (rate k : Nat) : Int

/-- Sample `k` of the island's built-in tone at a frequency: R515 gives its frequencies, its cadence
and its peak, not its waveform. -/
opaque toneSample (hz k : Nat) : Int

/-- Sample `k` at a sink's rate out of the island's rate follower: R519 names four-point interpolation
and a half-band filter, not their coefficients. -/
opaque followSample (rate : Nat) (content : List Int) (k : Nat) : Int

end Sys2Proof.Config
end

