-- ==== Sys2Proof/Machine/State.lean ====
section
/-!
DEFINITION. Sys2Proof/Machine/State.lean: the machine's state as plain data: every register,
queue, buffer, counter, mode and table the spec gives the block, chapter by chapter, and the
queue of commands waiting. Widths and reset values stand in INVENTORY.md; a field's comment
names the rule that gives it. Tables that are mostly at one value are sparse (`Tab`).
-/
namespace Sys2Proof.Machine

/-! ## Host slots (02) -/

/-- One memory range of a slot's window (R95, Table 2-16): first and last byte, rights. -/
structure MemRange where
  base  : Nat
  limit : Nat
  write : Bool
  read  : Bool
  deriving DecidableEq, Repr

/-- One unit range of a slot's domain (R95, Table 2-16): first and last unit ID, rights. -/
structure UnitRange where
  first : Nat
  last  : Nat
  write : Bool
  read  : Bool
  deriving DecidableEq, Repr

/-- The UDP binding of H6 or H7 (Table 2-17, R70-R76, R107). -/
structure UdpBinding where
  bound    : Bool
  ipver    : Nat
  persist  : Bool
  sport    : Nat
  addr     : List Byte
  key      : List Byte
  /-- highest accepted COUNTER sequence of this boot (R72 step 3, R107) -/
  floor    : Nat
  /-- source port of the last accepted datagram (R71) -/
  lastPort : Nat
  /-- device sequence of the last datagram sent, counting from 1 (R73) -/
  devSeq   : Nat
  deriving DecidableEq, Repr

/-- The time snapshot registers of one slot (R110, Table 2-20). -/
structure Snapshot where
  ns    : Nat
  sec   : Nat
  frac  : Nat
  ri    : Nat
  count : Nat
  deriving DecidableEq, Repr

/-- One host slot H0-H7. -/
structure Slot where
  /-- privilege level of a slot that is not the privileged slot (R94, R96) -/
  level     : Nat
  mem       : List MemRange
  units     : List UnitRange
  frozen    : Bool
  /-- last freeze cause (Table 2-14) -/
  cause     : Nat
  serial    : Nat
  vioInfo   : Nat
  denied    : Nat
  authFail  : Nat
  udp       : UdpBinding
  /-- elapsed times of the AUTH_FAIL discards of the last second (R75) -/
  authTimes : List Nat
  /-- minimum severity per ECLASS 0-15 (R93) -/
  filter    : List Nat
  /-- events offered to this slot's event queue (Table 2-10) -/
  eseq      : Nat
  snap      : Snapshot
  deriving DecidableEq, Repr

/-- Where a command came from, and so where its reply goes. -/
inductive Origin where
  /-- a host slot's command queue (R79) -/
  | host
  /-- a Foresight's mirrored command with its MSEQ (R591) -/
  | mirror (mseq : Nat)
  /-- an entry of a datum or of an overlay (R546) -/
  | entry
  /-- the island's service port (R536) -/
  | service
  deriving DecidableEq, Repr

/-- A command taken from its packet (Table 2-5): header fields, parameters without T, and T. -/
structure Req where
  origin : Origin
  slot   : Nat
  /-- queue index k within the slot -/
  k      : Nat
  seq    : Nat
  op     : Nat
  flags  : Nat
  target : Nat
  gen    : Nat
  params : List Byte
  /-- the AT_RI target render index (R85) -/
  at?    : Option Nat
  /-- order in which the device took the command -/
  order  : Nat
  /-- its number among mirrored commands (R588) -/
  mseq   : Option Nat
  deriving DecidableEq, Repr

/-- What each command queue keeps (R81). -/
structure CmdQueue where
  /-- SEQ of the last accepted command; none: the first command proceeds whatever its SEQ -/
  lastSeq : Option Nat
  /-- the latest reply that command has formed: status and packet -/
  stored  : Option (Nat × List Byte)
  /-- order of that command, while its reply may still change -/
  order   : Nat
  deriving DecidableEq, Repr

/-- A command accepted and waiting for a block boundary (R83, R86). -/
structure Pending where
  req   : Req
  /-- render index of the boundary at which it applies -/
  due   : Nat
  /-- it was flagged AT_RI, and counts towards the 256 (R86) -/
  atRi  : Bool
  /-- its ACCEPTED reply has been formed (R83) -/
  acked : Bool
  deriving DecidableEq, Repr

/-- Everything about the hosts that is not a slot's own. -/
structure HostPart where
  slots       : Tab Slot
  cmdq        : Tab CmdQueue
  pending     : List Pending
  /-- command queues whose head waits under ORDERED, with the order of the taking (R88) -/
  ordered     : List (Nat × Nat)
  /-- commands without their final reply: slot and order (R88) -/
  outstanding : List (Nat × Nat)
  takeCount   : Nat
  privSlot    : Nat
  bootCount   : Nat
  /-- READY (R109, Table 2-19) -/
  ready       : Word
  /-- role generations of units, keyed by unit ID, less 1 (R89) -/
  unitGens    : Tab Nat
  /-- stale messages and pulses ignored under R91 -/
  staleCount  : Nat
  /-- datagrams discarded: unmatched, fragments, replayed (R70, R72, R74) -/
  discards    : Nat
  /-- per rule key, elapsed time at which a once-per-second event was last sent (R669) -/
  lastSent    : Tab Nat
  /-- datagrams to H6 and H7 handed to Port C and not yet sent (R71) -/
  udpOut      : List (Nat × List Byte)
  /-- MODEL'S OWN: what the slot's last register or aperture read returned -/
  readData    : Tab (List Byte)
  deriving DecidableEq, Repr

/-- One GPIO pin (R113-R115, Table 2-22). -/
structure GpioPin where
  mode     : Nat
  line     : Nat
  gfl      : Nat
  level    : Nat
  pulseNs  : Nat
  debounce : Nat
  /-- taken electrical level -/
  taken    : Bool
  edges    : Nat
  /-- a level has been taken since the pin entered mode 1 or 5 (R114) -/
  primed   : Bool
  /-- the output is at its active level (modes 2 to 4) -/
  out      : Bool
  /-- elapsed time at which a mode-3 pulse ends -/
  pulseEnd : Option Nat
  /-- generation of 0xF000 captured at binding (R112) -/
  gen      : Nat
  deriving DecidableEq, Repr

/-! ## Hardware queues (03) -/

/-- One 64-byte cell of a queue with its place in its packet. -/
structure QCell where
  data  : List Byte
  first : Bool
  last  : Bool
  deriving DecidableEq, Repr

/-- A gap marker (R135-R137, Table 3-3). -/
structure Marker where
  epoch     : Nat
  packets   : Nat
  cells     : Nat
  firstSec  : Nat
  firstNs   : Nat
  lastSec   : Nat
  lastNs    : Nat
  deriving DecidableEq, Repr

/-- One bank (R117, R118): the data cells written, how many are committed, how many popped, and
the marker slot. `markerPopped`: the marker has been popped and its slot is not yet freed. -/
structure Bank where
  cells        : List QCell
  commit       : Nat
  read         : Nat
  marker       : Option Marker
  markerPopped : Bool
  deriving DecidableEq, Repr

/-- One hardware queue (R116-R143). -/
structure Queue where
  /-- log2 of the bank size; 0 when disabled (Table 3-4) -/
  log2       : Nat
  bank0      : Bank
  bank1      : Bank
  /-- bank 1 is the fill bank -/
  fill1      : Bool
  /-- the open packet: its bank is bank 1, and its first cell -/
  openAt     : Option (Bool × Nat)
  discarding : Bool
  /-- the open marker's bank is bank 1 (R137) -/
  openMark   : Option Bool
  epoch      : Nat
  overlongCt : Nat
  ptrFaultCt : Nat
  /-- the pointer copies agree (R142) -/
  copiesAgree : Bool
  /-- owner slot, producer and consumer of an assignable queue (R123) -/
  owner      : Nat
  producer   : Nat
  consumer   : Nat
  deriving DecidableEq, Repr

/-! ## The traverse engines (03) -/

/-- Channel states (Table 3-12). -/
inductive ChState where
  | idle | wait | fetch | run | parked | fetchFault | frozen | stopping
  deriving DecidableEq, Repr

/-- A station as fetched (Table 3-6). -/
structure Station where
  offset  : Nat
  control : Word
  src     : Nat
  dst     : Nat
  length  : Nat
  next    : Nat
  /-- elapsed time of its start, for the peripheral timeouts (R161) -/
  start   : Nat
  /-- what its data moves came to, while mirrored writes wait for their acknowledgement (R594):
  STATUS, the LENGTH to write back, and the last sequenced frame sent -/
  result  : Option (Nat × Option Nat × Nat)
  deriving DecidableEq, Repr

/-- One traverse channel (Table 3-11): D0-D31 are 0-31, LD0-LD3 are 32-35. -/
structure Channel where
  tbaseLo    : Nat
  tbaseHi    : Nat
  head       : Nat
  state      : ChState
  extPending : Bool
  held       : Bool
  /-- owner slot, or 0xFF for none -/
  owner      : Nat
  fault      : Nat
  current    : Nat
  doneCount  : Nat
  badCt      : Nat
  shortCt    : Nat
  /-- freeze serial (R101) -/
  serial     : Nat
  /-- frozen, even while its current burst finishes (R103) -/
  frozen     : Bool
  /-- the freeze in force has been thawed before the channel stopped (R103) -/
  thawed     : Bool
  station    : Option Station
  /-- the next grant re-reads the tail's CONTROL (R158) -/
  reread     : Bool
  /-- LAST of the station last finished was set -/
  lastLast   : Bool
  /-- offset of the next fetch -/
  nextFetch  : Nat
  /-- the channel was in WAIT when its owner froze (Table 3-13) -/
  wasWait    : Bool
  /-- the owner slot froze while the station runs -/
  holdAfter  : Bool
  deriving DecidableEq, Repr

/-- The two engines (R155, R156). -/
structure TravPart where
  ch         : Tab Channel
  /-- channel last granted by the main engine and by the island's -/
  lastGrant  : Option Nat
  lastGrantL : Option Nat
  /-- channel holding each engine -/
  busy       : Option Nat
  busyL      : Option Nat
  /-- bytes a POUT station last gave each peripheral (Table 3-10) -/
  periph     : Tab (List Byte)
  deriving DecidableEq, Repr

/-! ## Faults, events and firmware (15) -/

/-- Who is offered an event: every slot, or one slot's event queue. -/
inductive Audience where
  | all
  | slot (s : Nat)
  deriving DecidableEq, Repr

/-- An event as raised (Table 2-10). -/
structure Event where
  code   : Nat
  sev    : Nat
  eclass : Nat
  unit   : Nat
  gen    : Nat
  sec    : Nat
  ns     : Nat
  detail : List Byte
  whom   : Audience
  /-- delivered whatever the filter (SYS_BOOT, R633) -/
  force  : Bool
  deriving DecidableEq, Repr

/-- The sticky fault registers (Table 15-10, R630). -/
structure Sticky where
  qptr        : Tab Word
  frozenSlots : Word
  frozenCh    : Word
  frozenX     : Word
  fabric      : Word
  clock       : Word
  firmware    : Word
  memory      : Word
  resetCause  : Nat
  eccCe       : Nat
  eccUe       : Nat
  ueAddr      : Nat
  restarts    : Nat
  warmResets  : Nat
  lastCrit    : Nat
  deriving DecidableEq, Repr

/-! ## Meridian (04) -/

/-- A linear fade: `pos` of `len` samples done, towards full (`up`) or towards silence. -/
structure Fade where
  pos : Nat
  len : Nat
  up  : Bool
  deriving DecidableEq, Repr

/-- A point of device time (R23, R163): seconds, nanoseconds, 32-bit fraction of a nanosecond. -/
structure DevTime where
  sec  : Nat
  ns   : Nat
  frac : Nat
  deriving DecidableEq, Repr

/-- One launch slot (R180-R182). -/
structure LaunchSlot where
  armed    : Bool
  /-- line of the last arm since main reset (R182) -/
  line     : Option Nat
  sec      : Nat
  ns       : Nat
  period   : Nat
  /-- firings left; none: unlimited -/
  left     : Option Nat
  firings  : Nat
  deriving DecidableEq, Repr

/-- A transmit-timestamp entry (Table 4-1), and the host slot that asked for the stamp. -/
structure TxStamp where
  tag    : Nat
  port   : Nat
  tflags : Nat
  sec    : Nat
  ns     : Nat
  frac   : Nat
  slot   : Option Nat
  deriving DecidableEq, Repr

/-- Stamp delays of one port (R173, Table 4-10). -/
structure PortDelay where
  oneStep : Bool
  inNs    : Nat
  inFrac  : Nat
  outNs   : Nat
  outFrac : Nat
  deriving DecidableEq, Repr

/-- Media-loop states (Table 4-5); the fixed loops use LOCKED, COAST, HOLDOVER and OFF. -/
inductive LoopState where
  | off | search | acquire | locked | coast | holdover | hop | realign
  deriving DecidableEq, Repr

/-- The settings of a media loop (Table 4-11). -/
structure LoopCfg where
  ref     : Nat
  index   : Nat
  stream  : Nat
  hz      : Nat
  n       : Nat
  d       : Nat
  family  : Nat
  lflags  : Nat
  coastMs : Nat
  slewPpm : Nat
  sref    : Nat
  sstream : Nat
  shz     : Nat
  bwMhz   : Nat
  deriving DecidableEq, Repr

/-- One hop-table entry (R196). `used`: order of use, for the least recently used (R197). -/
structure HopEntry where
  valid  : Bool
  ref    : Nat
  index  : Nat
  hz     : Nat
  n      : Nat
  d      : Nat
  family : Nat
  band   : Nat
  centre : Nat
  used   : Nat
  deriving DecidableEq, Repr

/-- One multiplying loop: 0 SYS, 1 MP0, 2 MP1, 3 NET, 4 HOST, 5 LS. -/
structure Loop where
  state     : LoopState
  /-- cause of the last coast: 1 STOP, 2 RATE, 3 LOCK, 4 STEP -/
  cause     : Nat
  glitches  : Nat
  phaseErr  : Int
  freqPpb   : Int
  /-- elapsed time at which the state was entered -/
  since     : Nat
  /-- elapsed time at which the loop last went into COAST -/
  coastFrom : Nat
  /-- the 16-period measurement of R188 is running -/
  measuring : Bool
  /-- the fed domains run on their fallback (Table 4-3) -/
  fallback  : Bool
  /-- on the secondary reference -/
  secondary : Bool
  cfg       : LoopCfg
  hops      : Tab HopEntry
  hopInUse  : Option Nat
  useCount  : Nat
  /-- boundary B of a realignment and its decision error in ns (R203) -/
  realign   : Option (Nat × Int)
  /-- a MER_LOOP_REALIGN waiting for its final reply -/
  realignReq : Option Req
  /-- a MER_HOP_LEARN search: entry, settings and the command waiting for its reply (R197) -/
  learn     : Option (Nat × LoopCfg × Req)
  /-- level-0 content of the sinks the loop's domain clocks (R200) -/
  fade      : Fade
  deriving DecidableEq, Repr

/-- The time base (R163-R186). -/
structure TimePart where
  now       : DevTime
  /-- the increment in force, 8.32 (R163) -/
  inc       : Nat
  /-- the increment of the last MER_SET_INCREMENT, or nominal (R169) -/
  baseInc   : Nat
  slewLeft  : Nat
  running   : Bool
  servo     : Bool
  portSet   : Nat
  stepThr   : Nat
  maxSlew   : Nat
  /-- elapsed time of the device's own clocks since power-up (R669) -/
  elapsed   : Nat
  /-- render index of the current block (R24) -/
  ri        : Nat
  /-- the render index has been loaded (R183) -/
  riLoaded  : Bool
  lastUsed  : Nat
  /-- block ticks are withheld (Table 4-9 step 3) -/
  withheld  : Bool
  slots     : Tab LaunchSlot
  /-- late tolerances of ports A, B, C, S and of the launch slots (R179, R181) -/
  lateTol   : Tab Nat
  delays    : Tab PortDelay
  stamps    : Tab (List TxStamp)
  /-- a stamp of the port was dropped since its last entry (R176) -/
  lost      : List Nat
  loops     : Tab Loop
  /-- the render loop: 1 MP0, or 2 MP1 where the datum names it (R31) -/
  render    : Nat
  deriving DecidableEq, Repr

/-! ## Reset values of 02, 03 and 04 -/

def UdpBinding.reset : UdpBinding :=
  { bound := false, ipver := 0, persist := false, sport := 0, addr := [], key := [], floor := 0,
    lastPort := 0, devSeq := 0 }

/-- A slot after main reset: level 0, empty window, WARNING minimum (R93, R96). -/
def Slot.reset : Slot :=
  { level := 0, mem := [], units := [], frozen := false, cause := 0, serial := 0, vioInfo := 0,
    denied := 0, authFail := 0, udp := UdpBinding.reset, authTimes := [],
    filter := List.replicate 16 2, eseq := 0,
    snap := { ns := 0, sec := 0, frac := 0, ri := 0, count := 0 } }

def CmdQueue.reset : CmdQueue := { lastSeq := none, stored := none, order := 0 }

def HostPart.reset : HostPart :=
  { slots := [], cmdq := [], pending := [], ordered := [], outstanding := [], takeCount := 0,
    privSlot := 0, bootCount := 0, ready := 0, unitGens := [], staleCount := 0, discards := 0,
    lastSent := [], udpOut := [], readData := [] }

/-- A GPIO pin after main reset: OFF, taken level 0, no edges (R113). -/
def GpioPin.reset : GpioPin :=
  { mode := 0, line := 0xFF, gfl := 0, level := 0, pulseNs := 0, debounce := 0, taken := false,
    edges := 0, primed := false, out := false, pulseEnd := none, gen := 1 }

def Bank.empty : Bank :=
  { cells := [], commit := 0, read := 0, marker := none, markerPopped := false }

/-- An empty queue, epoch 0 (Table 3-4). -/
def Queue.reset : Queue :=
  { log2 := 0, bank0 := Bank.empty, bank1 := Bank.empty, fill1 := false, openAt := none,
    discarding := false, openMark := none, epoch := 0, overlongCt := 0, ptrFaultCt := 0,
    copiesAgree := true, owner := 0, producer := 0, consumer := 0 }

/-- A traverse channel after main reset (Table 3-11). -/
def Channel.reset : Channel :=
  { tbaseLo := 0, tbaseHi := 0, head := 0, state := .idle, extPending := false, held := false,
    owner := 0xFF, fault := 0, current := 0, doneCount := 0, badCt := 0, shortCt := 0,
    serial := 0, frozen := false, thawed := false, station := none, reread := false,
    lastLast := false, nextFetch := 0, wasWait := false, holdAfter := false }

def TravPart.reset : TravPart :=
  { ch := [], lastGrant := none, lastGrantL := none, busy := none, busyL := none,
    periph := [] }

/-- Table 15-10 after a power-on reset. -/
def Sticky.reset : Sticky :=
  { qptr := [], frozenSlots := 0, frozenCh := 0, frozenX := 0, fabric := 0, clock := 0,
    firmware := 0, memory := 0, resetCause := 0x01, eccCe := 0, eccUe := 0, ueAddr := 0,
    restarts := 0, warmResets := 0, lastCrit := 0 }

def DevTime.zero : DevTime := { sec := 0, ns := 0, frac := 0 }

def LaunchSlot.reset : LaunchSlot :=
  { armed := false, line := none, sec := 0, ns := 0, period := 0, left := none, firings := 0 }

def PortDelay.reset : PortDelay :=
  { oneStep := false, inNs := 0, inFrac := 0, outNs := 0, outFrac := 0 }

/-- A media loop's settings from main reset (R206): off, 48 kHz family, 100 ms coast window,
10 ppm slew limit, 10 Hz bandwidth. -/
def LoopCfg.reset : LoopCfg :=
  { ref := 0, index := 0, stream := 0, hz := 0, n := 1, d := 1, family := 0, lflags := 0,
    coastMs := 100, slewPpm := 10, sref := 0, sstream := 0, shz := 0, bwMhz := 10000 }

def HopEntry.reset : HopEntry :=
  { valid := false, ref := 0, index := 0, hz := 0, n := 1, d := 1, family := 0, band := 0,
    centre := 0, used := 0 }

/-- A fade that is done and stands at full. -/
def Fade.full : Fade := { pos := 0, len := 0, up := true }

def Loop.reset : Loop :=
  { state := .off, cause := 0, glitches := 0, phaseErr := 0, freqPpb := 0, since := 0,
    coastFrom := 0, measuring := false, fallback := false, secondary := false,
    cfg := LoopCfg.reset, hops := [], hopInUse := none, useCount := 0, realign := none,
    realignReq := none, learn := none, fade := { pos := 0, len := 0, up := false } }

def TimePart.reset : TimePart :=
  { now := DevTime.zero, inc := 0x0200000000, baseInc := 0x0200000000, slewLeft := 0,
    running := false, servo := true, portSet := 0x3, stepThr := 1000000, maxSlew := 100000,
    elapsed := 0, ri := 0, riLoaded := false, lastUsed := 0, withheld := false, slots := [],
    lateTol := [], delays := [], stamps := [], lost := [], loops := [], render := 1 }

/-! ## Network ports, field bus and sight line (05) -/

/-- A frame waiting to be sent (R178, R224, R226). -/
structure TxFrame where
  bytes   : List Byte
  launch  : Option (Nat × Nat)
  stamp   : Bool
  oneStep : Bool
  tag     : Nat
  /-- host slot that submitted it -/
  slot    : Option Nat
  /-- render index just past its last sample, for a stream's packet (R596) -/
  lastRi  : Option Nat
  /-- it stands at the head, held for its launch time (R178) -/
  held    : Bool
  /-- a replayed frame bypasses shaping and the late tolerance (R602) -/
  replay  : Bool
  deriving DecidableEq, Repr

/-- One network port: 0 A, 1 B, 2 C, 3 S, 4 F (Tables 5-1, 5-14, 5-16). -/
structure NetPort where
  link     : Bool
  mode     : Nat
  pflags   : Nat
  maxFrame : Nat
  lpiIdle  : Nat
  vids     : List Nat
  /-- elapsed time at which a pause ends (R228) -/
  pauseEnd : Option Nat
  lpi      : Bool
  /-- transmit wake time in ns, once settled by LLDP (R232) -/
  tw       : Option Nat
  lastTx   : Nat
  /-- Table 5-14's counters by number -/
  counters : Tab Nat
  mcast    : Tab (List Byte)
  /-- queues in priority order: 0 island, 1 k = 0, 2 class A, 3 class B, 4-6 k = 1, 2, 3 -/
  tx       : Tab (List TxFrame)
  /-- credits of classes A and B in 10^-9 bit, and when they were last counted (R225) -/
  creditA  : Int
  creditB  : Int
  creditAt : Nat
  /-- MODEL'S OWN: the last frame that left -/
  sent     : List Byte
  deriving DecidableEq, Repr

/-- A receive rule, 32 bytes (Table 5-6), and a wake pattern, 32 bytes (Table 5-7). -/
structure WakePattern where
  record : List Byte
  /-- elapsed time at which its hold ends (R223) -/
  hold   : Option Nat
  deriving DecidableEq, Repr

/-- A field node's place in the node table (R242, R243). -/
structure FbNode where
  vendor   : Nat
  model    : Nat
  serial   : Nat
  known    : Bool
  present  : Bool
  kind     : Nat
  addr     : List Byte
  missed   : Nat
  answered : Bool
  lastCseq : Nat
  /-- the datum's node table fixes this index to this identity -/
  fixed    : Bool
  deriving DecidableEq, Repr

/-- The field bus (R235-R243, Table 5-8). -/
structure FieldBus where
  /-- 0 coordinator, 1 follower, 2 CSMA/CD only -/
  role      : Nat
  plcaId    : Nat
  nodes     : Nat
  oppTimer  : Nat
  burst     : Nat
  burstTmr  : Nat
  callMs    : Nat
  absent    : Nat
  cseq      : Nat
  aseq      : Nat
  plca      : Bool
  beaconing : Bool
  lastCall  : Nat
  /-- elapsed time of the last beacon seen -/
  lastBeacon : Nat
  attempts  : Nat
  node      : Tab FbNode
  deriving DecidableEq, Repr

/-- The sight-line transport (R244-R248). -/
structure Sight where
  peerSync  : Bool
  ackSeen   : Bool
  peerAddr  : List Byte
  peerBoot  : Nat
  peerId    : Bool
  nextSeq   : Nat
  /-- unacknowledged frames: SSEQ and bytes from the header on -/
  unacked   : List (Nat × List Byte)
  /-- sequenced frames waiting for one of the 64 places -/
  backlog   : List (List Byte)
  lastRx    : Nat
  resends   : Nat
  /-- elapsed time at which ACKSEQ last advanced or a resend began -/
  progress  : Nat
  /-- elapsed time from which a frame received awaits acknowledgement -/
  ackDue    : Option Nat
  frozen    : Bool
  serial    : Nat
  /-- frames handed to Port S -/
  out       : List (List Byte)
  deriving DecidableEq, Repr

/-- Ethernet ports, field bus and sight line. -/
structure NetPart where
  port  : Tab NetPort
  rules : Tab (List Byte)
  wake  : Tab WakePattern
  fb    : FieldBus
  sight : Sight
  /-- ASRC, discovery and NET records of the datum live with their chapters -/
  fbSeen : List (Nat × List Byte)
  deriving DecidableEq, Repr

def NetPort.reset : NetPort :=
  { link := false, mode := 0xFF, pflags := 0, maxFrame := 1522, lpiIdle := 50, vids := [],
    pauseEnd := none, lpi := false, tw := none, lastTx := 0, counters := [], mcast := [],
    tx := [], creditA := 0, creditB := 0, creditAt := 0,
    sent := [] }

def WakePattern.reset : WakePattern := { record := [], hold := none }

def FbNode.reset : FbNode :=
  { vendor := 0, model := 0, serial := 0, known := false, present := false, kind := 0,
    addr := [], missed := 0, answered := false, lastCseq := 0, fixed := false }

/-- CSMA/CD only until a datum configures Port F (Table 15-8), parameters of Table 5-8. -/
def FieldBus.reset : FieldBus :=
  { role := 2, plcaId := 0, nodes := 32, oppTimer := 32, burst := 0, burstTmr := 128,
    callMs := 250, absent := 3, cseq := 0, aseq := 0, plca := false, beaconing := false,
    lastCall := 0, lastBeacon := 0, attempts := 0, node := [] }

def Sight.reset : Sight :=
  { peerSync := false, ackSeen := false, peerAddr := [], peerBoot := 0, peerId := false,
    nextSeq := 1, unacked := [], backlog := [], lastRx := 0, resends := 0, progress := 0,
    ackDue := none, frozen := false, serial := 0, out := [] }

/-- Port C stands at 1,000 Mb/s with PAUSE honoured (Table 15-8, R227). -/
def NetPart.reset : NetPart :=
  { port := [(2, { NetPort.reset with mode := 0x10, pflags := 0x09 })], rules := [], wake := [],
    fb := FieldBus.reset, sight := Sight.reset, fbSeen := [] }
/-! ## Streams (06) -/

/-- A receive stream entry with its merge window, its jitter buffer and its counters. -/
structure RxStream where
  /-- Table 6-3, 128 bytes; empty when never bound -/
  entry    : List Byte
  /-- the map run in effect (R295) -/
  run      : List Nat
  /-- Table 6-5 -/
  state    : Nat
  /-- state before it was suspended or unlocked (R257) -/
  former   : Nat
  /-- causes that suspend it (Table 6-11), a bit each -/
  causes   : Nat
  /-- merge window (R271): HIGH, keys accepted and keys counted in LOST, bit i for HIGH - i -/
  high     : Option Nat
  seen     : Nat
  lostKeys : Nat
  stale    : Nat
  ssrc     : Option Nat
  /-- SSRC kept before the last absence (R277) -/
  oldSsrc  : Option Nat
  /-- sequence number and presentation time in ns of the last timestamped packet (R265) -/
  anchor   : Option (Nat × Nat)
  /-- elapsed time of the last accepted packet, and of each path's -/
  lastAny  : Nat
  lastPath : List Nat
  down     : List Bool
  accepted : Nat
  /-- Table 6-10 in order -/
  counters : Tab Nat
  /-- LATE and MISSING as STR_LATE last reported them (R298) -/
  lateMark : Nat
  missMark : Nat
  /-- the jitter buffer: samples per channel by position (R267, R269) -/
  buf      : Tab (List Int)
  /-- 64-sample fade of the entry; samples since a hole began, and since it ended (R270, R278) -/
  fade     : Fade
  gap      : Nat
  rise     : Nat
  last     : List Int
  /-- the filled position at which the entry's fade-in begins has been reached -/
  begun    : Bool
  deriving DecidableEq, Repr

/-- A transmit stream entry with its continuity record (Tables 6-4, 6-7). -/
structure TxStream where
  entry    : List Byte
  run      : List Nat
  bound    : Bool
  causes   : Nat
  rtpBase  : Nat
  avtpBase : Nat
  mr       : Bool
  riBase   : Nat
  ssrc     : Nat
  mco      : Nat
  /-- packets formed since the anchor -/
  formed   : Nat
  counters : Tab Nat
  /-- a peer's continuity record waiting for its RI_BASE (R595) -/
  adopt    : Option (List Byte)
  /-- listeners connected (Table 6-8), elapsed time of its last SAP announcement -/
  listeners : Nat
  sapAt    : Nat
  deriving DecidableEq, Repr

/-- One ASRC group (R279-R282). -/
structure AsrcGroup where
  mode   : Nat
  loop   : Nat
  locked : Bool
  /-- ratio offset from nominal in ppb -/
  ppb    : Int
  /-- read position in the members' own samples, in units of 2^-32 sample -/
  pos    : Nat
  suspended : Bool
  engine : Nat
  /-- FS code that AUTO_RATE gave the group (R326) -/
  autoHz : Option Nat
  deriving DecidableEq, Repr

/-- A session of the remote SDP cache (Table 6-8). -/
structure SdpSession where
  origin  : List Byte
  session : Nat
  text    : List Byte
  last    : Nat
  deriving DecidableEq, Repr

/-- A receive channel on its way to another stream channel (R296): 64 samples fading out from the
old one, then 64 fading in from the new. -/
structure ChMove where
  oldRx : Nat
  oldCh : Option Nat
  pos   : Nat
  deriving DecidableEq, Repr

/-- The mute of one non-audio pair (R332-R336). -/
structure NaPair where
  /-- it is muted, and the elapsed time at which the hold of 4,096 frames ends -/
  muted : Bool
  until_ : Nat
  /-- muted by the channel-status bit (R335) -/
  byCs  : Bool
  fade  : Fade
  deriving DecidableEq, Repr

/-- Streams, maps, groups and discovery (06). -/
structure StrPart where
  rx     : Tab RxStream
  tx     : Tab TxStream
  /-- RXMAP and TXMAP (R255) -/
  rxmap  : Tab Nat
  txmap  : Tab Nat
  group  : Tab AsrcGroup
  sdp    : List SdpSession
  /-- addresses resolved by ARP and neighbour discovery: port, address, MAC (R289) -/
  arp    : List (Nat × List Byte × List Byte)
  /-- stream units in PENDING_COUPLE (R295) -/
  pendc  : List Nat
  /-- receive channels whose stream channel changed (R296) -/
  moves  : Tab ChMove
  /-- multicast groups firmware has joined: port, IPv6, group, source (R263) -/
  joined : List (Nat × Bool × List Byte × List Byte)
  adpAt  : Nat
  adpIdx : Nat
  na     : Tab NaPair
  deriving DecidableEq, Repr

def RxStream.reset : RxStream :=
  { entry := [], run := [], state := 0, former := 0, causes := 0, high := none, seen := 0, lostKeys := 0,
    stale := 0, ssrc := none, oldSsrc := none, anchor := none, lastAny := 0, lastPath := [0, 0],
    down := [false, false], accepted := 0, counters := [], lateMark := 0, missMark := 0, buf := [],
    fade := { pos := 0, len := 0, up := false }, gap := 16, rise := 16, last := [], begun := false }

def TxStream.reset : TxStream :=
  { entry := [], run := [], bound := false, causes := 0, rtpBase := 0, avtpBase := 0, mr := false,
    riBase := 0, ssrc := 0, mco := 0, formed := 0, counters := [], adopt := none, listeners := 0,
    sapAt := 0 }

/-- A group after main reset: NOMINAL, which locks at once (R281). -/
def AsrcGroup.reset : AsrcGroup :=
  { mode := 0, loop := 0, locked := true, ppb := 0, pos := 0, suspended := false, engine := 0,
    autoHz := none }

def ChMove.reset : ChMove := { oldRx := 0, oldCh := none, pos := 128 }

def NaPair.reset : NaPair :=
  { muted := false, until_ := 0, byCs := false, fade := { pos := 0, len := 0, up := true } }

def StrPart.reset : StrPart :=
  { rx := [], tx := [], rxmap := [], txmap := [], group := [], sdp := [], arp := [], pendc := [],
    moves := [], joined := [], adpAt := 0, adpIdx := 0, na := [] }

/-! ## Serial audio ports (07) -/

/-- A TDM port, AES3 receiver or AES3 transmitter. -/
structure SerPort where
  /-- the set in effect: Table 7-7, or Table 7-9 -/
  set      : List Byte
  /-- a framing change waiting for its frame (R317) -/
  newSet   : Option (List Byte)
  /-- masks as written and not yet latched (R318, R319) -/
  masks    : Option (List Byte)
  state    : Nat
  cause    : Nat
  /-- measured frame rate in Hz -/
  measured : Nat
  pendc    : Bool
  /-- Table 7-10 in order -/
  counters : Tab Nat
  /-- consecutive bit-count errors (R322) -/
  badRun   : Nat
  /-- fade of the inputs on a clock fault, its return or a slip -/
  fade     : Fade
  /-- last samples the inputs presented, per channel, and the previous frame's -/
  last     : List Int
  /-- offset of the slip buffer from its set value, in frames (R313) -/
  slip     : Int
  /-- fade-in owed after a slip's fade-out -/
  slipFade : Bool
  /-- stored channel status of a receiver (R328) -/
  cs       : List Byte
  deriving DecidableEq, Repr

/-- TDM ports 0-15, receivers by selector 0x10-0x13, transmitters 0x20-0x23; word clock. -/
structure SerPart where
  port    : Tab SerPort
  wcDomain : Nat
  wcMult  : Nat
  wcFlags : Nat
  deriving DecidableEq, Repr

def SerPort.reset : SerPort :=
  { set := [], newSet := none, masks := none, state := 0, cause := 0, measured := 0,
    pendc := false, counters := [], badRun := 0, fade := { pos := 0, len := 0, up := false },
    last := [], slip := 0, slipFade := false, cs := [] }

def SerPart.reset : SerPart :=
  { port := [], wcDomain := 0, wcMult := 1, wcFlags := 0 }


/-! ## The fabric and its profiles (08) -/

/-- Fabric margin, voltage, shedding and profile (Table 8-2, R340-R371). -/
structure FabPart where
  active      : Nat
  pend        : Option Nat
  /-- POWERED and FAILED, a bit per partition -/
  powered     : Word
  failed      : Word
  /-- partitions usable for at least one queue cycle -/
  usable      : Word
  /-- partitions to gate one block after a profile change (R369) -/
  gateDue     : Option (Nat × Word)
  ceil        : Nat
  floor       : Nat
  vcode       : Nat
  /-- where VCODE is being stepped, one code per 10 us (R354, R367) -/
  vtarget     : Option Nat
  /-- a setpoint was written and its read-back is due (R353) -/
  readback    : Option Nat
  /-- VCODE is frozen by a regulator fault (R353) -/
  vfrozen     : Bool
  /-- CEIL is lowered by temperature (R354) -/
  hotCeil     : Bool
  shed        : Nat
  shedMax     : Nat
  hyst        : Nat
  target      : Nat
  tjMax       : Int
  tsense      : List Int
  missTotal   : Nat
  shedBlocks  : Nat
  lastMissRi  : Nat
  /-- per class 1-5 -/
  slackLast   : List Int
  missCt      : List Nat
  slackLow    : List Int
  /-- consecutive judged blocks towards a fall of VCODE, a rise and a fall of SHED_LEVEL -/
  ample       : Nat
  short       : Nat
  shedAmple   : Nat
  /-- class bits and blocks missed since the last FAB_DEADLINE_MISS (R360) -/
  missClasses : Nat
  missBlocks  : Nat
  /-- the next block's period was shortened by a phase step (R348) -/
  exempt      : Bool
  /-- render index at which the prerequisites of a pending change were met (R367) -/
  readyRi     : Option Nat
  /-- level-0 fade of a profile change (R368) -/
  fade        : Fade
  /-- the fabric's heartbeat of the last tick (R345) -/
  beat        : Bool
  deriving DecidableEq, Repr

/-- Table 8-2 at main reset; ACTIVE is the default profile of the OTP record. -/
def FabPart.reset : FabPart :=
  { active := 0, pend := none, powered := 0, failed := 0, usable := 0, gateDue := none,
    ceil := 60, floor := 0, vcode := 30, vtarget := none, readback := none, vfrozen := false,
    hotCeil := false, shed := 0, shedMax := 16, hyst := 100, target := 150, tjMax := 0,
    tsense := List.replicate 12 0, missTotal := 0, shedBlocks := 0, lastMissRi := 0,
    slackLast := List.replicate 5 0, missCt := List.replicate 5 0,
    slackLow := List.replicate 5 0x7FFF, ample := 0, short := 0, shedAmple := 0,
    missClasses := 0, missBlocks := 0, exempt := false, readyRi := none, fade := { pos := 0, len := 0, up := true },
    beat := false }
/-! ## Almanac: routing, mixing and direct lanes (09) -/

/-- A program bank (R397): 0 EMPTY, 1 LOADING, 2 LOADED, and its image. -/
structure AlmBank where
  state : Nat
  image : List Byte
  deriving DecidableEq, Repr

/-- A stepped gain (R388): current and target code, samples since the step was armed, and the last
sample at its point. -/
structure StepGain where
  cur    : Int
  target : Int
  armed  : Nat
  prev   : Int
  deriving DecidableEq, Repr

/-- A bus of the running program: scaling mode and gain, terms, and its last output. -/
structure BusState where
  mode   : Nat
  scale  : StepGain
  tag    : Nat
  deriving DecidableEq, Repr

/-- A term's activity hold (R392): samples still to count as active. -/
structure TermHold where
  src  : Nat
  bus  : Nat
  left : Nat
  deriving DecidableEq, Repr

/-- A delay element (R376): its tag, its length, the samples in it, newest first, and the render
index just past the newest. -/
structure DelayLine where
  tag     : Nat
  length  : Nat
  samples : List Int
  upTo    : Nat
  deriving DecidableEq, Repr

/-- The state one program runs with. -/
structure ProgState where
  bus   : Tab BusState
  terms : List TermHold
  delay : Tab DelayLine
  deriving DecidableEq, Repr

/-- A sink fade (R396): the factor as a fraction, where it goes, and its ramp. -/
structure SinkFade where
  num  : Nat
  den  : Nat
  on   : Bool
  ramp : Nat
  deriving DecidableEq, Repr

/-- The deadline-miss fade of a sink (R359): 0 none, 1 falling, 2 silent, 3 rising. -/
structure MissFade where
  phase : Nat
  pos   : Nat
  last  : Int
  deriving DecidableEq, Repr

/-- A direct lane (R403-R406). -/
structure DirectLane where
  entry   : List Byte
  enabled : Bool
  fade    : Fade
  /-- inputs found not usable, a bit each (R405) -/
  idle    : Nat
  /-- the quarter finished at the last direct tick, to be released at the next -/
  out     : List Int
  deriving DecidableEq, Repr

/-- A player (R409). -/
structure AlmPlayer where
  msg     : Option Nat
  repeats : Nat
  /-- samples of the message played, at the internal rate, in this repeat -/
  pos     : Nat
  fade    : Fade
  stopping : Bool
  deriving DecidableEq, Repr

/-- A test generator (R410). -/
structure TestGen where
  mode  : Nat
  level : Int
  mhz   : Nat
  lfsr  : Nat
  pos   : Nat
  deriving DecidableEq, Repr

/-- A pending or running swap (R399-R401). -/
structure AlmSwap where
  req    : Option Req
  /-- the boundary B -/
  at_    : Nat
  window : Nat
  /-- B has passed and both programs run -/
  running : Bool
  deriving DecidableEq, Repr

/-- An ALM_LOAD, OBJ_MESH_LOAD or similar fetch in progress. -/
structure Fetch where
  req  : Req
  addr : Nat
  len  : Nat
  bank : Nat
  deriving DecidableEq, Repr

/-- A block that the fabric has taken (R340): the render index of its first sample, the tick that
releases it, its sinks' content, and the sinks left unfinished (R359). -/
structure Flight where
  ri    : Nat
  due   : Nat
  sinks : Tab (List Int)
  bad   : List Nat
  deriving DecidableEq, Repr

/-- What the priority override makes of a sink in the block at the output edge (R47): the content
it fades from and the content it carries, each the sink's level-0 content where the flag says so, and the samples of the
crossfade done as the block began. -/
structure SinkOver where
  oldOwn : Bool
  old    : List Int
  nowOwn : Bool
  now    : List Int
  pos    : Nat
  deriving DecidableEq, Repr

/-- The almanac (09) and the sample-exchange buffers of the output edge (R32, R33). -/
structure AlmPart where
  bank    : Tab AlmBank
  running : Nat
  /-- a program runs (R402) -/
  active  : Bool
  load    : Option Fetch
  swap    : Option AlmSwap
  /-- state of the running program, and of the new one while both run -/
  prog    : ProgState
  progNew : ProgState
  gain    : Tab StepGain
  timeoutMs : Nat
  defaultW  : Nat
  sinkFade  : Tab SinkFade
  missFade  : Tab MissFade
  lane      : Tab DirectLane
  player    : Tab AlmPlayer
  gen       : Tab TestGen
  /-- blocks taken and not yet released, oldest first -/
  flight    : List Flight
  /-- the block at the output edge -/
  edge      : Flight
  cover     : Tab SinkOver
  /-- level-0 samples of that block that direct lanes have given their sinks -/
  laneOut   : Tab (List Int)
  /-- samples presented per sink before that block, oldest first, and the render index after them -/
  hist      : Tab (List Int)
  histEnd   : Nat
  /-- samples of that block whose direct quarters have gone out -/
  quarter   : Nat
  /-- the last direct quarter of the block before it, per source of a direct lane -/
  directIn  : Tab (List Int)
  /-- blocks with saturation since the last ALM_SATURATED, and the first saturating instruction -/
  satBlocks : Nat
  satFirst  : Nat
  deriving DecidableEq, Repr

def AlmBank.reset : AlmBank := { state := 0, image := [] }

/-- A gain register stands at code 0 until a program or a command sets it. -/
def StepGain.reset : StepGain := { cur := 0, target := 0, armed := 0, prev := 0 }

def BusState.reset : BusState := { mode := 0, scale := StepGain.reset, tag := 0 }

def DelayLine.reset : DelayLine := { tag := 0, length := 0, samples := [], upTo := 0 }

def ProgState.reset : ProgState := { bus := [], terms := [], delay := [] }

/-- A sink fade stands at 1 after main reset (R396). -/
def SinkFade.reset : SinkFade := { num := 1, den := 1, on := true, ramp := 16 }

def MissFade.reset : MissFade := { phase := 0, pos := 0, last := 0 }

def DirectLane.reset : DirectLane :=
  { entry := [], enabled := false, fade := { pos := 0, len := 0, up := false }, idle := 0, out := [] }

def SinkOver.reset : SinkOver := { oldOwn := true, old := [], nowOwn := true, now := [], pos := 32 }

def Flight.reset : Flight := { ri := 0, due := 0, sinks := [], bad := [] }

def AlmPlayer.reset : AlmPlayer :=
  { msg := none, repeats := 0, pos := 0, fade := { pos := 0, len := 0, up := true }, stopping := false }

def TestGen.reset : TestGen := { mode := 0, level := 0, mhz := 0, lfsr := 0, pos := 0 }

/-- No program, timeout 5 ms, window 64 (R388, R402). -/
def AlmPart.reset : AlmPart :=
  { bank := [], running := 0, active := false, load := none, swap := none,
    prog := ProgState.reset, progNew := ProgState.reset, gain := [], timeoutMs := 5,
    defaultW := 64, sinkFade := [], missFade := [], lane := [], player := [], gen := [],
    flight := [], edge := Flight.reset, cover := [], laneOut := [], hist := [], histEnd := 0,
    quarter := 0, directIn := [], satBlocks := 0, satFirst := 0 }

/-! ## Planisphere (10) -/

/-- A point of the site grid in mm. -/
structure Point where
  e : Int
  n : Int
  h : Int
  deriving DecidableEq, Repr

/-- A motion under R427. -/
structure Motion where
  p0 : Point
  p1 : Point
  t0 : Nat
  t1 : Nat
  deriving DecidableEq, Repr

/-- One sound object. -/
structure SndObj where
  /-- bytes 0-47 of Table 10-2; empty at the defaults -/
  record  : List Byte
  /-- where it stands, and the motion in progress -/
  pos     : Point
  motion  : Option Motion
  /-- position as last surveyed (CUR_E, CUR_N, CUR_H) -/
  cur     : Point
  /-- current object gain code (R422) -/
  gain    : Int
  /-- old source and samples of its crossfade done (R421) -/
  oldSrc  : Option (Nat × Nat)
  /-- object delay line and long-throw line, newest first (R451) -/
  line    : List Int
  long    : List Int
  /-- it is pending for survey (R449); CUT set (R429) -/
  due     : Bool
  cut     : Bool
  short   : Bool
  waited  : Bool
  surveyed : Nat
  /-- triangle last used (R436) -/
  tri     : Nat
  /-- claimed by an island-owned overlay (R425) -/
  safe    : Bool
  pendc   : Bool
  deriving DecidableEq, Repr

/-- A tap-table entry (Table 10-6); `shed`: removed by shedding (R358). -/
structure Tap where
  obj     : Nat
  feed    : Nat
  long    : Bool
  safe    : Bool
  /-- 0 steady, 1 fading in, 2 fading out; fade samples completed -/
  fade    : Nat
  fpos    : Nat
  delay   : Nat
  dtarget : Nat
  gain    : Int
  gtarget : Int
  shed    : Bool
  deriving DecidableEq, Repr

/-- One feed: bytes 0-35 of Table 10-1 (empty at the defaults), and MESH. -/
structure Feed where
  record : List Byte
  mesh   : Bool
  deriving DecidableEq, Repr

/-- The renderer (10). -/
structure ObjPart where
  obj     : Tab SndObj
  feed    : Tab Feed
  zone    : Tab (List Byte)
  tap     : Tab Tap
  sound   : Nat
  rp      : Point
  cell    : Nat
  reserve : Nat
  /-- loaded mesh image; one that waits for the next boundary; a load in progress -/
  mesh    : List Byte
  newMesh : Option (List Byte)
  load    : Option Fetch
  candidates : Nat
  waiting : Nat
  /-- TAP_SHORT, SURVEY_DEFER, DELAY_CLAMP, GAIN_CLAMP -/
  counts  : List Nat
  /-- since their last events: taps short and first object, deferrals, clamps and first object -/
  secShort : Nat × Nat
  secDefer : Nat
  secClamp : Nat × Nat
  deriving DecidableEq, Repr

def Point.zero : Point := { e := 0, n := 0, h := 0 }

def SndObj.reset : SndObj :=
  { record := [], pos := Point.zero, motion := none, cur := Point.zero, gain := 0, oldSrc := none,
    line := [], long := [], due := false, cut := false, short := false, waited := false,
    surveyed := 0, tri := 0, safe := false, pendc := false }

def Tap.reset : Tap :=
  { obj := 0, feed := 0, long := false, safe := false, fade := 3, fpos := 0, delay := 0,
    dtarget := 0, gain := 0, gtarget := 0, shed := false }

def Feed.reset : Feed := { record := [], mesh := false }

/-- RP at the origin, CELL 10,000, RESERVE_SAFE 1,024 (R413, R447, R450). -/
def ObjPart.reset : ObjPart :=
  { obj := [], feed := [], zone := [], tap := [], sound := 343200, rp := Point.zero, cell := 10000,
    reserve := 1024, mesh := [], newMesh := none, load := none, candidates := 0, waiting := 0,
    counts := [0, 0, 0, 0], secShort := (0, 0), secDefer := 0, secClamp := (0, 0) }

/-! ## Correction and dynamics (11) -/

/-- One bank of a feed (Table 11-3). -/
structure CorBank where
  base  : Nat
  nslot : Nat
  ps    : Nat
  swaps : Nat
  deriving DecidableEq, Repr

/-- A swap pending on a feed (R473). -/
structure CorSwap where
  req   : Option Req
  at_   : Nat
  pulse : Bool
  deriving DecidableEq, Repr

/-- The correction FIR of a feed (R463-R480). -/
structure CorFeed where
  bank0   : CorBank
  bank1   : CorBank
  /-- the running bank is bank 1 -/
  run1    : Bool
  /-- armed event line, and the generation captured -/
  arm     : Option (Nat × Nat)
  swap    : Option CorSwap
  /-- boundary B of a crossfade in progress -/
  fadeAt  : Option Nat
  specErr : Nat
  /-- input history, newest first -/
  hist    : List Int
  deriving DecidableEq, Repr

/-- One biquad section (R481-R484): coefficients b0 b1 b2 a1 a2, state, and an old section that a
FADE runs beside it with the samples done. -/
structure Biquad where
  coef  : List Int
  s1    : Int
  s2    : Int
  old   : Option (List Int × Int × Int × Nat)
  pendc : Bool
  deriving DecidableEq, Repr

/-- One dynamics unit: a limiter (0-1,023) or a compressor (1,024-1,279). -/
structure DynUnit where
  /-- Table 11-6 or 11-7; empty at the defaults -/
  set     : List Byte
  /-- limiter: input samples still in the delay, newest first -/
  delay   : List Int
  /-- limiter: 1 - g; compressor: g in dB; in units of 2^-80 -/
  g       : Int
  /-- compressor: mean square in units of 2^-120 and current MAKEUP code -/
  ms      : Nat
  makeup  : Int
  /-- Table 11-8, COR_DYN_STATUS: level, present and deepest reduction, blocks with reduction -/
  level   : Int
  now     : Int
  deepest : Int
  blocks  : Nat
  deriving DecidableEq, Repr

/-- Correction, filters and dynamics (11). -/
structure CorPart where
  feed    : Tab CorFeed
  biquad  : Tab Biquad
  dyn     : Tab DynUnit
  /-- LD_US in force, and a change: its value and the render index at which the delay changes -/
  ldUs    : Nat
  ldNew   : Option (Nat × Nat)
  ldFade  : Fade
  compact : Option Req
  /-- blocks with saturation since COR_SATURATED, and the first unit -/
  satBlocks : Nat
  satUnit : Nat
  deriving DecidableEq, Repr

def CorBank.reset : CorBank := { base := 0, nslot := 0, ps := 0, swaps := 0 }

def CorFeed.reset : CorFeed :=
  { bank0 := CorBank.reset, bank1 := CorBank.reset, run1 := false, arm := none, swap := none,
    fadeAt := none, specErr := 0, hist := [] }

/-- The pass-through section (R482). -/
def Biquad.reset : Biquad :=
  { coef := [1073741824, 0, 0, 0, 0], s1 := 0, s2 := 0, old := none, pendc := false }

/-- Unity gain, nothing measured. -/
def DynUnit.reset : DynUnit :=
  { set := [], delay := [], g := 0, ms := 0, makeup := 0, level := -32768,
    now := 0, deepest := 0, blocks := 0 }

def CorPart.reset : CorPart :=
  { feed := [], biquad := [], dyn := [], ldUs := 500, ldNew := none,
    ldFade := { pos := 0, len := 0, up := true }, compact := none, satBlocks := 0, satUnit := 0 }


/-! ## The Lodestar island (12) -/

/-- States of a supervised input (Table 12-2, SAF_INPUTS). -/
inductive InState where
  | normal | active | short | opened
  deriving DecidableEq, Repr

/-- One supervised input (R504-R508). -/
structure SafInput where
  state   : InState
  /-- band of the run of equal samples: 0 NORMAL, 1 ACTIVE, 2 SHORT, 3 OPEN, 4 BETWEEN; length -/
  band    : Nat
  run     : Nat
  mv      : Nat
  /-- elapsed time at which the run in BETWEEN began -/
  between : Option Nat
  deriving DecidableEq, Repr

/-- One request (R511, R512, R523, R524). -/
structure SafReq where
  /-- inputs that hold it, a bit each; held by an input's LATCH -/
  inputs    : Nat
  latch     : Bool
  trigger   : Bool
  trigLatch : Bool
  trigUntil : Nat
  command   : Bool
  service   : Bool
  peer      : Bool
  /-- elapsed time of its activation; 0 when not active -/
  since     : Nat
  /-- 0 none, 1 DIRECT_START, 2 DELEGATED, 3 TAKEN_OVER -/
  deleg     : Nat
  /-- boundary A at which its overlay applied, and no fabric heartbeat missed since -/
  boundaryA : Option Nat
  beatsOk   : Bool
  /-- sinks kept DIRECT while delegated (R523) -/
  direct    : List Nat
  deriving DecidableEq, Repr

/-- One message player IP0-IP7 (R514): message, position in samples (gap included), zones. -/
structure IslandPlayer where
  msg   : Option Nat
  pos   : Nat
  zones : List Nat
  deriving DecidableEq, Repr

/-- What a zone carries (R514, R515). -/
inductive ZoneContent where
  | none
  | player (p : Nat)
  | tone (level : Nat) (pos : Nat)
  | live (lm : Nat)
  deriving DecidableEq, Repr

/-- One safety zone: winner and content. -/
structure SafZone where
  winner  : Option Nat
  content : ZoneContent
  deriving DecidableEq, Repr

/-- What a sink fades away from during its 32-sample crossfade (R520): a value it was left at by a
change that came during a crossfade, its level-0 content, or island content with its gain code. -/
inductive SinkOld where
  | value (v : Int)
  | level0
  | silence
  | message (m pos : Nat) (gain : Int)
  | tone (level pos : Nat) (gain : Int)
  | live (lm : Nat) (gain : Int)
  deriving DecidableEq, Repr

/-- What a sink carries at the override (R517-R521). -/
structure SafSink where
  level  : Nat
  direct : Bool
  zone   : Nat
  winner : Nat
  /-- samples of the 32-sample crossfade done, and what it fades from -/
  fade   : Nat
  old    : SinkOld
  deriving DecidableEq, Repr

/-- A supervision entry's faults and last REPORT (R531). -/
structure SafLine where
  /-- fault codes present, a bit per code less 1 -/
  faults : Nat
  last   : Option Nat
  deriving DecidableEq, Repr

/-- An entry of the island's log (R540). -/
structure SafLogEntry where
  event : Event
  eseq  : Nat
  lseq  : Nat
  flags : Nat
  deriving DecidableEq, Repr

/-- A SAF_MSG_LOAD in progress (R530). -/
structure MsgLoad where
  msg     : Nat
  persist : Bool
  flash   : Bool
  src     : Nat
  len     : Nat
  offset  : Nat
  req     : Req
  deriving DecidableEq, Repr

/-- The Lodestar island (R494-R545). -/
structure SafPart where
  /-- VDD_LS is good; the island is ready; elapsed time at which it becomes ready -/
  present   : Bool
  ready     : Bool
  readyDue  : Option Nat
  resetN    : Bool
  bootCount : Nat
  /-- cause of the restart under way (Table 12-15) -/
  cause     : Option Nat
  /-- bank chosen, bank written by SYS_FW_STAGE and not yet adopted, last verified bank -/
  bank      : Nat
  newBank   : Bool
  verified  : Nat
  banks     : Tab (List Byte)
  readyAt   : Nat
  time      : DevTime
  /-- elapsed time of the last comparison with device time (R503, R540) -/
  compared  : Option Nat
  slewPpb   : Int
  /-- CD7 runs from the crystal (R501) -/
  crystal   : Bool
  /-- a lockstep mismatch since ready (R510) -/
  mismatch  : Bool
  /-- the applied record came from flash with a valid CRC or was committed since -/
  recordOk  : Bool
  cfg       : List (Nat × List Byte)
  cfgId     : Nat
  staged    : List (Nat × List Byte)
  /-- two flash copies of the record: CFG_ID and sections -/
  flash     : List (Nat × List (Nat × List Byte))
  inputs    : Tab SafInput
  outs      : Nat
  faultN    : Bool
  req       : Tab SafReq
  zone      : Tab SafZone
  player    : Tab IslandPlayer
  sink      : Tab SafSink
  /-- heartbeats: fabric ticks missed, elapsed times last seen, missing flags -/
  fabMiss   : Nat
  fabLast   : Nat
  fwLast    : Nat
  hostLast  : Nat
  hbMissing : Nat
  /-- elapsed time since which every heartbeat has been present (R524) -/
  healthy   : Option Nat
  /-- faults present beside the line faults, a bit per code less 1 (Table 12-15) -/
  faults    : Nat
  inFaults  : Tab Nat
  lines     : Tab SafLine
  supUnknown  : Nat
  trigUnknown : Nat
  load      : Option MsgLoad
  /-- the flash message library, byte for byte as Table 12-1 lays out the directory and the data -/
  library   : Tab Byte
  /-- MODEL'S OWN: what the LTDM output slots last carried, by address 0x8B00-0x8B0F -/
  ltdm      : Tab (List Int)
  log       : List SafLogEntry
  flashLog  : List SafLogEntry
  lseq      : Nat
  eseq      : Nat
  key       : Option (List Byte)
  svcFloor  : Nat
  svcSeq    : Nat
  /-- wrapped replies and events waiting on the service port, oldest first (R535) -/
  svcOut    : List (List Byte)
  /-- MODEL'S OWN: bytes the last 0x41 returned -/
  svcRead   : List Byte
  deriving DecidableEq, Repr

def SafInput.reset : SafInput :=
  { state := .normal, band := 0, run := 0, mv := 0, between := none }

def SafReq.reset : SafReq :=
  { inputs := 0, latch := false, trigger := false, trigLatch := false, trigUntil := 0,
    command := false, service := false, peer := false, since := 0, deleg := 0,
    boundaryA := none, beatsOk := false, direct := [] }

def IslandPlayer.reset : IslandPlayer := { msg := none, pos := 0, zones := [] }

def SafZone.reset : SafZone := { winner := none, content := .none }

def SafSink.reset : SafSink :=
  { level := 0, direct := false, zone := 0xFF, winner := 0xFF, fade := 32, old := .level0 }

def SafLine.reset : SafLine := { faults := 0, last := none }

/-- The island without supply: every output released (R509, R510, R55). -/
def SafPart.reset : SafPart :=
  { present := false, ready := false, readyDue := none, resetN := true, bootCount := 0,
    cause := none, bank := 0, newBank := false, verified := 0, banks := [], readyAt := 0,
    time := DevTime.zero, compared := none, slewPpb := 0, crystal := false, mismatch := false,
    recordOk := false, cfg := [], cfgId := 0, staged := [], flash := [], inputs := [],
    outs := 0, faultN := false, req := [], zone := [], player := [], sink := [],
    fabMiss := 0, fabLast := 0, fwLast := 0, hostLast := 0, hbMissing := 0, healthy := none,
    faults := 0, inFaults := [], lines := [], supUnknown := 0, trigUnknown := 0, load := none,
    library := [], ltdm := [], log := [], flashLog := [], lseq := 0, eseq := 0, key := none, svcFloor := 0,
    svcSeq := 0, svcOut := [], svcRead := [] }

/-! ## Datum, overlays and stages (13) -/

/-- A record that commands, fields and overlays change: its kind, its unit, and a number within
the unit (a gain register, a section, a zone entry). Keys of Table 13-2 are bytes of such records. -/
structure RecKey where
  kind : Nat
  unit : Nat
  sub  : Nat
  deriving DecidableEq, Repr

/-- One write into a record: bytes at an offset. -/
structure Patch where
  key    : RecKey
  offset : Nat
  bytes  : List Byte
  deriving DecidableEq, Repr

/-- A datum load in progress (Table 13-6). -/
structure LoadJob where
  /-- the command, or none for the load of R559 -/
  req    : Option Req
  /-- 0 device address, 1 the flash datum slot -/
  source : Nat
  addr   : Nat
  len    : Nat
  /-- elapsed time at which it began -/
  since  : Nat
  deriving DecidableEq, Repr

/-- One overlay unit (R561-R566). -/
structure Ovl where
  stored    : Bool
  active    : Bool
  suspended : Bool
  /-- an island overlay that waits for a place (R565) -/
  waiting   : Bool
  /-- order of its application -/
  order     : Nat
  /-- boundary at which a suspended overlay resumes (R565) -/
  resumeDue : Option Nat
  /-- the record as it was applied, and the program bank that its ALM_SWAP runs from (R566) -/
  record    : List Byte
  bank      : Nat
  deriving DecidableEq, Repr

/-- Datum, overlays and stages (R546-R571). -/
structure DatPart where
  /-- ID of the loaded datum, or 0 -/
  id        : Nat
  /-- the running datum slot, 0 or 1 -/
  running   : Nat
  /-- 0 idle, 1 FETCH, 2 CHECK, 3 apply -/
  phase     : Nat
  job       : Option LoadJob
  /-- boundary B of the load (Table 13-6 step 3) -/
  boundary  : Option Nat
  /-- entries are being applied as a datum's (R554) -/
  building  : Bool
  /-- the apply has ended and the next boundary activates it (step 6) -/
  applied   : Bool
  /-- level-0 content of every sink (steps 3 and 6) -/
  fade      : Fade
  ovl       : Tab Ovl
  orders    : Nat
  /-- base values of records that an active overlay covers (R564) -/
  base      : List (RecKey × List Byte)
  /-- records written and not consistent: the unit keeps its last consistent set (R570) -/
  held      : List (RecKey × List Byte)
  /-- staged DAT_FIELD writes per slot: target and parameters (R571) -/
  stages    : Tab (List (Nat × List Byte))
  /-- DAT_RESERVE ranges: first bank, count, use (Table 13-3) -/
  reserve   : List (Nat × Nat × Nat)
  /-- DAT_NETWORK records by port -/
  network   : Tab (List Byte)
  /-- DAT_NAME: INSTANCE and SERVICE, 48 bytes -/
  name      : List Byte
  /-- a DAT_STORE in progress -/
  store     : Option Req
  /-- a load was abandoned by a cluster restart: send DAT_LOAD_FAILED when ready (R558) -/
  abandoned : Bool
  /-- MODEL'S OWN: role records at B that are not at their reset values, for R557's generations -/
  roles     : List (Nat × List Byte)
  deriving DecidableEq, Repr

def Ovl.reset : Ovl :=
  { stored := false, active := false, suspended := false, waiting := false, order := 0,
    resumeDue := none, record := [], bank := 0 }

def DatPart.reset : DatPart :=
  { id := 0, running := 0, phase := 0, job := none, boundary := none, building := false,
    applied := false, fade := { pos := 0, len := 0, up := true }, ovl := [], orders := 0,
    base := [], held := [], stages := [], reserve := [], network := [], name := [], store := none,
    abandoned := false, roles := [] }

/-! ## The redundant pair (14) -/

/-- Pair states (Table 14-2). -/
inductive PState where
  | single | seeking | alone | foresight | joining | backsight | isolated
  deriving DecidableEq, Repr

/-- The last HEARTBEAT received (Table 14-3). -/
structure PeerBeat where
  pstate     : Nat
  hfl        : Nat
  mseqDone   : Nat
  launchedRi : Nat
  reqBits    : Nat
  datumId    : Nat
  contCrc    : Nat
  offset     : Int
  ri         : Nat
  deriving DecidableEq, Repr

/-- A handover in progress (R605). -/
structure Handover where
  h     : Nat
  req   : Option Req
  acked : Bool
  deriving DecidableEq, Repr

/-- The pair (R578-R610). -/
structure PairPart where
  /-- the pair record, 64 bytes (Table 14-1) -/
  record    : List Byte
  state     : PState
  pairId    : Bool
  peer      : PeerBeat
  /-- render indices of heartbeats received and not yet judged (R601) -/
  beats     : List Nat
  misses    : Nat
  mseq      : Nat
  mseqDone  : Nat
  fenceIn   : Bool
  fenceOut  : Bool
  /-- blocks for which FENCE_IN has stayed asserted (R586) -/
  fenceRun  : Nat
  /-- blocks waited on an asserted fence after the third miss (R601) -/
  fenceWait : Option Nat
  /-- elapsed time at which ENABLE took effect, and whether a SYNC has arrived since (R583) -/
  seekFrom  : Nat
  heard     : Bool
  settled   : Bool
  /-- this device has sent JOIN_ACCEPT to a joiner that has not sent JOIN_DONE -/
  joining   : Bool
  /-- DATUM_ID of the JOIN_ACCEPT received (Table 14-8 step 3) -/
  joinId    : Nat
  /-- boundary J of the last join (Table 14-8 step 4) -/
  joinAt    : Option Nat
  /-- snapshot and image messages received for J (R607) -/
  snapshot  : List (List Byte)
  takeovers : Nat
  lastTake  : Nat
  /-- consecutive withheld own heartbeats (R603) -/
  withheld  : Nat
  /-- render index of the tick at which the heartbeat was first withheld, while it is (R603) -/
  unfinished : Option Nat
  /-- tick at which the shared outputs are to be held, after the third withheld heartbeat (R603) -/
  holdAt    : Option Nat
  /-- shared outputs held by R603, and the tick at which they were -/
  selfHold  : Option Nat
  /-- elapsed time from which own heartbeats have been sent without a break (R603) -/
  beatFrom  : Nat
  /-- render index at which this device last became active -/
  since     : Nat
  /-- boundary H of the last voluntary handover, which divides the packets (R605) -/
  switchRi  : Option Nat
  /-- PEER_OFFSET as firmware last measured it, in ns -/
  offset    : Int
  peerLoad  : Bool
  /-- a PAIR_PEER_LOAD waiting for the peer's result: its MSEQ and the command -/
  loadReq   : Option (Nat × Req)
  handover  : Option Handover
  crcDiff   : Nat
  resent    : Bool
  /-- elapsed time since which PEER_OFFSET exceeds 5 us (R608) -/
  skewFrom  : Option Nat
  skewSent  : Bool
  /-- commands mirrored and the status this device answered, by MSEQ (R591, R593) -/
  results   : List (Nat × Nat)
  /-- results of the peer, not yet compared -/
  peerResults : List (Nat × Nat)
  /-- formed frames of the last 6 blocks: render index just past the last sample, stream, port and
  frame (R596) -/
  replay    : List (Nat × Nat × Nat × List Byte)
  deriving DecidableEq, Repr

def PeerBeat.reset : PeerBeat :=
  { pstate := 0, hfl := 0, mseqDone := 0, launchedRi := 0, reqBits := 0, datumId := 0,
    contCrc := 0, offset := 0, ri := 0 }

/-- SINGLE, with the record's defaults: seek time 5 s, lead 2,000 us. -/
def PairPart.reset : PairPart :=
  { record := [0, 0, 0, 5, 0xD0, 0x07] ++ List.replicate 58 0, state := .single,
    pairId := false, peer := PeerBeat.reset, beats := [], misses := 0, mseq := 0,
    mseqDone := 0, fenceIn := false, fenceOut := false, fenceRun := 0, fenceWait := none,
    seekFrom := 0, heard := false, settled := false, joining := false, joinId := 0,
    joinAt := none, snapshot := [], takeovers := 0, lastTake := 0, withheld := 0,
    unfinished := none, holdAt := none, selfHold := none, beatFrom := 0, since := 0,
    switchRi := none, offset := 0, peerLoad := false, loadReq := none, handover := none,
    crcDiff := 0, resent := false, skewFrom := none, skewSent := false, results := [],
    peerResults := [], replay := [] }


/-! ## Firmware, resets and one-time-programmable memory (13, 15) -/

/-- A SYS_FW_STAGE in progress (R626). -/
structure StageJob where
  req   : Req
  /-- the image as read, and the check of Table 15-5 that it fails: status and check code -/
  image : List Byte
  bad   : Option (Nat × Nat)
  deriving DecidableEq, Repr

/-- A firmware trial (R627). -/
structure Trial where
  from_ : Nat
  auto  : Bool
  deriving DecidableEq, Repr

/-- The control cluster, its firmware banks and the resets (15). -/
structure SysPart where
  /-- the control cluster runs (R51) -/
  running   : Bool
  /-- bank running, and the FW_VERSION it shows -/
  fwBank    : Nat
  fwVersion : Nat
  staged    : Option Nat
  stage     : Option StageJob
  latch     : Bool
  trial     : Option Trial
  /-- the running restart is the one SYS_FW_SWITCH makes -/
  switching : Bool
  /-- a trial was reverted: the cause that SYS_FW_REVERTED carries (R627) -/
  reverted  : Option Nat
  /-- elapsed time at which the cluster last started -/
  clusterAt : Nat
  /-- events hardware raised while the cluster was not running (R615) -/
  store     : List Event
  /-- the main event history, oldest first, with its entry numbers (R635) -/
  history   : List (Nat × Event)
  histCount : Nat
  /-- elapsed time at which a SYS_RESET takes hold (R634) -/
  resetDue  : Option Nat
  /-- elapsed time at which a SAF_RESTART takes hold (R544) -/
  islandDue : Option Nat
  bootPins  : Nat
  pairPin   : Bool
  recovery  : Bool
  halted    : Bool
  /-- the main die is held in reset; RESET_N is low or a main supply is out -/
  inReset   : Bool
  resetLow  : Bool
  /-- firmware has booted since the main reset -/
  booted    : Bool
  /-- deferred commands that a cluster restart ended, with their final reply's data -/
  lost      : List (Req × List Byte)
  /-- the thermal reset holds until the release limit (R662) -/
  hot       : Bool
  /-- elapsed time of RESET_N's release -/
  releaseAt : Nat
  /-- the flash key record: boot count, bindings of H6 and H7, pair record (R73, R76, R579) -/
  keyBoot   : Nat
  keyUdp    : Tab UdpBinding
  keyPair   : Option (List Byte)
  deriving DecidableEq, Repr

/-- Generation states of Table 13-10. -/
inductive OtpState where
  | blank | valid | spent
  deriving DecidableEq, Repr

/-- One OTP generation: its state and its 512-byte base record (Table 13-11). -/
structure OtpGen where
  state  : OtpState
  record : List Byte
  deriving DecidableEq, Repr

/-- One-time-programmable memory (R572-R575). -/
structure OtpPart where
  /-- identity bytes of Table 13-10 -/
  ident : List Byte
  gens  : Tab OtpGen
  /-- the generation whose record has been in force since the last main reset (R573) -/
  active : Nat
  /-- programming in progress: generation, record, command -/
  job   : Option (Nat × List Byte × Req)
  deriving DecidableEq, Repr

/-- A blank generation (R573). -/
def OtpGen.reset : OtpGen := { state := .blank, record := List.replicate 512 0 }

/-- Generation 0 as the model's factory writes it: BOOT_POLICY 2, privileged slot H0, default
profile Summit, one key of zeros, MIN_FW 0; every value but the layout is the model's. -/
def OtpGen.factory : OtpGen :=
  { state := .valid,
    record := [0x42, 0x43, 0x52, 0x44, 1, 0, 0, 2, 0, 0, 0, 1] ++ List.replicate 496 0
      ++ [115,233,24,37] }

/-- DIE_ID 0, part 0x9624, stepping 2, grade I, MAC addresses zero, CRC (Table 13-10). -/
def OtpPart.reset : OtpPart :=
  { ident := List.replicate 8 0 ++ [0x24, 0x96, 0x02, 0x49] ++ List.replicate 240 0 ++ [165,246,177,63],
    gens := [(0, OtpGen.factory)], active := 0, job := none }

def SysPart.reset : SysPart :=
  { running := false, fwBank := 0, fwVersion := 0, staged := none, stage := none,
    latch := false, trial := none, switching := false, reverted := none,
    clusterAt := 0, store := [], history := [], histCount := 0, resetDue := none,
    islandDue := none, bootPins := 0, pairPin := false, recovery := false, halted := false,
    inReset := true, resetLow := true, booted := false, lost := [], hot := false, releaseAt := 0,
    keyBoot := 0, keyUdp := [], keyPair := none }

/-- Why the machine stops with a fault. -/
inductive Fault where
  /-- Never raised: no rule of the spec stops the whole block. Safe. -/
  | none
  deriving DecidableEq, Repr

/-- Why a command has no meaning. -/
inductive Refusal where
  /-- Raised by Dispatch for a row whose meaning is not written. Safe: the run ends. -/
  | notModelled (mnemonic : String)
  /-- Raised by any row whose operand names no unit of the device (Instr.wf fails). Safe. -/
  | illFormed (mnemonic : String)
  deriving DecidableEq, Repr

/-- The whole block. -/
structure State where
  /-- commands waiting, first in, first out -/
  pending : List Instr
  /-- MODEL'S OWN: draws of free values so far -/
  freeCtr : Nat
  host    : HostPart
  gpio    : Tab GpioPin
  queues  : Tab Queue
  trav    : TravPart
  time    : TimePart
  sticky  : Sticky
  pair    : PairPart
  sys     : SysPart
  otp     : OtpPart
  fab     : FabPart
  net     : NetPart
  saf     : SafPart
  dat     : DatPart
  str     : StrPart
  ser     : SerPart
  alm     : AlmPart
  obj     : ObjPart
  cor     : CorPart
  /-- memory of the device address map (Table 1-4), flash window and host memory included -/
  mem     : Tab Byte
  deriving DecidableEq, Repr

/-- The block as its supplies leave it: the main die in reset, the island without supply. -/
def State.reset : State :=
  { pending := [], freeCtr := 0, host := HostPart.reset, gpio := [], queues := [],
    trav := TravPart.reset, time := TimePart.reset, sticky := Sticky.reset,
    pair := PairPart.reset, sys := SysPart.reset, otp := OtpPart.reset, fab := FabPart.reset,
    net := NetPart.reset, saf := SafPart.reset, dat := DatPart.reset, str := StrPart.reset,
    ser := SerPart.reset, alm := AlmPart.reset, obj := ObjPart.reset, cor := CorPart.reset,
    mem := [] }

end Sys2Proof.Machine
end

