-- ==== Sys2Proof/Machine/Flags.lean ====
section
/-!
DEFINITION. Sys2Proof/Machine/Flags.lean: the flags that software watches: READY (R109, Table 2-19) and the sticky
fault words with their clearing (R14, R16, R99, Table 15-10).
-/
namespace Sys2Proof.Machine

/-! ## READY (R109)

Bit numbers (Table 2-19). -/
namespace Rdy
def lodestar : Nat := 0
def time : Nat := 1
def sysPll : Nat := 2
def mp0 : Nat := 3
def mp1 : Nat := 4
def portA : Nat := 5
def portB : Nat := 6
def portC : Nat := 7
def sight : Nat := 8
def field : Nat := 9
def hostQueues : Nat := 10
def traverse : Nat := 11
def fabric : Nat := 12
def fieldStore : Nat := 13
def longStore : Nat := 14
def almanac : Nat := 15
def planisphere : Nat := 16
def correction : Nat := 17
def dynamics : Nat := 18
def streams : Nat := 19
def tdm : Nat := 20
def aes3 : Nat := 21
def datum : Nat := 22
def pair : Nat := 23
def ptpLocked : Nat := 24
end Rdy

/-- Set or clear one bit of a word. -/
def setBit (w : Word) (i : Nat) (on : Bool) : Word :=
  if on then w ||| BitVec.ofNat 32 (2 ^ i) else w &&& ~~~ BitVec.ofNat 32 (2 ^ i)

/-- A READY bit (R109). -/
def State.isReady (s : State) (bit : Nat) : Bool := s.host.ready.getLsbD bit

/-- Set or clear a READY bit. -/
def State.setReady (s : State) (bit : Nat) (on : Bool) : State :=
  { s with host := { s.host with ready := setBit s.host.ready bit on } }

/-! ## Sticky words (Table 15-10) -/

/-- Set a bit of the FABRIC sticky word (Table 15-10). -/
def State.markFabric (s : State) (bit : Nat) : State :=
  { s with sticky := { s.sticky with fabric := setBit s.sticky.fabric bit true } }

/-- Clear the RC fields of a sticky word; SUMMARY follows its words. -/
def Sticky.clearRc (k : Sticky) (off : Nat) : Sticky :=
  match off with
  | 0x4044 => { k with eccCe := 0 }
  | 0x4048 => { k with eccUe := 0 }
  | 0x4054 => { k with restarts := 0 }
  | 0x4058 => { k with warmResets := 0 }
  | _ => k

/-- Clear the bits of `v` in a sticky W1C word. -/
def Sticky.w1c (k : Sticky) (off : Nat) (v : Word) : Sticky :=
  if 0x4008 ≤ off ∧ off < 0x4028 then
    { k with qptr := tmod 0 k.qptr ((off - 0x4008) / 4) fun w => w &&& ~~~ v }
  else
    match off with
    | 0x4028 => { k with frozenSlots := k.frozenSlots &&& ~~~ v }
    | 0x402C => { k with frozenCh := k.frozenCh &&& ~~~ v }
    | 0x4030 => { k with frozenX := k.frozenX &&& ~~~ v }
    | 0x4034 => { k with fabric := k.fabric &&& ~~~ v }
    | 0x4038 => { k with clock := k.clock &&& ~~~ v }
    | 0x403C => { k with firmware := k.firmware &&& ~~~ v }
    | 0x4040 => { k with memory := k.memory &&& ~~~ v }
    | _ => k

/-- The offset holds a W1C word. -/
def isW1c (off : Nat) : Bool :=
  (decide (0x4008 ≤ off) && decide (off < 0x4044) && decide (off % 4 = 0))

/-- The offset holds an RC word. -/
def isRcWord (off : Nat) : Bool := off == 0x4044 || off == 0x4048 || off == 0x4054 || off == 0x4058

end Sys2Proof.Machine
end

