-- ==== Sys2Proof/Machine/Queues.lean ====
section
/-!
DEFINITION. Sys2Proof/Machine/Queues.lean: one hardware queue and what a queue cycle does to it
(R116-R143, Table 3-2), written as the cycle's pseudocode gives it.
-/
namespace Sys2Proof.Machine

/-- A push-side operation (R125). -/
inductive PushOp where
  | push (cell : List Byte)
  | pushCommit (cell : List Byte)
  | commit
  | abort
  | reset
  deriving DecidableEq, Repr

/-- log2 of the bank size of queue `q` (Table 3-1); 0 when disabled. -/
def bankLog2 (q : Nat) (x : Queue) : Nat :=
  if q < 64 then 7 else if q < 72 then 6 else if q < 80 then 7 else if q < 128 then 8
  else if q < 240 then x.log2 else 7

/-- B, the cells of one bank; 0 when disabled (Table 3-4). -/
def bankCells (q : Nat) (x : Queue) : Nat := if bankLog2 q x = 0 then 0 else 2 ^ bankLog2 q x

def Queue.bank (x : Queue) (b : Bool) : Bank := if b then x.bank1 else x.bank0

def Queue.setBank (x : Queue) (b : Bool) (v : Bank) : Queue :=
  if b then { x with bank1 := v } else { x with bank0 := v }

/-- The bank from which pops are taken (R118). -/
def Queue.drain (x : Queue) : Bool := !x.fill1

/-- The push bank (R119). -/
def Queue.pushBank (x : Queue) : Bool :=
  match x.openAt with
  | some (b, _) => b
  | none => x.fill1

/-- A bank whose marker slot holds a marker is sealed (R135). -/
def Bank.sealed (b : Bank) : Bool := b.marker.isSome

def Bank.markerWaiting (b : Bank) : Bool := b.marker.isSome && !b.markerPopped

/-- Committed, unpopped cells of a bank, its marker included. -/
def Bank.cellsLeft (b : Bank) : Nat := (b.commit - b.read) + b2n b.markerWaiting

/-- Depth (R120). -/
def Queue.depth (x : Queue) : Nat := (x.bank x.drain).cellsLeft

/-- The marker cell of Table 3-3. -/
def Marker.cell (m : Marker) (q : Nat) : List Byte :=
  le 2 0xFFFF ++ le 1 q ++ zeros 1 ++ le 2 m.epoch ++ zeros 2 ++ le 4 m.packets ++ le 4 m.cells
    ++ le 6 m.firstSec ++ le 4 m.firstNs ++ le 6 m.lastSec ++ le 4 m.lastNs ++ zeros 28

/-- What the next pop returns, and the queue after it; none on depth 0 (R133). -/
def Queue.pop (q : Nat) (x : Queue) : Option (QCell × Queue) :=
  let b := x.bank x.drain
  if b.read < b.commit then
    match b.cells[b.read]? with
    | some c => some (c, x.setBank x.drain { b with read := b.read + 1 })
    | none => none
  else
    match b.marker with
    | some m =>
      if b.markerPopped then none
      else
        let y := x.setBank x.drain { b with markerPopped := true }
        some ({ data := m.cell q, first := true, last := true },
          if y.openMark = some x.drain then { y with openMark := none } else y)
    | none => none

/-- Free the cells of the open packet (R127). -/
def Queue.rewind (x : Queue) : Queue :=
  match x.openAt with
  | some (b, start) =>
    let v := x.bank b
    { x.setBank b { v with cells := v.cells.take start } with openAt := none }
  | none => x

/-- Cells the open packet holds. -/
def Queue.openLen (x : Queue) : Nat :=
  match x.openAt with
  | some (b, start) => (x.bank b).cells.length - start
  | none => 0

/-- Mark the last cell of a list as its packet's last. -/
def markLast : List QCell → List QCell
  | [] => []
  | [c] => [{ c with last := true }]
  | c :: d :: cs => c :: markLast (d :: cs)

/-- Commit the open packet, which closes an open marker (R137). -/
def Queue.commitOpen (x : Queue) : Queue :=
  match x.openAt with
  | some (b, _) =>
    let v := x.bank b
    let y := x.setBank b { v with cells := markLast v.cells, commit := v.cells.length }
    { y with openAt := none, openMark := none }
  | none => x

/-- Record one dropped packet of `n` cells (R136): into the open marker, else a new marker in the
push bank, which it seals. -/
def Queue.recordDrop (x : Queue) (pb : Bool) (n : Nat) (sec ns : Nat) : Queue :=
  let cap := 0xFFFFFFFF
  match x.openMark with
  | some mb =>
    let v := x.bank mb
    match v.marker with
    | some m =>
      let m' : Marker :=
        { m with
          packets := satAdd cap m.packets 1, cells := satAdd cap m.cells n,
          lastSec := sec, lastNs := ns }
      x.setBank mb { v with marker := some m' }
    | none => x
  | none =>
    let v := x.bank pb
    let m : Marker :=
      { epoch := x.epoch, packets := 1, cells := n, firstSec := sec, firstNs := ns,
        lastSec := sec, lastNs := ns }
    let y := x.setBank pb { v with markerPopped := false, marker := some m }
    { y with openMark := some pb }

/-- A push of one cell, with or without closing the packet (Table 3-2 rows 3 to 13). -/
def Queue.pushCell (q : Nat) (x : Queue) (cell : List Byte) (close : Bool) (sec ns : Nat) : Queue :=
  let cells := bankCells q x
  if x.discarding then { x with discarding := !close }
  else if cells - 2 ≤ x.openLen then
    { x.rewind with overlongCt := satAdd 0xFF x.overlongCt 1, discarding := !close }
  else
    let pb := x.pushBank
    let v := x.bank pb
    if v.sealed || decide (cells - 1 ≤ v.cells.length) then
      let y := x.rewind.recordDrop pb (x.openLen + 1) sec ns
      { y with discarding := !close }
    else
      let first := x.openAt.isNone
      let c : QCell := { data := cell, first := first, last := false }
      let w := x.setBank pb { v with cells := v.cells ++ [c] }
      let y := { w with openAt := some (x.openAt.getD (pb, v.cells.length)) }
      if close then y.commitOpen else y

/-- Empty the queue (R140): a RESET, a pointer fault, a function-level reset, a size change. -/
def Queue.emptied (x : Queue) : Queue :=
  { x with
    bank0 := Bank.empty, bank1 := Bank.empty, fill1 := false, openAt := none,
    openMark := none, discarding := x.discarding || x.openAt.isSome,
    epoch := (x.epoch + 1) % 65536 }

/-- The swap judged at the end of each cycle (R129). -/
def Queue.swapIfSpent (x : Queue) : Queue :=
  let d := x.bank x.drain
  let f := x.bank x.fill1
  let openInDrain := match x.openAt with
    | some (b, _) => b == x.drain
    | none => false
  if d.cellsLeft = 0 && !openInDrain && decide (0 < f.cellsLeft) then
    { x.setBank x.drain Bank.empty with fill1 := !x.fill1 }
  else x

/-- Cells and committed packets lost when the queue is emptied (Table 3-5 step 4). -/
def Bank.packetsLeft (b : Bank) : Nat :=
  (((b.cells.take b.commit).drop b.read).filter (·.last)).length + b2n b.markerWaiting

def Queue.cellsHeld (x : Queue) : Nat := x.bank0.cellsLeft + x.bank1.cellsLeft

def Queue.packetsHeld (x : Queue) : Nat := x.bank0.packetsLeft + x.bank1.packetsLeft

def Queue.markersHeld (x : Queue) : Nat := b2n x.bank0.markerWaiting + b2n x.bank1.markerWaiting

/-- One queue cycle (R125-R136): the queue after it and what the pop returned. On a disabled
queue every operation does nothing (R668). Disagreeing pointer copies are a pointer fault, which
performs no operation (R142). -/
def queueCycle (q : Nat) (x : Queue) (push : Option PushOp) (pop : Bool) (sec ns : Nat) :
    Queue × Option QCell :=
  if bankLog2 q x = 0 then (x, none)
  else if !x.copiesAgree then
    ({ x.emptied with copiesAgree := true, ptrFaultCt := satAdd 0xFF x.ptrFaultCt 1 }, none)
  else if push = some .reset then (x.emptied, none)
  else
    let popped := if pop then x.pop q else none
    let y := match popped with
      | some (_, y) => y
      | none => x
    let z := match push with
      | some (.push c) => y.pushCell q c false sec ns
      | some (.pushCommit c) => y.pushCell q c true sec ns
      | some .commit => if y.discarding then { y with discarding := false } else y.commitOpen
      | some .abort => if y.discarding then { y with discarding := false } else y.rewind
      | some .reset => y
      | none => y
    (z.swapIfSpent, popped.map (·.1))

end Sys2Proof.Machine
end

