-- ==== Sys2Proof/Machine/Ops.lean ====
section
/-!
DEFINITION. Sys2Proof/Machine/Ops.lean: the named operations over the state that every family
shares: free values, readiness bits, unit generations, profiles, queue operations with their
faults, events and their delivery, replies, and the datagrams of H6 and H7.
-/
namespace Sys2Proof.Machine

/-! ## Status codes (Table 2-8) -/

namespace Status
def ok : Nat := 0x0000
def accepted : Nat := 0x0001
def badOpcode : Nat := 0x0010
def badLength : Nat := 0x0011
def badParam : Nat := 0x0012
def staleRole : Nat := 0x0013
def noAccess : Nat := 0x0014
def frozen : Nat := 0x0015
def busy : Nat := 0x0016
def notReady : Nat := 0x0017
def coupling : Nat := 0x0018
def budget : Nat := 0x0019
def noSpace : Nat := 0x001A
def crc : Nat := 0x001B
def sequence : Nat := 0x001C
def safetyLock : Nat := 0x001D
def pairRole : Nat := 0x001E
def timeout : Nat := 0x001F
def frameTooLong : Nat := 0x0020
def otpSpent : Nat := 0x0021
def internal : Nat := 0x00FF
end Status

/-! ## The outcome of a command -/

/-- The state after a command: its effect `t` on everything but the queue of waiting commands, which stays that of the
state `s` it ran on. -/
def State.goesTo (s t : State) : State := { t with pending := s.pending }

/-- A command completes. -/
def goOn (s t : State) : Host.Outcome State Fault Refusal := .next (s.goesTo t)

/-- A command whose operands name units of the device runs; another is refused by name. -/
def ran (wf : Bool) (name : String) (s t : State) : Host.Outcome State Fault Refusal :=
  if wf then goOn s t else .refused (.illFormed name)

/-! ## Free values -/

/-- Advance the counter that free values are drawn with. -/
def State.bump (s : State) : State := { s with freeCtr := s.freeCtr + 1 }

/-- A free value of `w` bits as a number, and the state after the draw. -/
def State.draw (s : State) (w : Nat) : Nat × State := ((Config.freeBits w s.freeCtr).toNat, s.bump)

/-! ## Units of time (R12) -/

/-- Nanoseconds per second, millisecond, microsecond. -/
def second : Nat := 1000000000
def milli : Nat := 1000000
def micro : Nat := 1000

/-! ## Profiles (Tables 8-4, 8-5) -/

/-- Internal rate in Hz. -/
def profRate (p : Nat) : Nat := if p = 3 then 96000 else 48000

/-- Block length L. -/
def profLen (p : Nat) : Nat := if p = 2 then 8 else 16

/-- Fabric depth D. -/
def profDepth (p : Nat) : Nat := if p = 1 ∨ p = 4 then 2 else 1

def profObjects (p : Nat) : Nat := if p ≤ 1 then 512 else if p ≤ 3 then 256 else 64
def profFeeds (p : Nat) : Nat := if p ≤ 2 then 1024 else if p = 3 then 512 else 256
def profBuses (p : Nat) : Nat := if p ≤ 3 then 256 else 64
def profTaps (p : Nat) : Nat := if p ≤ 1 then 65536 else if p ≤ 3 then 32768 else 4096

/-- Correction pool in taps. -/
def profPool (p : Nat) : Nat :=
  if p ≤ 1 then 4194304 else if p = 2 then 1048576 else if p = 3 then 4194304 else 262144

/-- Correction partition size in samples. -/
def profPart (p : Nat) : Nat := if p = 2 then 16 else 32

/-- Almanac instructions. -/
def profInstr (p : Nat) : Nat := if p ≤ 2 then 32768 else if p = 3 then 16384 else 8192

/-- Network channels, each direction. -/
def profChannels (p : Nat) : Nat := if p ≤ 2 then 2048 else if p = 3 then 1024 else 512

/-- TDM slots per port. -/
def profTdmSlots (p : Nat) : Nat := if p = 3 then 16 else 32

/-- ASRC engines. -/
def profAsrc (p : Nat) : Nat := if p = 4 then 4 else 8

/-- Partitions powered, a bit each. -/
def profPowered (p : Nat) : Nat := if p = 4 then 0x000F else 0xFFFF

/-- Voltage band: 0 low, 1 mid, 2 high, and its bounds as codes (Table 8-3). -/
def profBand (p : Nat) : Nat := if p = 4 then 0 else if p = 1 ∨ p = 2 then 1 else 2
def bandFloor (b : Nat) : Nat := 10 * b
def bandCeil (b : Nat) : Nat := 20 * (b + 1)

def State.rate (s : State) : Nat := profRate s.fab.active
def State.blockLen (s : State) : Nat := profLen s.fab.active

/-- Block period in nanoseconds, rounded down. -/
def State.blockNs (s : State) : Nat := s.blockLen * second / s.rate

/-! ## Units (Tables 0-5, 0-6) -/

/-- Units in the valid range of a class; 0 for the invalid class (R26). -/
def classSize (c : Nat) : Nat :=
  match c with
  | 1 => 512 | 2 => 512 | 3 => 16 | 4 => 512 | 5 => 1024 | 6 => 256 | 7 => 1280 | 8 => 36
  | 9 => 256 | 10 => 8 | 11 => 32 | 12 => 8 | 13 => 64 | 14 => 64 | 15 => 1 | _ => 0

def unitClass (u : Nat) : Nat := u / 4096 % 16
def unitIndex (u : Nat) : Nat := u % 4096

/-- The unit ID names a unit (R26). -/
def validUnit (u : Nat) : Bool :=
  decide (u < 65536) && decide (unitIndex u < classSize (unitClass u))

/-- The unit lies within a profile's capacity (R27). -/
def inCapacity (p u : Nat) : Bool :=
  let i := unitIndex u
  match unitClass u with
  | 4 => decide (i < profObjects p)
  | 5 => decide (i < profFeeds p)
  | 6 => decide (i < profBuses p)
  | 7 => if i < 1024 then decide (i < profFeeds p) else decide (i - 1024 < profBuses p)
  | _ => true

/-- A unit's role generation (R89): 1 at main reset. -/
def State.genOf (s : State) (u : Nat) : Nat := tget 0 s.host.unitGens u + 1

/-- A generation after it increments: 65,535 becomes 1 (R89). -/
def nextGen (g : Nat) : Nat := if g = 65535 then 1 else g + 1

/-- Increment a unit's generation. -/
def State.bumpGen (s : State) (u : Nat) : State :=
  { s with host := { s.host with unitGens := tput 0 s.host.unitGens u (nextGen (s.genOf u) - 1) } }

/-- GEN of a unit that a record names: 0 for no unit. -/
def State.genField (s : State) (u : Nat) : Nat := if validUnit u then s.genOf u else 0

/-! ## Slots -/

def State.slot (s : State) (i : Nat) : Slot := tget Slot.reset s.host.slots i

def State.setSlot (s : State) (i : Nat) (v : Slot) : State :=
  { s with host := { s.host with slots := tput Slot.reset s.host.slots i v } }

def State.modSlot (s : State) (i : Nat) (f : Slot → Slot) : State := s.setSlot i (f (s.slot i))

/-- The privileged slot has level 3 (R94). -/
def State.levelOf (s : State) (i : Nat) : Nat :=
  if i = s.host.privSlot then 3 else (s.slot i).level

/-! ## Queue operations -/

def State.queue (s : State) (q : Nat) : Queue := tget Queue.reset s.queues q

def State.setQueue (s : State) (q : Nat) (v : Queue) : State :=
  { s with queues := tput Queue.reset s.queues q v }

/-- Forget the sequence expectation of a command queue (R81, R140). -/
def State.forgetSeq (s : State) (q : Nat) : State :=
  { s with host := { s.host with
      cmdq := tmod CmdQueue.reset s.host.cmdq q fun c => { c with lastSeq := none } } }

/-- Set a bit of QPTR_n (R143). -/
def State.markQptr (s : State) (q : Nat) : State :=
  { s with sticky := { s.sticky with
      qptr := tmod 0 s.sticky.qptr (q / 32) fun w => setBit w (q % 32) true } }

/-- One queue cycle of queue `q` and what it popped, with the sticky bit of a pointer fault and the
reset of a command queue's sequence expectation; no event. -/
def State.rawQ (s : State) (q : Nat) (push : Option PushOp) (pop : Bool) : State × Option QCell :=
  let x := s.queue q
  let r := queueCycle q x push pop s.time.now.sec s.time.now.ns
  let enabled := decide (bankLog2 q x ≠ 0)
  let fault := enabled && !x.copiesAgree
  let emptied := fault || (enabled && decide (push = some .reset))
  let s := s.setQueue q r.1
  let s := if fault then s.markQptr q else s
  (if emptied && decide (q < 32) then s.forgetSeq q else s, r.2)

/-- The packet as 64-byte cells, the last filled with zeros (R78). -/
def toCells (p : List Byte) : List (List Byte) :=
  (List.range ((p.length + 63) / 64)).map fun i =>
    let c := slice p (64 * i) 64
    c ++ zeros (64 - c.length)

/-- Push a packet's cells and commit with the last. -/
def State.rawPushCells (s : State) (q : Nat) : List (List Byte) → State
  | [] => s
  | [c] => (s.rawQ q (some (.pushCommit c)) false).1
  | c :: d :: cs => (s.rawQ q (some (.push c)) false).1.rawPushCells q (d :: cs)

/-! ## UDP datagrams of H6 and H7 (R71-R74) -/

/-- A device-to-host datagram (Table 2-4), in the slot's wrapper. -/
def wrapDatagram (s : State) (i : Nat) (event : Bool) (k : Nat) (p : List Byte) : List Byte :=
  let b := (s.slot i).udp
  let head := le 1 1 ++ le 1 (0x80 + 0x40 * b2n event + k) ++ zeros 2
    ++ le 4 (b.devSeq + 1) ++ le 4 s.host.bootCount ++ p
  head ++ hmacSha256 b.key head

/-! ## Events (R92, R93, R615, R635) -/

/-- The cell of an event record (Table 2-10). -/
def Event.cell (e : Event) (eseq : Nat) : List Byte :=
  le 2 e.code ++ le 1 e.sev ++ le 1 e.eclass ++ le 2 e.unit ++ le 2 e.gen ++ le 6 e.sec
    ++ le 4 e.ns ++ le 2 eseq ++ slice (e.detail ++ zeros 8) 0 8 ++ zeros 4

/-- Severity passes the slot's filter for its class (R93). -/
def passesFilter (x : Slot) (e : Event) : Bool :=
  e.force || (decide (x.filter.getD e.eclass 2 ≠ 0xFF) && decide (x.filter.getD e.eclass 2 ≤ e.sev))

/-- Pop cells up to the end of one packet (R116); `fuel` bounds the cells of a bank. -/
def State.popCells (s : State) (q : Nat) : Nat → List QCell → State × List QCell
  | 0, acc => (s, acc)
  | fuel + 1, acc =>
    match s.rawQ q none true with
    | (s', some c) => if c.last then (s', acc ++ [c]) else s'.popCells q fuel (acc ++ [c])
    | (s', none) => (s', acc)

/-- Pop one whole packet or marker of a queue; empty where the queue is. -/
def State.popPacket (s : State) (q : Nat) : State × List Byte :=
  let r := s.popCells q (bankCells q (s.queue q)) []
  (r.1, (r.2.map (·.data)).flatten)

/-- The slot is a UDP slot that can be answered: bound, and a datagram has been accepted (R71). -/
def State.udpReady (s : State) (i : Nat) : Bool :=
  decide (6 ≤ i) && (s.slot i).udp.bound && decide ((s.slot i).udp.lastPort ≠ 0)

/-- Send one datagram of slot `i`: the device sequence counts from 1 (R73). -/
def State.sendDatagram (s : State) (i : Nat) (event : Bool) (k : Nat) (p : List Byte) : State :=
  let d := wrapDatagram s i event k p
  let s := s.modSlot i fun x => { x with udp := { x.udp with devSeq := x.udp.devSeq + 1 } }
  { s with host := { s.host with udpOut := s.host.udpOut ++ [(i, d)] } }

/-- Drain a reply or event queue of a UDP slot into datagrams (R71): a reply is its packet, an
event its 32-byte record; a gap marker is neither and is dropped. -/
def State.flushQueue (s : State) (i : Nat) (event : Bool) (k q : Nat) : Nat → State
  | 0 => s
  | fuel + 1 =>
    match s.popPacket q with
    | (s', []) => s'
    | (s', p) =>
      let s' :=
        if u16 p 0 = 0xFFFF then s'
        else if event then s'.sendDatagram i true 0 (p.take 32)
        else s'.sendDatagram i false k (p.take (20 + u16 p 12))
      s'.flushQueue i event k q fuel

/-- Offer an event to slot `i`: ESEQ counts it whether or not it is delivered (Table 2-10). -/
def State.offerTo (s : State) (e : Event) (i : Nat) : State :=
  let eseq := ((s.slot i).eseq + 1) % 65536
  let s := s.modSlot i fun x => { x with eseq := eseq }
  if passesFilter (s.slot i) e then
    let s := s.rawPushCells (64 + i) (toCells (e.cell eseq ++ zeros 32))
    if s.udpReady i then s.flushQueue i true 0 (64 + i) 130 else s
  else s

/-- Offer an event to several slots in order. -/
def State.offerAll (s : State) (e : Event) : List Nat → State
  | [] => s
  | i :: is => (s.offerTo e i).offerAll e is

/-- Add to the main event history (R635): WARNING and above, every class but the island's. -/
def State.addHistory (s : State) (e : Event) : State :=
  if decide (2 ≤ e.sev) && decide (e.eclass ≠ 0x0E) then
    let n := (s.sys.histCount + 1) % 65536
    let h := s.sys.history ++ [(n, e)]
    { s with sys := { s.sys with histCount := n, history := h.drop (h.length - 128) } }
  else s

/-- Deliver an event as firmware does (R92, R93). -/
def State.deliver (s : State) (e : Event) : State :=
  let s := s.addHistory e
  match e.whom with
  | .all => s.offerAll e (List.range 8)
  | .slot i => s.offerTo e i

/-- Raise an event: delivered while the cluster runs, else kept in the pending store of 64 records,
beyond which EVENTS_LOST sets (R615). A CRITICAL event's code is LAST_CRIT. -/
def State.raise (s : State) (e : Event) : State :=
  let s := if e.sev = 4 then { s with sticky := { s.sticky with lastCrit := e.code } } else s
  if s.sys.running then s.deliver e
  else if s.sys.store.length < 64 then
    { s with sys := { s.sys with store := s.sys.store ++ [e] } }
  else { s with sticky := { s.sticky with firmware := setBit s.sticky.firmware 4 true } }

/-! Severities (Table 2-10). -/
namespace Sev
def info : Nat := 0
def notice : Nat := 1
def warning : Nat := 2
def error : Nat := 3
def critical : Nat := 4
end Sev

/-- An event that arises now. -/
def State.event (s : State) (code sev eclass unit : Nat) (detail : List Byte)
    (whom : Audience := .all) : State :=
  s.raise { code := code, sev := sev, eclass := eclass, unit := unit, gen := s.genField unit,
            sec := s.time.now.sec, ns := s.time.now.ns, detail := detail, whom := whom,
            force := false }

/-- An event sent at most once per second of elapsed time under a key (R669). -/
def State.oncePerSecond (s : State) (key : Nat) (f : State → State) : State :=
  let last := tget 0 s.host.lastSent key
  if last = 0 ∨ last - 1 + second ≤ s.time.elapsed then
    f { s with host := { s.host with lastSent := tput 0 s.host.lastSent key (s.time.elapsed + 1) } }
  else s

/-- Owner slot of a queue for its pointer-fault event (R143). -/
def State.queueOwner (s : State) (q : Nat) : Nat :=
  if q < 32 then q / 4 else if q < 64 then (q - 32) / 4 else if q < 72 then q - 64
  else if 128 ≤ q ∧ q < 240 then (s.queue q).owner else s.host.privSlot

/-- One queue cycle of queue `q`, with the QUEUE_PTR_FAULT event of Table 3-5 step 4 unless the
faulted queue is its owner's own event queue (R143). -/
def State.queueOp (s : State) (q : Nat) (push : Option PushOp) (pop : Bool) :
    State × Option QCell :=
  let x := s.queue q
  let fault := decide (bankLog2 q x ≠ 0) && !x.copiesAgree
  let r := s.rawQ q push pop
  let o := s.queueOwner q
  if fault && decide (q ≠ 64 + o) then
    let lost := min 0xFFFF
    let d := le 1 q ++ zeros 1 ++ le 2 (r.1.queue q).epoch ++ le 2 (lost x.cellsHeld)
      ++ le 2 (lost x.packetsHeld)
    let s' := r.1.event 0x0801 Sev.error 0x08 (0x9000 + q) d (.slot o)
    (s', r.2)
  else r

/-- Push a whole packet. -/
def State.pushCells (s : State) (q : Nat) : List (List Byte) → State
  | [] => s
  | [c] => (s.queueOp q (some (.pushCommit c)) false).1
  | c :: d :: cs => (s.queueOp q (some (.push c)) false).1.pushCells q (d :: cs)

def State.pushPacket (s : State) (q : Nat) (p : List Byte) : State := s.pushCells q (toCells p)

/-! ## Replies (R80-R84) -/

/-- A reply packet (R82). -/
def replyPacket (slot seq op status target gen : Nat) (data : List Byte) : List Byte :=
  let body := le 1 0x03 ++ le 1 slot ++ le 2 seq ++ le 2 op ++ le 2 status ++ le 2 target
    ++ le 2 gen ++ le 2 data.length ++ zeros 2 ++ data
  body ++ le 4 (crc32c body)

/-- Send a reply to the reply queue paired with the command queue (R80). On H6 and H7 it leaves from
there as a datagram, and one too large is sent as BAD_LENGTH with no data (R74). -/
def State.sendReply (s : State) (slot k : Nat) (p : List Byte) : State :=
  let q := 32 + 4 * slot + k
  if s.udpReady slot then
    let top := if (s.slot slot).udp.ipver = 4 then 1428 else 1408
    let p := if p.length ≤ top then p
      else replyPacket slot (u16 p 2) (u16 p 4) Status.badLength (u16 p 8) (u16 p 10) []
    (s.pushPacket q p).flushQueue slot false k q 130
  else s.pushPacket q p

end Sys2Proof.Machine
end

