-- ==== Sys2Proof/Machine/Operands.lean ====
section
/-!
DEFINITION. Sys2Proof/Machine/Operands.lean: a command packet and its parts (Tables 2-5, 2-6), the
verdicts an opcode can give, a slot's access window, and the checks on parameters that many
opcodes share.
-/
namespace Sys2Proof.Machine

/-! ## Flags of a command (Table 2-6) -/

def Req.noReply (r : Req) : Bool := bitOf r.flags 0
def Req.ordered (r : Req) : Bool := bitOf r.flags 1
def Req.atRi (r : Req) : Bool := bitOf r.flags 2
def Req.pairLocal (r : Req) : Bool := bitOf r.flags 3

/-- Index of the target within its class. -/
def Req.index (r : Req) : Nat := unitIndex r.target

/-! ## What an opcode decides -/

/-- The verdict of an opcode's own checks and effect (check 14 of Table 2-7, R83). -/
inductive Verdict where
  /-- a check fails: nothing changes -/
  | fail (status : Nat) (data : List Byte)
  /-- a level check of the opcode's own fails: NO_ACCESS, counted in DENIED (R97) -/
  | deny
  /-- the command completes now -/
  | done (s : State) (data : List Byte)
  /-- the command is accepted and applies at a block boundary (R34, R86) -/
  | boundary
  /-- the command is deferred: ACCEPTED now, the final reply later (R83) -/
  | deferred (s : State)
  /-- the state notes a command that completes at a boundary of its own; ACCEPTED now where it is deferred -/
  | hold (deferred : Bool) (s : State)
  /-- a deferred command that completes as soon as it begins: ACCEPTED, then the final reply -/
  | both (s : State) (data : List Byte)
  /-- ACCEPTED is the one and final reply, sent before the effect (R83) -/
  | only (after : State → State)

/-- An opcode: given whether it now applies at its boundary, the command and the state. -/
abbrev Body := Bool → Req → State → Verdict

/-- A failing status with no data. -/
def Verdict.bad (status : Nat) : Verdict := .fail status []

/-- A command that changes audio processing (R34): its checks run at acceptance and again at the
boundary, and its effect takes hold at the boundary only. -/
def atBoundary (check : Req → State → Option Nat) (effect : Req → State → State) : Body :=
  fun atB r s =>
    match check r s with
    | some st => .bad st
    | none => if atB then .done (effect r s) [] else .boundary

/-- A command that takes effect as it completes, once its check passes. -/
def atOnce (check : Req → State → Option Nat) (effect : Req → State → State) : Body :=
  fun _ r s =>
    match check r s with
    | some st => .bad st
    | none => .done (effect r s) []

/-- A query that cannot fail beyond the common checks. -/
def query (data : Req → State → List Byte) : Body := fun _ r s => .done s (data r s)

/-- First failing check of a list of conditions with their statuses. -/
def firstFail : List (Bool × Nat) → Option Nat
  | [] => none
  | (bad, st) :: cs => if bad then some st else firstFail cs

/-! ## Gain codes, coordinates and angles (R18, R20, R21) -/

/-- A valid gain code (R18): -15,360 to 3,072, or 0x8000 for mute. -/
def gainOk (g : Int) : Bool := g == -32768 || (decide (-15360 ≤ g) && decide (g ≤ 3072))

/-- A valid coordinate in millimetres (R20). -/
def coordOk (v : Int) : Bool := decide (-2000000 ≤ v) && decide (v ≤ 2000000)

/-- Azimuth in reduced form (R21). -/
def reduceAz (v : Int) : Int := v % 400000

def elevOk (v : Int) : Bool := decide (-100000 ≤ v) && decide (v ≤ 100000)
def spreadOk (v : Int) : Bool := decide (0 ≤ v) && decide (v ≤ 200000)
def soundOk (v : Nat) : Bool := decide (250000 ≤ v) && decide (v ≤ 450000)

/-! ## Access windows (R95-R98) -/

/-- The window grants every byte of an address range (R95). -/
def windowGrants (ranges : List MemRange) (write : Bool) (addr len : Nat) : Bool :=
  len == 0 || ranges.any fun r =>
    (if write then r.write else r.read) && decide (r.base ≤ addr) &&
      decide (addr + len - 1 ≤ r.limit)

/-- Host memory through PCIe (Table 1-4). -/
def inHostMemory (addr len : Nat) : Bool :=
  decide (0x8000000000000000 ≤ addr + len - 1) && decide (len ≠ 0)

/-- The slot may read (or write) the address range: the privileged slot's window is the whole
device, and host memory lies outside the reach of a slot that is not a PCIe slot (R96, R666). -/
def State.slotMay (s : State) (i : Nat) (write : Bool) (addr len : Nat) : Bool :=
  (decide (i < 4) || !inHostMemory addr len) &&
    (decide (i = s.host.privSlot) || windowGrants (s.slot i).mem write addr len)

/-- The slot's domain grants the unit (R95): no check for 0x0000 and the system unit. -/
def State.domainGrants (s : State) (i : Nat) (write : Bool) (u : Nat) : Bool :=
  decide (i = s.host.privSlot) || decide (u = 0) || decide (unitClass u = 15) ||
    (s.slot i).units.any fun r =>
      (if write then r.write else r.read) && decide (r.first ≤ u) && decide (u ≤ r.last)

/-! ## The opcode table's common columns -/

/-- One opcode: level, whether it is a query, accepts AT_RI, changes audio processing, is mirrored
in a pair (Table 14-5), is admitted on a Backsight (R87); its target ranges of unit IDs and its
parameter length range (R670). -/
structure OpInfo where
  op       : Nat
  level    : Nat
  query    : Bool
  atRi     : Bool
  audio    : Bool
  mirrored : Bool
  onBack   : Bool
  targets  : List (Nat × Nat)
  plenLo   : Nat
  plenHi   : Nat
  deriving DecidableEq, Repr

/-- The target is of a kind the opcode's table names (R670). -/
def OpInfo.takes (i : OpInfo) (u : Nat) : Bool :=
  i.targets.any fun t => decide (t.1 ≤ u) && decide (u ≤ t.2)

end Sys2Proof.Machine
end

