-- ==== Sys2Proof/Machine/Links.lean ====
section
/-!
DEFINITION. Sys2Proof/Machine/Links.lean: what leaves the block by links other than the host
queues: sight-line frames (R244-R248, R588), island events, its log and the service port's
replies (R535, R540, R542), and pulses of the event lines (R112).
-/
namespace Sys2Proof.Machine

/-! ## Sight line -/

/-- A frame from its sight-line header on (Table 5-12). -/
def sightFrame (stype sseq ri unit gen ack : Nat) (payload : List Byte) : List Byte :=
  le 1 1 ++ le 1 stype ++ zeros 2 ++ le 4 sseq ++ le 8 ri ++ le 2 unit ++ le 2 gen
    ++ le 2 payload.length ++ zeros 2 ++ le 4 ack ++ zeros 4 ++ payload

/-- The same frame with its sequence number set. -/
def withSseq (f : List Byte) (n : Nat) : List Byte := f.take 4 ++ le 4 n ++ f.drop 8

def State.sightMod (s : State) (f : Sight → Sight) : State :=
  { s with net := { s.net with sight := f s.net.sight } }

/-- Hand a frame to Port S; a frozen line passes nothing (R248). -/
def Sight.emit (x : Sight) (f : List Byte) : Sight :=
  if x.frozen then x else { x with out := x.out ++ [f], ackDue := none }

/-- Send a sequenced frame: at most 64 stay unacknowledged, later ones wait (R247). -/
def Sight.send (x : Sight) (f : List Byte) (now : Nat) : Sight :=
  if x.frozen then x
  else if x.unacked.length < 64 then
    let f := withSseq f x.nextSeq
    let x := if x.unacked = [] then { x with progress := now, resends := 0 } else x
    { x.emit f with nextSeq := x.nextSeq + 1, unacked := x.unacked ++ [(x.nextSeq, f)] }
  else { x with backlog := x.backlog ++ [f] }

/-- Send a sequenced message while SIGHT is ready. -/
def State.sightSend (s : State) (stype ri unit gen : Nat) (payload : List Byte) : State :=
  if s.isReady Rdy.sight then
    s.sightMod fun x => x.send (sightFrame stype 0 ri unit gen x.lastRx payload) s.time.elapsed
  else s

/-- Send an unsequenced message while SIGHT is ready. -/
def State.sightSendPlain (s : State) (stype ri : Nat) (payload : List Byte) : State :=
  if s.isReady Rdy.sight then
    s.sightMod fun x => x.emit (sightFrame stype 0 ri 0 0 x.lastRx payload)
  else s

/-- The device mirrors commands: a Foresight with a Backsight, or with a joiner once J is chosen (R590,
R607). A peer load stops the mirroring (R606). -/
def PairPart.mirroring (p : PairPart) : Bool :=
  !p.peerLoad && (p.state == .foresight || (p.state == .alone && p.joining && p.joinAt.isSome))

/-- The device mirrors writes into mirrored regions: from JOIN_ACCEPT on (R594, R607). -/
def PairPart.copying (p : PairPart) : Bool :=
  !p.peerLoad && (p.state == .foresight || (p.state == .alone && p.joining))

/-- The command packet as mirrored: AT_RI cleared, no target render index, a fresh trailer
(Table 14-4). -/
def mirrorPacket (r : Req) : List Byte :=
  let body := le 1 0x03 ++ le 1 r.slot ++ le 2 r.seq ++ le 2 r.op
    ++ le 2 (r.flags - 4 * b2n (bitOf r.flags 2)) ++ le 2 r.target ++ le 2 r.gen
    ++ le 2 r.params.length ++ zeros 2 ++ r.params
  body ++ le 4 (crc32c body)

/-- Number a mirrored command and send it with its boundary (R588, R591). -/
def State.mirrorCommand (s : State) (r : Req) (due : Nat) : State :=
  let n := s.pair.mseq + 1
  let s := { s with pair := { s.pair with mseq := n } }
  s.sightSend 0x03 due r.target r.gen (le 1 1 ++ zeros 3 ++ le 4 n ++ mirrorPacket r)

/-- A Backsight's result for a mirrored command (R591). -/
def State.sightResult (s : State) (mseq status : Nat) : State :=
  let s := { s with pair := { s.pair with mseqDone := max s.pair.mseqDone mseq } }
  s.sightSend 0x03 0 0 0 (le 1 2 ++ zeros 3 ++ le 4 mseq ++ le 2 status ++ zeros 2)

/-- ROLE messages (R589). -/
def State.sendRole (s : State) (kind reason ri pstate datumId : Nat) : State :=
  s.sightSend 0x06 ri 0 0 (le 1 kind ++ le 1 (b2n s.pair.pairId) ++ le 1 pstate ++ le 1 reason
    ++ slice s.pair.record 8 8 ++ le 8 datumId)

/-! ## Island events, log and service port -/

def State.safMod (s : State) (f : SafPart → SafPart) : State := { s with saf := f s.saf }

/-- Wrap a packet for the service port (R536): WVER 0x02, the island boot count, its own key. -/
def SafPart.wrap (x : SafPart) (event : Bool) (p : List Byte) : List Byte :=
  let head := le 1 2 ++ le 1 (0x80 + 0x40 * b2n event) ++ zeros 2 ++ le 4 (x.svcSeq + 1)
    ++ le 4 x.bootCount ++ p
  head ++ hmacSha256 (x.key.getD []) head

def SafPart.svcPush (x : SafPart) (event : Bool) (p : List Byte) : SafPart :=
  { x with svcOut := x.svcOut ++ [x.wrap event p], svcSeq := x.svcSeq + 1 }

/-- Log an entry (R540): 256 in RAM, ERROR and above also to the flash log of 1,024. -/
def SafPart.logEvent (x : SafPart) (e : Event) (elapsed : Nat) : SafPart :=
  let lseq := (x.lseq + 1) % 65536
  let stale := match x.compared with
    | some t => decide (t + 2 * second < elapsed)
    | none => true
  let toFlash := decide (3 ≤ e.sev)
  let l : SafLogEntry :=
    { event := e, eseq := x.eseq, lseq := lseq, flags := b2n stale + 2 * b2n toFlash }
  let log := x.log ++ [l]
  let fl := if toFlash then x.flashLog ++ [l] else x.flashLog
  { x with lseq := lseq, log := log.drop (log.length - 256), flashLog := fl.drop (fl.length - 1024) }

/-- The event an event cell holds. -/
def Event.parse (c : List Byte) : Event :=
  { code := u16 c 0, sev := u8 c 2, eclass := u8 c 3, unit := u16 c 4, gen := u16 c 6,
    sec := u48 c 8, ns := u32 c 14, detail := slice c 20 8, whom := .all, force := false }

/-- Firmware takes the island events that wait in Q242 and delivers them (R542, R615). -/
def State.drainIslandEvents (s : State) : Nat → State
  | 0 => s
  | fuel + 1 =>
    match s.popPacket 242 with
    | (s', []) => s'
    | (s', p) =>
      let s' := if u16 p 0 = 0xFFFF then s' else s'.deliver (Event.parse p)
      s'.drainIslandEvents fuel

/-- The island sends an event (R540, R542, R545): it is logged, waits on the service port, and goes
to Q242, from which running firmware delivers it. -/
def State.islandEvent (s : State) (code sev : Nat) (detail : List Byte) (unit : Nat := 0) : State :=
  if s.saf.present then
    let e : Event :=
    { code := code, sev := sev, eclass := 0x0E, unit := unit, gen := s.genField unit,
      sec := s.saf.time.sec, ns := s.saf.time.ns, detail := detail, whom := .all, force := false }
    let s := s.safMod fun x =>
      let x := { x with eseq := (x.eseq + 1) % 65536 }
      (x.logEvent e s.time.elapsed).svcPush true (e.cell x.eseq)
    let s := if sev = 4 then { s with sticky := { s.sticky with lastCrit := code } } else s
    let s := s.rawPushCells 242 (toCells (e.cell s.saf.eseq ++ zeros 32))
    if s.sys.running then s.drainIslandEvents 260 else s
  else s

/-- The reply to a packet of the service port, wrapped (R535, R536). -/
def State.serviceReply (s : State) (r : Req) (status : Nat) (data : List Byte) : State :=
  s.safMod fun x => x.svcPush false
    (replyPacket r.slot r.seq r.op status r.target (s.genField r.target) data)

/-- One queue operation with a pointer fault's event; a fault of Q240-Q255 is also logged by the
island (R143, R540). -/
def State.qop (s : State) (q : Nat) (push : Option PushOp) (pop : Bool) : State × Option QCell :=
  let fault := !(s.queue q).copiesAgree
  let r := s.queueOp q push pop
  if fault && decide (240 ≤ q) && s.saf.present then
    let e : Event :=
    { code := 0x0801, sev := Sev.error, eclass := 0x08, unit := 0x9000 + q,
      gen := s.genOf (0x9000 + q), sec := s.saf.time.sec, ns := s.saf.time.ns,
      detail := le 1 q ++ zeros 7, whom := .all, force := false }
    (r.1.safMod fun x => x.logEvent e s.time.elapsed, r.2)
  else r

end Sys2Proof.Machine
end

