-- ==== Sys2Proof/Machine/OpTable.lean ====
section
/-!
DEFINITION. Sys2Proof/Machine/OpTable.lean: the common columns of every opcode table (Tables 2-13,
2-23, 4-10, 5-17, 6-11, 7-12, 8-7, 9-13, 10-9, 11-8, 12-14, 13-13, 14-10, 15-14): level, query,
AT_RI, target and parameter length; with R87's list of what a Backsight admits and Table 14-5's
list of what a Foresight mirrors.
-/
namespace Sys2Proof.Machine

def opRows0 : List OpInfo :=
  [ ⟨0x0100, 0, true, false, false, false, true, [(0x0000, 0x0000)], 0, 4076⟩,
    ⟨0x0101, 0, true, false, false, false, true, [(0x0000, 0x0000)], 0, 0⟩,
    ⟨0x0102, 0, true, false, false, false, true, [(0x0000, 0x0000)], 0, 0⟩,
    ⟨0x0103, 0, true, false, false, false, true, [(0x0000, 0x0000)], 2, 1024⟩,
    ⟨0x0104, 0, true, false, false, false, true, [(0xA000, 0xA007)], 0, 0⟩,
    ⟨0x0105, 3, false, false, false, false, false, [(0xA000, 0xA007)], 4, 452⟩,
    ⟨0x0106, 3, false, false, false, false, false, [(0x8000, 0x8023)], 4, 4⟩,
    ⟨0x0107, 3, false, false, false, false, false, [(0xA000, 0xA007)], 52, 52⟩,
    ⟨0x0108, 3, false, false, false, false, true, [(0xA000, 0xA007), (0x8000, 0x8023), (0xF000, 0xF000)], 0, 0⟩,
    ⟨0x0109, 3, false, false, false, false, true, [(0xA000, 0xA007), (0x8000, 0x8023), (0xF000, 0xF000)], 2, 2⟩,
    ⟨0x010A, 0, false, false, false, false, true, [(0x0000, 0x0000)], 16, 16⟩,
    ⟨0x010B, 3, false, false, false, false, true, [(0xF000, 0xF000)], 4, 4⟩,
    ⟨0x0140, 0, true, false, false, false, true, [(0x0000, 0x0000)], 0, 0⟩,
    ⟨0x0141, 3, false, false, true, true, false, [(0xF000, 0xF000)], 8, 8⟩,
    ⟨0x0142, 0, true, false, false, false, true, [(0x0000, 0x0000)], 4, 4⟩,
    ⟨0x0150, 0, true, false, false, false, true, [(0x0000, 0x0000)], 0, 0⟩,
    ⟨0x0151, 3, false, false, false, false, true, [(0xF000, 0xF000)], 9, 4076⟩,
    ⟨0x0152, 3, false, false, false, false, true, [(0xF000, 0xF000)], 20, 20⟩,
    ⟨0x0153, 3, false, false, false, false, true, [(0xF000, 0xF000)], 8, 8⟩,
    ⟨0x0154, 3, false, false, false, false, true, [(0xF000, 0xF000)], 0, 0⟩ ]

def opRows1 : List OpInfo :=
  [ ⟨0x0160, 3, false, false, false, false, true, [(0xF000, 0xF000)], 4, 4⟩,
    ⟨0x0170, 2, false, false, false, false, true, [(0xF000, 0xF000)], 16, 16⟩,
    ⟨0x0171, 0, true, false, false, false, true, [(0xF000, 0xF000)], 4, 4⟩,
    ⟨0x0200, 0, true, false, false, false, true, [(0xF000, 0xF000)], 0, 0⟩,
    ⟨0x0201, 3, false, false, false, false, false, [(0xF000, 0xF000)], 16, 16⟩,
    ⟨0x0202, 3, false, false, false, false, false, [(0xF000, 0xF000)], 0, 0⟩,
    ⟨0x0210, 2, false, false, false, true, false, [(0xD000, 0xD03F)], 16, 16⟩,
    ⟨0x0211, 1, false, true, true, true, false, [(0xD000, 0xD03F)], 0, 0⟩,
    ⟨0x0212, 1, false, true, true, true, false, [(0xD000, 0xD03F)], 0, 0⟩,
    ⟨0x0213, 0, true, false, false, false, true, [(0xD000, 0xD03F)], 0, 0⟩,
    ⟨0x0220, 2, false, false, false, true, false, [(0x1000, 0x11FF), (0x2000, 0x21FF), (0x3000, 0x300F), (0x4000, 0x41FF), (0x5000, 0x53FF), (0x6000, 0x60FF), (0x7000, 0x74FF), (0x8000, 0x8023), (0x9000, 0x90FF), (0xA000, 0xA007), (0xB000, 0xB01F), (0xC000, 0xC007), (0xD000, 0xD03F), (0xE000, 0xE03F), (0xF000, 0xF000)], 8, 8⟩,
    ⟨0x0221, 2, false, true, true, true, false, [(0xF000, 0xF000)], 4, 4⟩,
    ⟨0x0222, 2, false, false, false, true, false, [(0xF000, 0xF000)], 0, 0⟩,
    ⟨0x0300, 0, true, false, false, false, true, [(0x1000, 0x11FF), (0x2000, 0x21FF)], 0, 0⟩,
    ⟨0x0301, 2, false, true, true, true, false, [(0x1000, 0x11FF), (0x2000, 0x21FF)], 128, 256⟩,
    ⟨0x0302, 2, false, true, true, true, false, [(0x1000, 0x11FF), (0x2000, 0x21FF)], 4, 4⟩,
    ⟨0x0303, 2, false, true, true, true, false, [(0xF000, 0xF000)], 10, 2056⟩,
    ⟨0x0304, 0, true, false, false, false, true, [(0x1000, 0x11FF), (0x2000, 0x21FF)], 4, 4⟩,
    ⟨0x0305, 2, false, false, true, true, false, [(0xF000, 0xF000)], 4, 4⟩,
    ⟨0x0306, 0, true, false, false, false, true, [(0x2000, 0x21FF)], 0, 0⟩ ]

def opRows2 : List OpInfo :=
  [ ⟨0x0307, 0, true, false, false, false, true, [(0xF000, 0xF000)], 4, 4⟩,
    ⟨0x0320, 2, false, true, true, true, false, [(0x3000, 0x300F)], 16, 16⟩,
    ⟨0x0321, 2, false, true, true, true, false, [(0x3000, 0x300F)], 8, 8⟩,
    ⟨0x0322, 2, false, true, true, true, false, [(0xF000, 0xF000)], 28, 28⟩,
    ⟨0x0323, 2, false, false, true, true, false, [(0xF000, 0xF000)], 4, 4⟩,
    ⟨0x0324, 0, true, false, false, false, true, [(0x3000, 0x300F), (0xF000, 0xF000)], 4, 4⟩,
    ⟨0x0400, 0, true, false, false, false, true, [(0x4000, 0x41FF)], 0, 0⟩,
    ⟨0x0401, 1, false, true, true, true, false, [(0x4000, 0x41FF)], 48, 48⟩,
    ⟨0x0402, 1, false, true, true, true, false, [(0x4000, 0x41FF)], 24, 24⟩,
    ⟨0x0403, 1, false, true, true, true, false, [(0x4000, 0x41FF)], 4, 4⟩,
    ⟨0x0404, 1, false, true, true, true, false, [(0x4000, 0x41FF)], 4, 4⟩,
    ⟨0x0405, 2, false, true, true, true, false, [(0x4000, 0x41FF)], 4, 4⟩,
    ⟨0x0410, 2, false, true, true, true, false, [(0xF000, 0xF000)], 24, 24⟩,
    ⟨0x0411, 0, true, false, false, false, true, [(0xF000, 0xF000)], 4, 4⟩,
    ⟨0x0412, 2, false, true, true, true, false, [(0xF000, 0xF000)], 260, 260⟩,
    ⟨0x0413, 2, false, false, false, true, false, [(0xF000, 0xF000)], 16, 16⟩,
    ⟨0x0414, 0, true, false, false, false, true, [(0x4000, 0x41FF)], 4, 4⟩,
    ⟨0x0500, 0, true, false, false, false, true, [(0x5000, 0x53FF)], 0, 0⟩,
    ⟨0x0501, 2, false, true, true, true, false, [(0x5000, 0x53FF)], 36, 36⟩,
    ⟨0x0502, 1, false, true, true, true, false, [(0x5000, 0x53FF)], 8, 8⟩ ]

def opRows3 : List OpInfo :=
  [ ⟨0x0503, 2, false, false, false, true, false, [(0x5000, 0x53FF)], 8, 8⟩,
    ⟨0x0504, 1, false, true, true, true, false, [(0x5000, 0x53FF)], 4, 4⟩,
    ⟨0x0505, 1, false, false, false, true, false, [(0x5000, 0x53FF)], 4, 4⟩,
    ⟨0x0506, 0, true, false, false, false, true, [(0x5000, 0x53FF)], 0, 0⟩,
    ⟨0x0507, 0, true, false, false, false, true, [(0xF000, 0xF000)], 0, 0⟩,
    ⟨0x0508, 2, false, false, false, true, false, [(0xF000, 0xF000)], 0, 0⟩,
    ⟨0x0510, 1, false, true, true, true, false, [(0x5000, 0x53FF), (0x6000, 0x60FF)], 24, 324⟩,
    ⟨0x0511, 0, true, false, false, false, true, [(0x5000, 0x53FF), (0x6000, 0x60FF)], 0, 0⟩,
    ⟨0x0520, 1, false, true, true, true, false, [(0x7000, 0x74FF)], 8, 8⟩,
    ⟨0x0521, 1, false, true, true, true, false, [(0x7000, 0x74FF)], 16, 16⟩,
    ⟨0x0522, 2, false, true, true, true, false, [(0xF000, 0xF000)], 4, 4⟩,
    ⟨0x0523, 0, true, false, false, false, true, [(0x7000, 0x74FF)], 4, 4⟩,
    ⟨0x0600, 0, true, false, false, false, true, [(0xF000, 0xF000)], 0, 0⟩,
    ⟨0x0601, 2, false, false, false, true, false, [(0xF000, 0xF000)], 16, 16⟩,
    ⟨0x0602, 2, false, true, true, true, false, [(0xF000, 0xF000)], 12, 12⟩,
    ⟨0x0603, 2, false, true, true, true, false, [(0xF000, 0xF000)], 8, 2052⟩,
    ⟨0x0604, 0, true, false, false, false, true, [(0xF000, 0xF000)], 4, 4⟩,
    ⟨0x0605, 2, false, false, true, true, false, [(0xF000, 0xF000)], 4, 4⟩,
    ⟨0x0606, 2, false, true, true, true, false, [(0xF000, 0xF000)], 10, 1032⟩,
    ⟨0x0607, 2, false, true, true, true, false, [(0x6000, 0x60FF)], 4, 4⟩ ]

def opRows4 : List OpInfo :=
  [ ⟨0x0608, 2, false, false, true, true, false, [(0xF000, 0xF000)], 44, 44⟩,
    ⟨0x0609, 2, false, true, true, true, false, [(0xF000, 0xF000)], 4, 4⟩,
    ⟨0x060A, 2, false, true, true, true, false, [(0xF000, 0xF000)], 8, 8⟩,
    ⟨0x060B, 2, false, true, true, true, false, [(0xF000, 0xF000)], 4, 4⟩,
    ⟨0x060C, 2, false, true, true, true, false, [(0xF000, 0xF000)], 8, 8⟩,
    ⟨0x0700, 0, true, false, false, false, true, [(0x0000, 0x0000)], 0, 0⟩,
    ⟨0x0701, 2, false, false, false, false, false, [(0xF000, 0xF000)], 8, 8⟩,
    ⟨0x0702, 2, false, false, false, false, false, [(0xF000, 0xF000)], 12, 12⟩,
    ⟨0x0703, 3, false, false, false, false, false, [(0xF000, 0xF000)], 12, 12⟩,
    ⟨0x0704, 3, false, false, false, false, false, [(0xF000, 0xF000)], 12, 12⟩,
    ⟨0x0705, 3, false, false, false, false, true, [(0xF000, 0xF000)], 12, 12⟩,
    ⟨0x0708, 2, false, false, false, true, false, [(0xE000, 0xE03F)], 20, 20⟩,
    ⟨0x0709, 2, false, false, false, true, false, [(0xE000, 0xE03F)], 0, 0⟩,
    ⟨0x070A, 2, false, false, false, false, false, [(0xF000, 0xF000)], 8, 8⟩,
    ⟨0x070B, 3, false, false, false, false, false, [(0xF000, 0xF000)], 16, 16⟩,
    ⟨0x0710, 2, false, true, true, true, false, [(0xF000, 0xF000)], 28, 28⟩,
    ⟨0x0711, 0, true, false, false, false, true, [(0xF000, 0xF000)], 1, 1⟩,
    ⟨0x0712, 2, false, false, false, true, false, [(0xF000, 0xF000)], 12, 12⟩,
    ⟨0x0713, 2, false, false, false, true, false, [(0xF000, 0xF000)], 4, 4⟩,
    ⟨0x0900, 3, false, false, false, false, false, [(0xF000, 0xF000)], 40, 40⟩ ]

def opRows5 : List OpInfo :=
  [ ⟨0x0901, 0, true, false, false, false, true, [(0xF000, 0xF000)], 1, 1⟩,
    ⟨0x0902, 0, true, false, false, false, true, [(0xF000, 0xF000)], 4, 4⟩,
    ⟨0x0903, 2, false, false, false, false, false, [(0xF000, 0xF000)], 36, 36⟩,
    ⟨0x0904, 2, false, false, false, false, false, [(0xF000, 0xF000)], 12, 12⟩,
    ⟨0x0905, 2, false, false, false, false, false, [(0xF000, 0xF000)], 36, 36⟩,
    ⟨0x0906, 2, false, false, false, false, false, [(0xF000, 0xF000)], 17, 4076⟩,
    ⟨0x0910, 3, false, false, false, false, false, [(0xF000, 0xF000)], 12, 12⟩,
    ⟨0x0911, 0, true, false, false, false, true, [(0xF000, 0xF000)], 0, 0⟩,
    ⟨0x0912, 2, false, false, false, false, false, [(0xB000, 0xB01F)], 0, 0⟩,
    ⟨0x0A00, 0, true, false, false, false, true, [(0xF000, 0xF000)], 0, 0⟩,
    ⟨0x0A01, 0, true, false, false, false, true, [(0xF000, 0xF000)], 0, 0⟩,
    ⟨0x0A02, 2, false, false, false, true, false, [(0xF000, 0xF000)], 4, 4⟩,
    ⟨0x0A03, 2, false, false, false, true, false, [(0xF000, 0xF000)], 4, 4⟩,
    ⟨0x0A04, 2, false, false, false, true, false, [(0x0000, 0x0000)], 0, 0⟩,
    ⟨0x0A05, 0, true, false, false, false, true, [(0xF000, 0xF000)], 4, 4⟩,
    ⟨0x0A06, 3, false, false, false, true, false, [(0xF000, 0xF000)], 4, 4076⟩,
    ⟨0x0A07, 3, false, false, false, true, false, [(0xF000, 0xF000)], 4, 4⟩,
    ⟨0x0A08, 3, false, false, false, true, false, [(0xF000, 0xF000)], 16, 16⟩,
    ⟨0x0A09, 3, false, false, false, true, false, [(0xF000, 0xF000)], 4, 4⟩,
    ⟨0x0A0A, 0, true, false, false, false, true, [(0xF000, 0xF000)], 0, 0⟩ ]

def opRows6 : List OpInfo :=
  [ ⟨0x0A0B, 0, true, false, false, false, true, [(0xF000, 0xF000)], 8, 8⟩,
    ⟨0x0A0C, 0, true, false, false, false, true, [(0xF000, 0xF000)], 4, 4⟩,
    ⟨0x0A11, 3, false, false, false, false, true, [(0xF000, 0xF000)], 4, 4⟩,
    ⟨0x0B00, 0, true, false, false, false, true, [(0xF000, 0xF000)], 0, 0⟩,
    ⟨0x0B01, 3, false, false, false, false, true, [(0xF000, 0xF000)], 64, 64⟩,
    ⟨0x0B02, 3, false, true, false, false, true, [(0xF000, 0xF000)], 0, 0⟩,
    ⟨0x0B03, 3, false, false, false, false, true, [(0xF000, 0xF000)], 16, 16⟩,
    ⟨0x0B04, 3, false, false, false, false, true, [(0xF000, 0xF000)], 0, 0⟩,
    ⟨0x0B05, 3, false, false, false, false, true, [(0xF000, 0xF000)], 0, 0⟩,
    ⟨0x0C00, 0, true, false, false, false, true, [(0xF000, 0xF000)], 0, 0⟩,
    ⟨0x0C01, 3, false, false, false, false, false, [(0xF000, 0xF000)], 516, 516⟩,
    ⟨0x0D00, 0, true, false, false, false, true, [(0x0000, 0x0000)], 0, 0⟩,
    ⟨0x0D01, 0, true, false, false, false, true, [(0x0000, 0x0000)], 4, 4⟩,
    ⟨0x0D02, 3, false, false, false, false, true, [(0xF000, 0xF000)], 8, 8⟩ ]

/-- Every opcode a command packet may carry. -/
def opTable : List OpInfo :=
  opRows0 ++ opRows1 ++ opRows2 ++ opRows3 ++ opRows4 ++ opRows5 ++ opRows6

/-- The row of an opcode; none where it is undefined (check 7). -/
def opInfo (op : Nat) : Option OpInfo := opTable.find? fun i => i.op == op

end Sys2Proof.Machine
end

