-- ==== Sys2Proof/Machine/Intake.lean ====
section
/-!
DEFINITION. Sys2Proof/Machine/Intake.lean: how the control cluster takes a command packet from a
command queue: the checks of Table 2-7 in order, replies, duplicates, ordering, and the wait for
a block boundary (R77-R91, R590, R591).
-/
namespace Sys2Proof.Machine

/-! ## Pair roles (R581, R87) -/

def PState.isBack : PState → Bool
  | .seeking | .joining | .backsight | .isolated => true
  | .single | .alone | .foresight => false

def PState.isFore : PState → Bool
  | .alone | .foresight => true
  | .single | .seeking | .joining | .backsight | .isolated => false

def PState.code : PState → Nat
  | .single => 0 | .seeking => 1 | .alone => 2 | .foresight => 3 | .joining => 4
  | .backsight => 5 | .isolated => 6

/-- LEAD_US of the pair record (Table 14-1). -/
def State.leadUs (s : State) : Nat := u16 s.pair.record 4

/-! ## Replies of a command -/

def State.cmdQueue (s : State) (q : Nat) : CmdQueue := tget CmdQueue.reset s.host.cmdq q

def State.setCmdQueue (s : State) (q : Nat) (c : CmdQueue) : State :=
  { s with host := { s.host with cmdq := tput CmdQueue.reset s.host.cmdq q c } }

/-- The command queue of a host command. -/
def Req.queue (r : Req) : Nat := 4 * r.slot + r.k

/-- The command has its final reply (R88). -/
def State.settled (s : State) (r : Req) : State :=
  { s with host := { s.host with
      outstanding := s.host.outstanding.filter fun x => x != (r.slot, r.order) } }

/-- A Foresight remembers the status it answered a mirrored command with (R593 case 2). -/
def State.noteResult (s : State) (r : Req) (status : Nat) : State :=
  match r.mseq with
  | some m => { s with pair := { s.pair with results := s.pair.results ++ [(m, status)] } }
  | none => s

/-- Form a command's reply and send it where its command came from. NO_REPLY suppresses OK and
ACCEPTED (R83); the queue stores the latest reply its last command formed (R81). -/
def State.reply (s : State) (r : Req) (status : Nat) (data : List Byte) (final : Bool) : State :=
  match r.origin with
  | .host =>
    let p := replyPacket r.slot r.seq r.op status r.target (s.genField r.target) data
    let c := s.cmdQueue r.queue
    let s := if c.order = r.order ∧ c.lastSeq.isSome then
        s.setCmdQueue r.queue { c with stored := some (status, p) } else s
    let s := if final then (s.settled r).noteResult r status else s
    if r.noReply && decide (status ≤ Status.accepted) then s else s.sendReply r.slot r.k p
  | .mirror m => if final then s.sightResult m status else s
  | .entry => s
  | .service => s.serviceReply r status data

/-- The final reply of a deferred or pending command. -/
def State.finish (s : State) (r : Req) (status : Nat) (data : List Byte) : State :=
  s.reply r status data true

/-! ## Boundaries (R85, R86, R591) -/

/-- Where in the current block the device stands, as a render index: from device time while that
lies inside the block, else the block's start. -/
def State.posRi (s : State) : Nat :=
  let x := (s.time.now.sec * second + s.time.now.ns) * s.rate / second
  if s.time.ri ≤ x ∧ x < s.time.ri + s.blockLen then x else s.time.ri

/-- The first block boundary strictly after now (R86). -/
def State.nextBoundary (s : State) : Nat := s.time.ri + s.blockLen

/-- The first block boundary at least `us` microseconds after now (R591, R605). -/
def State.boundaryAfterUs (s : State) (us : Nat) : Nat :=
  let n := s.posRi + (us * s.rate + 999999) / 1000000
  (n + s.blockLen - 1) / s.blockLen * s.blockLen

/-- Pending commands flagged AT_RI (R86). -/
def State.atRiCount (s : State) : Nat :=
  let flagged := fun r : Option Req => decide ((r.bind (·.at?)).isSome)
  (s.host.pending.filter (·.atRi)).length + b2n (flagged (s.alm.swap.bind (·.req))) +
    (s.cor.feed.filter fun x => flagged (x.2.swap.bind (·.req))).length

/-- Add a command that waits for a boundary. -/
def State.addPending (s : State) (p : Pending) : State :=
  { s with host := { s.host with pending := s.host.pending ++ [p] } }

/-! ## Settling a verdict -/

/-- Count a NO_ACCESS refusal of a slot (R97, R111). -/
def State.countDenied (s : State) (i : Nat) : State :=
  s.modSlot i fun x => { x with denied := satAdd 0xFFFFFFFF x.denied 1 }

/-- What a verdict does: the reply it draws, and the effect. `acked`: ACCEPTED has been formed. -/
def State.settle (s : State) (r : Req) (acked : Bool) : Verdict → State
  | .fail st d => s.finish r st d
  | .deny => (s.countDenied r.slot).finish r Status.noAccess []
  | .done s' d => s'.finish r Status.ok d
  | .boundary => s.addPending { req := r, due := s.nextBoundary, atRi := false, acked := acked }
  | .deferred s' => if acked then s' else s'.reply r Status.accepted [] false
  | .both s' d => (if acked then s' else s'.reply r Status.accepted [] false).finish r Status.ok d
  | .hold d s' => if d && !acked then s'.reply r Status.accepted [] false else s'
  | .only after => after (s.finish r Status.accepted [])

/-! ## The checks of Table 2-7 -/

/-- The cells of a packet, from its first to its last (R116). -/
def headCells : List QCell → List QCell
  | [] => []
  | c :: cs => if c.last then [c] else c :: headCells cs

/-- The cells of the packet at the head of a queue; none where its pointer copies disagree (R116, R142). -/
def State.headPacket (s : State) (q : Nat) : List QCell :=
  let x := s.queue q
  let b := x.bank x.drain
  if x.copiesAgree then headCells ((b.cells.take b.commit).drop b.read) else []

/-- Checks 1 and 2: the cell count matches PLEN, and the trailer matches (Table 2-7). -/
def packetCheck (p : List Byte) (cells : Nat) : Option Nat :=
  let plen := u16 p 12
  if 4076 < plen ∨ (20 + plen + 63) / 64 ≠ cells then some Status.badLength
  else if u32 p (16 + plen) ≠ crc32c (p.take (16 + plen)) then some Status.crc
  else none

/-- The command of a packet on queue `q`, with AT_RI's target taken out of the parameters. -/
def parseReq (q order : Nat) (p : List Byte) : Req :=
  let flags := u16 p 6
  let params := slice p 16 (u16 p 12)
  let atRi := bitOf flags 2
  { origin := .host, slot := q / 4, k := q % 4, seq := u16 p 2, op := u16 p 4, flags := flags,
    target := u16 p 8, gen := u16 p 10, params := if atRi then params.drop 8 else params,
    at? := if atRi then some (u64 params 0) else none, order := order, mseq := none }

/-- Check 10 (R95, R97): level and unit domain. -/
def levelOk (s : State) (i : OpInfo) (r : Req) : Bool :=
  let need := if r.op = 0x0104 ∧ r.target ≠ 0xA000 + r.slot then 3 else i.level
  decide (need ≤ s.levelOf r.slot) && s.domainGrants r.slot (!i.query) r.target

/-- Check 11 (R87). -/
def roleOk (s : State) (i : OpInfo) (r : Req) : Bool :=
  if s.pair.state.isBack then r.pairLocal && i.onBack
  else if s.pair.state.isFore then !(r.pairLocal && i.audio)
  else true

/-- The command is mirrored to a Backsight (R590). -/
def State.mirrors (s : State) (i : OpInfo) (r : Req) : Bool :=
  s.pair.mirroring && !s.pair.peerLoad && i.mirrored && !r.pairLocal

/-- Check 13 (R85, R86, R591). -/
def atRiCheck (s : State) (i : OpInfo) (r : Req) (plen : Nat) : Option Nat :=
  match r.at? with
  | none => none
  | some t =>
    let takes := i.atRi && (decide (r.op ≠ 0x0710) || decide (u8 r.params 0 = s.time.render))
    let lead := if s.mirrors i r then s.posRi + (s.leadUs * s.rate + 999999) / 1000000 else 0
    if plen < 8 ∨ t % s.blockLen ≠ 0 ∨ s.time.ri + 10 * s.rate < t ∨ takes = false then
      some Status.badParam
    else if t < s.time.ri + 2 * s.blockLen ∨ t < lead then some Status.timeout
    else if 256 ≤ s.atRiCount then some Status.noSpace
    else none

/-- Checks 7 to 13 and R670, in order: the failing status; BUSY on the Foresight of a peer load (R606), and
NOT_READY while a datum is applied (R557). -/
def commonCheck (s : State) (i : OpInfo) (r : Req) (plen : Nat) : Option Nat :=
  firstFail
    [ (r.target != 0 && !validUnit r.target || r.target == 0 && r.gen != 0, Status.badParam),
      (!inCapacity s.fab.active r.target, Status.budget),
      (!levelOk s i r, Status.noAccess),
      (!roleOk s i r, Status.pairRole),
      (r.gen != 0 && r.gen != s.genOf r.target, Status.staleRole),
      ((atRiCheck s i r plen).isSome, (atRiCheck s i r plen).getD 0),
      (decide (r.params.length < i.plenLo) || decide (i.plenHi < r.params.length), Status.badLength),
      (!i.takes r.target, Status.badParam),
      (s.pair.peerLoad && i.audio, Status.busy),
      (decide (s.dat.phase = 3) && i.audio, Status.notReady) ]

/-- A command that the state notes itself, with its mirror number, and its boundary: the target of AT_RI,
the next boundary, or LEAD_US on where it is mirrored (R86, R591). -/
def State.numbered (s : State) (r : Req) : Req × Nat :=
  let mirrored : Bool := match opInfo r.op with
    | some i => r.origin == .host && s.mirrors i r
    | none => false
  (if mirrored then { r with mseq := some (s.pair.mseq + 1) } else r,
    match r.at? with
    | some t => t
    | none => if mirrored then s.boundaryAfterUs s.leadUs else s.nextBoundary)

/-- In recovery the ROM serves four opcodes only (R622). -/
def recoveryServes (op : Nat) : Bool := [0x0101, 0x0102, 0x0151, 0x0152].contains op

/-- The command is accepted: its SEQ is the last accepted, and it is outstanding (R81, R88). -/
def State.accept (s : State) (r : Req) : State :=
  let s := s.setCmdQueue r.queue { lastSeq := some r.seq, stored := none, order := r.order }
  { s with host := { s.host with outstanding := s.host.outstanding ++ [(r.slot, r.order)] } }

/-- An accepted command that is mirrored or flagged AT_RI waits for its boundary; any other settles
now. -/
def State.carryOut (s : State) (i : OpInfo) (r : Req) (v : Verdict) : State :=
  let s' := s.accept r
  let mirrored := s.mirrors i r
  let r := if mirrored then { r with mseq := some (s.pair.mseq + 1) } else r
  let due := match r.at? with
    | some t => t
    | none => s.boundaryAfterUs s.leadUs
  match v with
  | .fail st d => s.reply r st d false
  | .deny => (s.countDenied r.slot).reply r Status.noAccess [] false
  | .boundary =>
    if r.atRi then
      let s' := s'.reply r Status.accepted [] false
      let s' := if mirrored then s'.mirrorCommand r due else s'
      s'.addPending { req := r, due := due, atRi := true, acked := true }
    else if mirrored then
      (s'.mirrorCommand r due).addPending { req := r, due := due, atRi := false, acked := false }
    else s'.addPending { req := r, due := s.nextBoundary, atRi := false, acked := false }
  | .done t d =>
    if mirrored then
      (s'.mirrorCommand r due).addPending { req := r, due := due, atRi := r.atRi, acked := false }
    else (t.accept r).finish r Status.ok d
  | .deferred t =>
    if mirrored then
      ((s'.reply r Status.accepted [] false).mirrorCommand r due).addPending
        { req := r, due := due, atRi := r.atRi, acked := true }
    else (t.accept r).reply r Status.accepted [] false
  | .both t d =>
    if mirrored then
      ((s'.reply r Status.accepted [] false).mirrorCommand r due).addPending
        { req := r, due := due, atRi := r.atRi, acked := true }
    else ((t.accept r).reply r Status.accepted [] false).finish r Status.ok d
  | .hold d t =>
    let t := t.accept r
    let t := if d || r.atRi then t.reply r Status.accepted [] false else t
    if mirrored then t.mirrorCommand r due else t
  | .only after => after (s'.finish r Status.accepted [])

/-- Checks 6 to 14. -/
def State.judgeOpcode (s : State) (body : Body) (r : Req) (p : List Byte) : State :=
  if (s.slot r.slot).frozen then s.reply r Status.frozen [] false
  else
    match opInfo r.op with
    | none => s.reply r Status.badOpcode [] false
    | some i =>
      if s.sys.recovery && !recoveryServes r.op then s.reply r Status.notReady [] false
      else
        match commonCheck s i r (u16 p 12) with
        | some st =>
          let s := if st = Status.noAccess then s.countDenied r.slot else s
          s.reply r st [] false
        | none => s.carryOut i r (body false r s)

/-- A duplicate is not executed: the stored reply is resent (R81). -/
def State.resend (s : State) (r : Req) : State :=
  match (s.cmdQueue r.queue).stored with
  | some (st, packet) =>
    if r.noReply && decide (st ≤ Status.accepted) then s else s.sendReply r.slot r.k packet
  | none => s

/-- Checks 3 to 14 of a packet that has left its queue, and what follows (Table 2-7). -/
def State.judge (s : State) (body : Body) (r : Req) (p : List Byte) : State :=
  if u8 p 0 ≠ 0x03 then s.reply r Status.badOpcode [] false
  else if u8 p 1 ≠ r.slot ∨ u16 p 14 ≠ 0 ∨ 16 ≤ r.flags then s.reply r Status.badParam [] false
  else
    match (s.cmdQueue r.queue).lastSeq with
    | none => s.judgeOpcode body r p
    | some last =>
      if r.seq = last then s.resend r
      else if r.seq = (last + 1) % 65536 then s.judgeOpcode body r p
      else s.reply r Status.sequence (le 2 ((last + 1) % 65536)) false

/-! ## Taking a packet -/

/-- Gap markers at the head of a command queue hold no command: the device pops them. -/
def State.dropMarkers (s : State) (q : Nat) : Nat → State
  | 0 => s
  | fuel + 1 =>
    let b := (s.queue q).bank (s.queue q).drain
    if b.commit ≤ b.read ∧ b.markerWaiting = true then
      (s.queueOp q none true).1.dropMarkers q fuel
    else s

/-- Order of a packet waiting under ORDERED at the head of queue `q` (R88). -/
def State.waitingOrder (s : State) (q : Nat) : Option Nat :=
  (s.host.ordered.find? fun x => x.1 == q).map (·.2)

/-- An earlier command of the slot has not had its final reply, or itself waits (R88). -/
def State.earlierOpen (s : State) (slot order : Nat) : Bool :=
  (s.host.outstanding.any fun x => x.1 == slot && decide (x.2 < order)) ||
    (s.host.ordered.any fun x => x.1 / 4 == slot && decide (x.2 < order))

/-- The control cluster, or in recovery the ROM for H0 and H4, takes commands (R51, R622). -/
def State.takesCommands (s : State) (slot : Nat) : Bool :=
  !s.sys.halted && (if s.sys.recovery then decide (slot = 0) || decide (slot = 4)
    else s.isReady Rdy.hostQueues)

/-- The packet at the head of queue `q` after its markers, if one is there. -/
def State.headBytes (s : State) (q : Nat) : List Byte := ((s.headPacket q).map (·.data)).flatten

/-- Take the head packet off its queue and judge it; one that waited under ORDERED waits no more. -/
def State.popAndJudge (s : State) (q order : Nat) (body : Body) : State :=
  let cells := (s.headPacket q).length
  let p := s.headBytes q
  let t := (s.popPacket q).1
  let s := { t with host := { t.host with
      takeCount := max t.host.takeCount order
      ordered := t.host.ordered.filter fun x => x.1 != q } }
  let req := parseReq q order p
  match packetCheck p cells with
  | some st => s.reply req st [] false
  | none => s.judge body req p

/-- Take the head packet of queue `q` if it carries opcode `op`; a packet of an undefined opcode is
taken with SYS_NOP. A packet that honours ORDERED waits in its queue for the earlier commands of
its slot (R88); `release` lets a waiting packet proceed. -/
def State.takeCommand (s : State) (q op : Nat) (body : Body) (release : Bool) : State :=
  if s.takesCommands (q / 4) = false then s
  else
    let s := s.dropMarkers q 2
    let p := s.headBytes q
    let cells := (s.headPacket q).length
    if cells = 0 then (if (s.queue q).copiesAgree then s else (s.queueOp q none false).1)
    else if u16 p 4 ≠ op ∧ ¬ (op = 0x0100 ∧ opInfo (u16 p 4) = none ∧ u16 p 4 ≠ 0x0A10) then s
    else
      let order := (s.waitingOrder q).getD (s.host.takeCount + 1)
      let honours := decide (packetCheck p cells = none) && bitOf (u16 p 6) 1
      if honours && (s.waitingOrder q).isSome && !release then s
      else if honours && s.earlierOpen (q / 4) order then
        if (s.waitingOrder q).isSome then s
        else { s with host := { s.host with
          takeCount := order, ordered := s.host.ordered ++ [(q, order)] } }
      else s.popAndJudge q order body

/-- The meaning of a command-packet row: the head packet of command queue `q`, if it carries this
opcode, is taken, checked and answered. -/
def commandRow (name : String) (op : Nat) (body : Body) (q : Nat) (s : State) :
    Host.Outcome State Fault Refusal :=
  ran (decide (q < 32)) name s (s.takeCommand q op body false)

end Sys2Proof.Machine
end

