-- ==== Sys2Proof/Machine/Pool.lean ====
section
/-!
DEFINITION. Sys2Proof/Machine/Pool.lean: the correction pool's banks and their running slots, where a pending
profile change applies, and the swap that a pulse on an armed line requests (R367, R464, R473-R475,
R478, R480).
-/
namespace Sys2Proof.Machine

def State.corMod (s : State) (f : CorPart → CorPart) : State := { s with cor := f s.cor }

/-! ## Banks -/

/-- Feeds of a profile with their state, where it is not at its defaults. -/
def State.feedsIn (s : State) (p : Nat) : List (Nat × CorFeed) :=
  s.cor.feed.filter fun x => decide (x.1 < profFeeds p)

def CorFeed.running (x : CorFeed) : CorBank := if x.run1 then x.bank1 else x.bank0
def CorFeed.standby (x : CorFeed) : CorBank := if x.run1 then x.bank0 else x.bank1

/-- The bank that runs after a change to a partition size (R479). -/
def CorFeed.bankAfter (x : CorFeed) (newP : Bool) : CorBank :=
  if newP && x.running.nslot != 0 then x.standby else x.running

/-- Slots that running banks hold in a profile. -/
def State.runningSlots (s : State) (p : Nat) : Nat :=
  let newP := profPart p != profPart s.fab.active
  (s.feedsIn p).foldl (fun n x => n + (x.2.bankAfter newP).nslot) 0

/-- A feed is armed, has a swap pending or is crossfading (R475). -/
def CorFeed.busy (x : CorFeed) : Bool := x.arm.isSome || x.swap.isSome || x.fadeAt.isSome


/-! ## Where a profile change applies (R185, R367, R368) -/

/-- Rate, block length or depth differ (R367, R368). -/
def changesShape (a b : Nat) : Bool :=
  profRate a != profRate b || profLen a != profLen b || profDepth a != profDepth b

/-- A boundary's render index is eligible for a change (R185, R367). -/
def eligibleRi (a b ri : Nat) : Bool :=
  ri % profLen a == 0 && ri % profLen b == 0 &&
    (profRate a == profRate b || ri % (if profRate a = 96000 then 32 else 16) == 0)

/-- Boundary `b` is the place of a pending change whose prerequisites have been met (R367). -/
def State.changeAt (s : State) (p b : Nat) : Bool :=
  match s.fab.readyRi with
  | some r =>
    eligibleRi s.fab.active p b &&
      decide ((if changesShape s.fab.active p then r + 64 else r) ≤ b)
  | none => false

/-- The profile active from boundary `b`, with a pending change that applies there (R474). -/
def State.profileFrom (s : State) (b : Nat) : Nat :=
  match s.fab.pend with
  | some p => if s.changeAt p b then p else s.fab.active
  | none => s.fab.active

/-! ## Swaps (R473-R475) -/

def State.corFeed (s : State) (f : Nat) : CorFeed := tget CorFeed.reset s.cor.feed f

def State.setCorFeed (s : State) (f : Nat) (x : CorFeed) : State :=
  s.corMod fun c => { c with feed := tput CorFeed.reset c.feed f x }

/-- A swap of feed `f` at boundary `b` fails R474. -/
def State.swapBarred (s : State) (f b : Nat) : Bool :=
  let p := s.profileFrom b
  let x := s.corFeed f
  let t := s.setCorFeed f { x with run1 := !x.run1 }
  profPart p != profPart s.fab.active ||
    (x.standby.nslot != 0 && x.standby.ps != profPart p) ||
    (inCapacity s.fab.active (0x5000 + f) && decide (profPool p < 32 * t.runningSlots s.fab.active))

/-- COR_SWAP_FAILED (Table 11-9). -/
def State.swapFailed (s : State) (f status : Nat) (pulse : Bool) : State :=
  s.event 0x0502 Sev.warning 0x05 (0x5000 + f) (le 2 f ++ le 2 status ++ le 1 (b2n pulse))

/-- The swap that a Foresight mirrors for a pulse, as a COR_SWAP of the privileged slot (R480). -/
def State.pulseReq (s : State) (f : Nat) : Req :=
  { origin := .entry, slot := s.host.privSlot, k := 0, seq := 0, op := 0x0504, flags := 0, target := 0x5000 + f
    gen := 0, params := [0xFF, 0, 0, 0], at? := none, order := 0, mseq := some (s.pair.mseq + 1) }

/-- A pulse on an armed line requests a swap at the second boundary and clears the arm (R473). -/
def State.pulseFeed (s : State) (f : Nat) : State :=
  let x := s.corFeed f
  let b := s.time.ri + 2 * s.blockLen
  if s.swapBarred f b then (s.setCorFeed f { x with arm := none }).swapFailed f Status.budget true
  else
    let r := s.pulseReq f
    let fore := s.pair.mirroring && !s.pair.peerLoad
    let s := s.setCorFeed f { x with
      arm := none, swap := some { req := if fore then some r else none, at_ := b, pulse := true } }
    if fore then s.mirrorCommand r b else s

/-- A pulse of line `l` at the armed feeds: a Backsight ignores it, and a feed whose generation has moved on
counts it and keeps its arm (Table 11-4, R480). -/
def State.pulseArms (s : State) (l : Nat) : State :=
  if s.pair.state.isBack then s
  else
    s.cor.feed.foldl (fun s x =>
      match x.2.arm with
      | some (n, g) =>
        if n ≠ l then s
        else if g ≠ s.genOf (0x5000 + x.1) then
          { s with host := { s.host with staleCount := s.host.staleCount + 1 } }
        else s.pulseFeed x.1
      | none => s) s

end Sys2Proof.Machine
end

