-- ==== Sys2Proof/Machine/PairState.lean ====
section
/-!
DEFINITION. Sys2Proof/Machine/PairState.lean: the pair's policy, its fence output, and how a device comes into the
states of Table 14-2 (R579-R586, R608).
-/
namespace Sys2Proof.Machine

def State.pairMod (s : State) (f : PairPart → PairPart) : State := { s with pair := f s.pair }

/-! ## The record (Table 14-1, R580) -/

def PairPart.enabled (p : PairPart) : Bool := bitOf (u8 p.record 0) 0
def PairPart.fenced (p : PairPart) : Bool := p.enabled && bitOf (u8 p.record 0) 1
def PairPart.hbOnly (p : PairPart) : Bool := p.enabled && bitOf (u8 p.record 0) 2
def PairPart.seekNs (p : PairPart) : Nat := (u8 p.record 3 + if p.pairId then 2 else 0) * second

/-- The device's outputs are live as the pair's active device (HFL, Table 14-3). -/
def PairPart.active (p : PairPart) : Bool := p.state.isFore && p.selfHold.isNone

/-- FENCE_OUT is asserted while the outputs are live and the heartbeat is sent (R585). -/
def PairPart.fence (p : PairPart) : PairPart :=
  { p with fenceOut := p.fenced && p.active && decide (p.withheld < 2) }

/-- Shared outputs are held: a Backsight's, and those of a Foresight under R603 (R585, R292). -/
def State.outputsHeld (s : State) : Bool := s.pair.state.isBack || s.pair.selfHold.isSome

/-- The fence shows the peer active. -/
def PairPart.peerFenced (p : PairPart) : Bool := p.fenced && p.fenceIn

/-- PAIR of READY (R582). -/
def State.showPair (s : State) : State :=
  s.setReady Rdy.pair (s.pair.settled && (s.pair.state == .foresight || s.pair.state == .backsight))

/-! ## Role changes -/

/-- Enter a state of Table 14-2 without a peer: nothing of a join, a handover or a comparison is left. -/
def State.enterPair (s : State) (x : PState) : State :=
  (s.pairMod fun p => PairPart.fence { p with
    state := x, settled := false, joining := false, misses := 0, fenceRun := 0, fenceWait := none
    switchRi := none, crcDiff := 0, resent := false, snapshot := [], results := [], peerResults := []
    unfinished := if x.isFore then p.unfinished else none
    holdAt := none, peerLoad := false
    since := if x.isFore && !p.state.isFore then s.time.ri else p.since }).showPair

/-- PAIR_PEER_LOST (Table 14-11). -/
def State.peerLost (s : State) (cause : Nat) : State := s.event 0x0B02 Sev.warning 0x0B 0x0000 (le 1 cause)

/-- PAIR_SPLIT (Table 14-11). -/
def State.pairSplit (s : State) (cause : Nat) : State := s.event 0x0B06 Sev.error 0x0B 0x0000 (le 1 cause)

/-- A PAIR_PEER_LOAD whose peer is gone ends (R606). -/
def State.dropPeerLoad (s : State) : State :=
  match s.pair.loadReq with
  | some (_, r) => (s.pairMod fun p => { p with loadReq := none }).finish r Status.timeout []
  | none => s

/-- The Foresight is alone (R608). -/
def State.goAlone (s : State) : State := (s.enterPair .alone).dropPeerLoad

/-- The sight line fails, or is frozen, which counts as its failure (R608). -/
def State.sightLost (s : State) : State :=
  match s.pair.state with
  | .foresight => s.goAlone.peerLost 2
  | .alone => s.pairMod fun p => { p with joining := false }
  | .joining => s.enterPair .seeking
  | .single | .seeking | .backsight | .isolated => s

end Sys2Proof.Machine
end

