-- ==== Sys2Proof/Machine/Masters.lean ====
section
/-!
DEFINITION. Sys2Proof/Machine/Masters.lean: freezing and thawing of the masters (R100-R103), and
the control window each slot sees: what its registers read, what a read clears, and what a write
does or is refused with a freeze (R60, R99, R108, Tables 2-18, 3-4, 3-11, 8-2, 15-10).
-/
namespace Sys2Proof.Machine

/-! ## Traverse channels -/

def State.chan (s : State) (c : Nat) : Channel := tget Channel.reset s.trav.ch c

def State.setChan (s : State) (c : Nat) (x : Channel) : State :=
  { s with trav := { s.trav with ch := tput Channel.reset s.trav.ch c x } }

def State.modChan (s : State) (c : Nat) (f : Channel → Channel) : State :=
  s.setChan c (f (s.chan c))

/-- The owner slot of a channel, if it has one. -/
def Channel.slot? (x : Channel) : Option Nat := if x.owner < 8 then some x.owner else none

/-- The channel lets its engine go (R155). -/
def State.releaseEngine (s : State) (c : Nat) : State :=
  { s with trav := { s.trav with
      busy := if s.trav.busy = some c then none else s.trav.busy
      busyL := if s.trav.busyL = some c then none else s.trav.busyL } }

/-! ## Freezing (R100, R101) -/

/-- DETAIL of a freeze event (R101). -/
def freezeDetail (cause b1 serial info : Nat) : List Byte :=
  le 1 cause ++ le 1 b1 ++ le 2 serial ++ le 4 info

def nextSerial (n : Nat) : Nat := (n + 1) % 65536

/-- What an owned channel does as its owner freezes (R100, Table 3-13). -/
def Channel.hold (x : Channel) : Channel :=
  match x.state with
  | .wait => { x with state := .parked, held := true, wasWait := true }
  | .parked => { x with held := true, wasWait := false }
  | .fetch | .run => { x with holdAfter := true, wasWait := false }
  | .idle | .fetchFault | .frozen | .stopping => x

/-- What an owned channel does as its owner is thawed (Table 3-13). -/
def Channel.resume (x : Channel) : Channel :=
  if x.held then
    if x.wasWait || !x.lastLast || x.extPending then
      { x with held := false, state := .wait, reread := x.reread || (!x.wasWait && x.lastLast) }
    else { x with held := false }
  else { x with holdAfter := false }

/-- Change every D channel that slot `i` owns. -/
def State.ownedChans (s : State) (i : Nat) (f : Channel → Channel) : List Nat → State
  | [] => s
  | c :: cs => (if (s.chan c).owner = i then s.modChan c f else s).ownedChans i f cs

/-- Freeze a slot (R100, R101): a frozen slot is not frozen again. -/
def State.freezeSlot (s : State) (i cause info : Nat) : State :=
  let x := s.slot i
  if x.frozen then s
  else
    let n := nextSerial x.serial
    let s := s.setSlot i { x with
      frozen := true, cause := cause, serial := n
      vioInfo := if cause = 1 then info else x.vioInfo }
    let s := s.ownedChans i Channel.hold (List.range 32)
    let s := { s with sticky := { s.sticky with
      frozenSlots := setBit s.sticky.frozenSlots i true } }
    s.event 0x0101 Sev.error 0x01 (0xA000 + i) (freezeDetail cause 0 n info)
      (.slot s.host.privSlot)

/-- Freeze a channel (R101). A station whose data is moving finishes its burst first (R103): the
channel then counts as frozen and its state follows at STATION_COMPLETE. -/
def State.freezeChan (s : State) (c cause info : Nat) (now : Bool) : State :=
  let x := s.chan c
  if x.frozen then s
  else
    let n := nextSerial x.serial
    let running := !now && x.station.isSome && (x.state == .run || x.state == .stopping)
    let s := s.setChan c { x with
      frozen := true, thawed := false, serial := n
      state := if running then x.state else .frozen
      station := if running then x.station else none
      held := false, extPending := if running then x.extPending else false }
    let s := if running then s else s.releaseEngine c
    let k := s.sticky
    let s := { s with sticky := { k with
      frozenCh := if c < 32 then setBit k.frozenCh c true else k.frozenCh
      frozenX := if c < 32 then k.frozenX else setBit k.frozenX (c - 32) true } }
    s.event 0x0102 Sev.error 0x01 (0x8000 + c) (freezeDetail cause c n info)
      (.slot s.host.privSlot)

/-- Freeze the sight line (R101, R248). -/
def State.freezeSight (s : State) (cause info : Nat) : State :=
  let x := s.net.sight
  if x.frozen then s
  else
    let n := nextSerial x.serial
    let s := s.sightMod fun x => { x with frozen := true, serial := n }
    let s := { s with sticky := { s.sticky with frozenX := setBit s.sticky.frozenX 8 true } }
    (s.event 0x0103 Sev.error 0x01 0x0000 (freezeDetail cause 0 n info) (.slot s.host.privSlot)).sightLost

/-! ## Thawing (R102, R103, Table 2-12) -/

/-- Forget the sequence expectations of a slot's command queues (R81). -/
def State.forgetSlot (s : State) (i : Nat) : State :=
  (((s.forgetSeq (4 * i)).forgetSeq (4 * i + 1)).forgetSeq (4 * i + 2)).forgetSeq (4 * i + 3)

def State.thawSlot (s : State) (i : Nat) : State :=
  let s := s.modSlot i fun x => { x with frozen := false, authTimes := [] }
  (s.forgetSlot i).ownedChans i Channel.resume (List.range 32)

/-- A thawed channel is idle; one that still finishes its burst goes there when it stops (R103). -/
def State.thawChan (s : State) (c : Nat) : State :=
  s.modChan c fun x =>
    if x.state = .frozen then { x with frozen := false, state := .idle }
    else { x with frozen := false, thawed := true }

def State.thawSight (s : State) : State :=
  s.sightMod fun x => { x with frozen := false }

/-! ## Queues a slot owns (R99) -/

/-- The queue is the slot's own. -/
def State.ownsQueue (s : State) (i q : Nat) : Bool :=
  decide (q / 4 = i ∧ q < 32) || decide (32 ≤ q ∧ q < 64 ∧ (q - 32) / 4 = i) ||
    decide (q = 64 + i) ||
    (decide (128 ≤ q ∧ q < 240) && decide (bankLog2 q (s.queue q) ≠ 0) &&
      decide ((s.queue q).owner = i)) ||
    (decide (i = s.host.privSlot) && decide (72 ≤ q ∧ q < 128 ∨ 240 ≤ q))

/-- The slot's cell apertures produce the queue (R141). -/
def State.produces (s : State) (i q : Nat) : Bool :=
  decide (q < 32 ∧ q / 4 = i) ||
    (decide (128 ≤ q ∧ q < 240) && decide (bankLog2 q (s.queue q) ≠ 0) &&
      decide ((s.queue q).producer = i))

/-! ## What the registers read -/

/-- COUNT of a queue (Table 3-4). -/
def queueCount (q : Nat) (x : Queue) : Nat :=
  if bankLog2 q x = 0 then 0
  else x.markersHeld * 2 ^ 28 + x.packetsHeld * 2 ^ 14 + x.cellsHeld

/-- STATUS of a queue (Table 3-4). -/
def queueStatus (q : Nat) (x : Queue) : Nat :=
  if bankLog2 q x = 0 then x.overlongCt * 256 + x.ptrFaultCt
  else
    let b := x.bank x.drain
    let cell := b.cells[b.read]?
    let data := decide (b.read < b.commit)
    let mark := !data && b.markerWaiting
    let first := mark || (data && (cell.map (·.first)).getD false)
    let last := mark || (data && (cell.map (·.last)).getD false)
    2 ^ 31 + b2n x.openAt.isSome * 2 ^ 30 + b2n x.discarding * 2 ^ 29
      + b2n (x.bank x.pushBank).sealed * 2 ^ 28 + b2n (data || mark) * 2 ^ 27 + b2n mark * 2 ^ 26
      + b2n last * 2 ^ 25 + b2n first * 2 ^ 24 + bankLog2 q x * 2 ^ 20
      + x.overlongCt * 256 + x.ptrFaultCt

def queueReg (s : State) (i off : Nat) : Nat :=
  let q := (off - 0x1000) / 16
  let x := s.queue q
  if s.ownsQueue i q then
    match off % 16 with
    | 0 => queueCount q x
    | 8 => x.epoch
    | 12 => queueStatus q x
    | _ => 0
  else 0

/-- Codes of Table 3-12. -/
def ChState.code : ChState → Nat
  | .idle => 0 | .wait => 1 | .fetch => 2 | .run => 3 | .parked => 4 | .fetchFault => 5
  | .frozen => 6 | .stopping => 7

/-- A register of a traverse channel (Table 3-11). -/
def chanReg (x : Channel) (o : Nat) : Nat :=
  match o with
  | 0x00 => x.tbaseLo
  | 0x04 => x.tbaseHi
  | 0x08 => x.head
  | 0x10 => x.state.code * 2 ^ 28 + b2n x.extPending * 2 ^ 27 + b2n x.held * 2 ^ 26
      + x.owner * 2 ^ 16 + x.fault
  | 0x14 => x.current
  | 0x18 => x.doneCount
  | 0x1C => x.badCt * 65536 + x.shortCt
  | _ => 0

/-- The fabric registers (Table 8-2). -/
def fabReg (s : State) (off : Nat) : Nat :=
  let f := s.fab
  let cls := (off - 0x3040) / 8
  if 0x3040 ≤ off ∧ off < 0x3068 then
    if off % 8 = 0 then unsigned 32 (f.slackLast.getD cls 0)
    else f.missCt.getD cls 0 * 65536 + unsigned 16 (f.slackLow.getD cls 0x7FFF)
  else if 0x3070 ≤ off ∧ off < 0x30A0 then unsigned 16 (f.tsense.getD ((off - 0x3070) / 4) 0)
  else
    match off with
    | 0x3000 => f.shed * 65536 + b2n f.pend.isSome * 2 ^ 15 + f.pend.getD 0 * 2 ^ 12
        + profBand f.active * 2 ^ 10 + b2n (profRate f.active == 96000) * 2 ^ 9
        + b2n (profLen f.active == 8) * 2 ^ 8 + f.active
    | 0x3004 => f.failed.toNat % 65536 * 65536 + f.powered.toNat % 65536
    | 0x3008 => f.ceil * 65536 + f.floor * 256 + f.vcode
    | 0x300C => f.shedMax * 2 ^ 18 + f.hyst * 2 ^ 9 + f.target
    | 0x3010 => unsigned 16 f.tjMax
    | 0x3014 => f.missTotal
    | 0x3018 => f.shedBlocks
    | 0x301C => f.lastMissRi % 2 ^ 32
    | 0x3020 => f.lastMissRi / 2 ^ 32 % 2 ^ 32
    | _ => 0

/-- The sticky fault registers (Table 15-10). -/
def stickyReg (k : Sticky) (off : Nat) : Nat :=
  let qp := k.qptr != []
  let frz := (k.frozenSlots ||| k.frozenCh ||| k.frozenX) != 0
  if 0x4008 ≤ off ∧ off < 0x4028 then (tget 0 k.qptr ((off - 0x4008) / 4)).toNat
  else
    match off with
    | 0x4000 => b2n qp + 2 * b2n frz + 4 * b2n (k.fabric != 0) + 8 * b2n (k.clock != 0)
        + 16 * b2n (k.firmware != 0) + 32 * b2n (k.memory != 0)
    | 0x4004 => k.resetCause
    | 0x4028 => k.frozenSlots.toNat
    | 0x402C => k.frozenCh.toNat
    | 0x4030 => k.frozenX.toNat
    | 0x4034 => k.fabric.toNat
    | 0x4038 => k.clock.toNat
    | 0x403C => k.firmware.toNat
    | 0x4040 => k.memory.toNat
    | 0x4044 => k.eccCe
    | 0x4048 => k.eccUe
    | 0x404C => k.ueAddr % 2 ^ 32
    | 0x4050 => k.ueAddr / 2 ^ 32 % 2 ^ 32
    | 0x4054 => k.restarts
    | 0x4058 => k.warmResets
    | 0x405C => k.lastCrit
    | _ => 0

/-- SLOT_STATE of a slot (Table 2-21). -/
def slotState (s : State) (i : Nat) : Nat :=
  let x := s.slot i
  b2n x.frozen * 2 ^ 31 + b2n (i == s.host.privSlot) * 2 ^ 30 + s.levelOf i * 2 ^ 28
    + x.cause * 2 ^ 24 + b2n (decide (6 ≤ i) && x.udp.bound) * 2 ^ 16 + x.serial

/-- FROZEN_D (Table 2-18). -/
def frozenD (s : State) : Nat :=
  (List.range 32).foldl (fun a c => a + b2n (s.chan c).frozen * 2 ^ c) 0

/-- FROZEN_X (Table 2-18). -/
def frozenX (s : State) : Nat :=
  (List.range 4).foldl (fun a c => a + b2n (s.chan (32 + c)).frozen * 2 ^ c) 0
    + b2n s.net.sight.frozen * 256

/-- A 32-bit register of the control window as slot `i` reads it (R60, Table 2-18): offsets not
listed read as zero. -/
def readReg (s : State) (i off : Nat) : Nat :=
  let x := s.slot i
  if off % 4 ≠ 0 then 0
  else if 0x200 ≤ off ∧ off < 0x280 then
    let j := (off - 0x200) / 16
    match off % 16 with
    | 0 => slotState s j
    | 4 => (s.slot j).denied
    | 8 => if 6 ≤ j then (s.slot j).authFail else 0
    | _ => (s.slot j).vioInfo
  else if 0x1000 ≤ off ∧ off < 0x2000 then queueReg s i off
  else if 0x2000 ≤ off ∧ off < 0x2400 then chanReg (s.chan ((off - 0x2000) / 32)) (off % 32)
  else if 0x3000 ≤ off ∧ off < 0x3100 then fabReg s off
  else if 0x4000 ≤ off ∧ off < 0x4100 then stickyReg s.sticky off
  else
    match off with
    | 0x0000 => 0x00029624
    | 0x0004 => s.sys.fwVersion
    | 0x0008 => u32 s.otp.ident 0
    | 0x000C => u32 s.otp.ident 4
    | 0x0010 => s.host.ready.toNat
    | 0x0014 => i + s.levelOf i * 16 + b2n (i == s.host.privSlot) * 256
    | 0x0018 => s.dat.id % 2 ^ 32
    | 0x001C => s.dat.id / 2 ^ 32 % 2 ^ 32
    | 0x0104 => x.snap.ns
    | 0x0108 => x.snap.sec % 2 ^ 32
    | 0x010C => x.snap.frac * 65536 + x.snap.sec / 2 ^ 32 % 65536
    | 0x0110 => x.snap.ri % 2 ^ 32
    | 0x0114 => x.snap.ri / 2 ^ 32 % 2 ^ 32
    | 0x0118 => x.snap.count
    | 0x0280 => frozenD s
    | 0x0284 => frozenX s
    | _ => 0

/-! ## What a read clears (R14, R16) -/

/-- The state after a read of a register: its RC fields return to their reset values (R16). -/
def State.clearRc (s : State) (off : Nat) : State :=
  if off % 4 ≠ 0 then s
  else if 0x200 ≤ off ∧ off < 0x280 then
    let j := (off - 0x200) / 16
    match off % 16 with
    | 4 => s.modSlot j fun x => { x with denied := 0 }
    | 8 => s.modSlot j fun x => { x with authFail := 0 }
    | _ => s
  else if 0x2000 ≤ off ∧ off < 0x2400 ∧ off % 32 = 0x1C then
    s.modChan ((off - 0x2000) / 32) fun x => { x with badCt := 0, shortCt := 0 }
  else if 0x3040 ≤ off ∧ off < 0x3068 ∧ off % 8 = 4 then
    let c := (off - 0x3040) / 8
    { s with fab := { s.fab with
      missCt := s.fab.missCt.set c 0, slackLow := s.fab.slackLow.set c 0x7FFF } }
  else if off = 0x3014 then { s with fab := { s.fab with missTotal := 0 } }
  else if off = 0x3018 then { s with fab := { s.fab with shedBlocks := 0 } }
  else { s with sticky := s.sticky.clearRc off }

/-! ## What a write does (R99) -/

/-- The queue's DOORBELL (Table 3-4, R141). -/
def State.doorbell (s : State) (i q op : Nat) : State :=
  match op % 4 with
  | 1 => if s.produces i q then (s.qop q (some .commit) false).1 else s
  | 2 => if s.produces i q then (s.qop q (some .abort) false).1 else s
  | 3 => (s.qop q (some .reset) false).1
  | _ => s

/-- A channel's DOORBELL bits (Tables 3-11 to 3-13, R152, R154): STOP before START before EXTEND. -/
def Channel.doorbell (x : Channel) (v : Nat) : Channel :=
  if bitOf v 2 then
    match x.state with
    | .fetch | .run => { x with state := .stopping }
    | .wait => { x with state := .idle, reread := false }
    | .parked | .fetchFault => { x with state := .idle, held := false, extPending := false }
    | .idle | .stopping | .frozen => x
  else if bitOf v 0 then
    match x.state with
    | .idle | .parked | .fetchFault =>
      { x with state := .wait, nextFetch := x.head, reread := false, held := false }
    | .wait | .fetch | .run | .stopping | .frozen => x
  else if bitOf v 1 then
    if x.held then x
    else
      match x.state with
      | .parked => { x with state := .wait, reread := true, extPending := true }
      | .wait | .fetch | .run | .stopping => { x with extPending := true }
      | .idle | .fetchFault | .frozen => x
  else x

/-- A write to a channel's registers (Table 3-11, R152). -/
def Channel.write (x : Channel) (o v : Nat) : Channel :=
  let baseOk := x.state == .idle || x.state == .fetchFault
  let headOk := baseOk || x.state == .parked
  match o with
  | 0x00 => if baseOk then { x with tbaseLo := v / 4096 * 4096 } else x
  | 0x04 => if baseOk then { x with tbaseHi := v } else x
  | 0x08 => if headOk then { x with head := v / 32 * 32 } else x
  | 0x0C => x.doorbell v
  | _ => x

/-- Latch device time and render index for slot `i` (R110). -/
def State.takeSnapshot (s : State) (i : Nat) : State :=
  let t := s.time.now
  s.modSlot i fun x => { x with
    snap := { ns := t.ns, sec := t.sec, frac := t.frac / 65536, ri := s.posRi
              count := (x.snap.count + 1) % 4294967296 } }

/-- A 32-bit write to the control window by slot `i` (R99, R100): what it may write it writes; any
other write is ignored and freezes the slot, and a frozen slot's writes are ignored. -/
def State.writeReg (s : State) (i off : Nat) (v : Nat) : State :=
  if (s.slot i).frozen then s
  else if off = 0x0100 then (if bitOf v 0 then s.takeSnapshot i else s)
  else if off % 4 = 0 ∧ 0x1000 ≤ off ∧ off < 0x2000 ∧ s.ownsQueue i ((off - 0x1000) / 16) then
    if off % 16 = 4 then s.doorbell i ((off - 0x1000) / 16) v else s
  else if off % 4 = 0 ∧ 0x2000 ≤ off ∧ off < 0x2400 ∧ (s.chan ((off - 0x2000) / 32)).owner = i then
    s.modChan ((off - 0x2000) / 32) fun x => x.write (off % 32) v
  else if off % 4 = 0 ∧ 0x4000 ≤ off ∧ off < 0x4100 ∧ i = s.host.privSlot then
    { s with sticky := s.sticky.w1c off (BitVec.ofNat 32 v) }
  else s.freezeSlot i 1 off

/-- A write through BAR0 or SPI: BAR0 reads zero from 0x8000 up and ignores writes there (R61). -/
def State.regWrite (s : State) (i off v : Nat) : State :=
  if i < 4 ∧ 0x8000 ≤ off then s else s.writeReg i off v

end Sys2Proof.Machine
end

