-- ==== Sys2Proof/Machine/Tables.lean ====
section
/-!
DEFINITION. Sys2Proof/Machine/Tables.lean: the records of objects, feeds, zones, taps and correction banks, and
the tables of the almanac, the renderer and correction as a master reads them (Tables 9-8, 10-1, 10-2,
10-5, 10-6, 10-8, 11-3).
-/
namespace Sys2Proof.Machine

/-! ## Objects and feeds -/

/-- Bytes 0-47 of an object at its defaults (Table 10-2). -/
def objectDefault (i : Nat) : List Byte :=
  zeros 2 ++ le 2 (0x9000 + i) ++ zeros 18 ++ le 2 64 ++ [0xFF, 0] ++ le 2 20 ++ le 4 10000 ++ le 4 500
    ++ zeros 4 ++ le 4 50000 ++ zeros 4

/-- Bytes 0-35 of a feed at its defaults (Table 10-1). -/
def feedDefault : List Byte := zeros 24 ++ le 4 100000 ++ zeros 8

def State.object (s : State) (i : Nat) : SndObj := tget SndObj.reset s.obj.obj i
def State.feed (s : State) (f : Nat) : Feed := tget Feed.reset s.obj.feed f

/-- The record in effect. -/
def State.objRec (s : State) (i : Nat) : List Byte :=
  let r := (s.object i).record
  if r = [] then objectDefault i else r

def State.feedRec (s : State) (f : Nat) : List Byte :=
  let r := (s.feed f).record
  if r = [] then feedDefault else r

/-- Tap entries, fading ones included, that a test picks. -/
def State.tapCount (s : State) (p : Tap → Bool) : Nat := (s.obj.tap.filter fun x => p x.2).length

/-- The 64 bytes of an object (Table 10-2). -/
def objectBytes (s : State) (i : Nat) : List Byte :=
  let x := s.object i
  let r := s.objRec i
  let ofl := u8 r 0 % 8 + 8 * b2n x.safe + 16 * b2n (!inCapacity s.fab.active (0x4000 + i))
  le 1 ofl ++ slice r 1 47 ++ leI 4 x.cur.e ++ leI 4 x.cur.n ++ leI 4 x.cur.h
    ++ le 2 (s.tapCount fun t => t.obj == i) ++ le 2 (s.genOf (0x4000 + i))

/-- The 64 bytes of a feed (Table 10-1). -/
def feedBytes (s : State) (f : Nat) : List Byte :=
  let r := s.feedRec f
  let ffl := u8 r 0 % 8 + 8 * b2n (s.feed f).mesh + 16 * b2n (!inCapacity s.fab.active (0x5000 + f))
  le 1 ffl ++ slice r 1 35 ++ zeros 24 ++ le 2 (s.tapCount fun t => t.feed == f)
    ++ le 2 (s.genOf (0x5000 + f))

/-- A zone entry (Table 10-5). -/
def zoneBytes (s : State) (z : Nat) : List Byte :=
  let r := tget [] s.obj.zone z
  if r = [] then zeros 256 else r

/-- A tap entry in use (Table 10-6). -/
def Tap.bytes (t : Tap) : List Byte :=
  le 2 (32768 + 16384 * b2n t.safe + 8192 * b2n t.long + t.obj) ++ le 2 (16384 * t.fade + t.feed)
    ++ le 4 (134217728 * min 31 (t.fpos / 8) + t.delay) ++ le 4 t.dtarget ++ leI 2 t.gain ++ leI 2 t.gtarget

/-- Entry `t` of the tap table; zeros where it is free. -/
def tapBytes (s : State) (t : Nat) : List Byte :=
  let x := tget Tap.reset s.obj.tap t
  if x = Tap.reset then zeros 16 else x.bytes

/-! ## Correction banks -/

/-- A bank descriptor (Table 11-3). -/
def bankBytes (x : CorFeed) (second : Bool) : List Byte :=
  let b := if second then x.bank1 else x.bank0
  let running := second == x.run1
  let role := if x.fadeAt.isSome then (if running then 3 else 2) else b2n running
  let state := role + 4 * b2n x.arm.isSome + 8 * b2n x.swap.isSome
  let line := match x.arm with
    | some a => a.1
    | none => 0xFF
  le 4 b.base ++ le 2 b.nslot ++ le 1 b.ps ++ le 1 state ++ le 1 line ++ zeros 3 ++ le 4 b.swaps

/-! ## Long-throw lines (R451, R667) -/

/-- Samples of a long-throw line in a profile. -/
def longLength (p : Nat) : Nat := if p = 3 then 262144 else 131072

/-- Long-throw lines of a profile. -/
def longLines (p : Nat) : Nat := if p = 3 then 32 else 64

/-- Byte `o` of the long-throw region: samples in circular order from a place that is free. A line no
object has taken holds nothing the spec states. -/
def longByte (s : State) (o : Nat) : Byte :=
  let n := longLength s.fab.active
  let k := o / (4 * n)
  let turn := Config.freeNat (s.freeCtr + k) % n
  match s.obj.obj.find? fun x => u8 (s.objRec x.1) 24 == k with
  | some x => BitVec.ofNat 8 (unsigned 32 (x.2.long.getD ((o / 4 + turn) % n) 0) / 256 ^ (o % 4))
  | none => Config.freeCell s.freeCtr (0x200000000 + o)

/-! ## What a master reads -/

/-- Byte of a table of records of a fixed length. -/
def recordByte (a base len : Nat) (f : Nat → List Byte) : Byte :=
  (f ((a - base) / len)).getD ((a - base) % len) 0

/-- A gain register (Table 9-8). -/
def gainBytes (s : State) (k : Nat) : List Byte :=
  let g := tget StepGain.reset s.alm.gain k
  leI 2 g.cur ++ leI 2 g.target ++ zeros 12

def almImage (s : State) (k : Nat) : List Byte := (tget AlmBank.reset s.alm.bank k).image

/-- A byte of a table with a defined layout. -/
def tableByte (s : State) (a : Nat) : Option Byte :=
  if a < 0x11EA0000 then none
  else if a < 0x11EA8000 then
    some (recordByte a 0x11EA0000 16 fun i => bankBytes (tget CorFeed.reset s.cor.feed (i / 2)) (i % 2 == 1))
  else if a < 0x16400000 then none
  else if a < 0x16480000 then some ((almImage s 0).getD (a - 0x16400000) 0)
  else if a < 0x16500000 then some ((almImage s 1).getD (a - 0x16480000) 0)
  else if a < 0x16540000 then some (recordByte a 0x16500000 16 (gainBytes s))
  else if a < 0x16800000 then none
  else if a < 0x16900000 then some (recordByte a 0x16800000 16 (tapBytes s))
  else if a < 0x16908000 then some (recordByte a 0x16900000 64 (objectBytes s))
  else if a < 0x16918000 then some (recordByte a 0x16908000 64 (feedBytes s))
  else if a < 0x16928000 then some (recordByte a 0x16918000 256 (zoneBytes s))
  else if a < 0x16948000 then some (s.obj.mesh.getD (a - 0x16928000) 0)
  else if a < 0x200000000 then none
  else if a < 0x202000000 then some (longByte s (a - 0x200000000))
  else none

/-- The address lies in a region whose contents have no defined layout: correction state and input
spectra, object delay lines, jitter buffers, scratch and delay lines of the almanac, the grid and
survey state, and the event recorder (R42, R45, R385, R450, R456, R461). -/
def undefinedRegion (a : Nat) : Bool :=
  (decide (0x11EA8000 ≤ a) && decide (a < 0x16000000)) ||
    (decide (0x16540000 ≤ a) && decide (a < 0x16800000)) ||
    (decide (0x16948000 ≤ a) && decide (a < 0x16C00000)) ||
    (decide (0x202000000 ≤ a) && decide (a < 0x352000000))

end Sys2Proof.Machine
end

