-- ==== Sys2Proof/Machine/AddressMap.lean ====
section
/-!
DEFINITION. Sys2Proof/Machine/AddressMap.lean: the device address map as a master meets it: which
accesses fail and with what code, what a read returns, and which writes a pair mirrors (R38-R46,
R385, R456, R462, R555, R594, R666, R667, Tables 1-4 to 1-6, 13-5, 14-6).
-/
namespace Sys2Proof.Machine

/-! Bus error codes (Table 3-8). -/
namespace Bus
def decode : Nat := 1
def access : Nat := 2
def ecc : Nat := 3
def timeout : Nat := 4
def abort : Nat := 5
def format : Nat := 6
def window : Nat := 7
def qrefused : Nat := 8
def truncated : Nat := 9
end Bus

/-- An address lies in the range [lo, hi]. -/
def inRange (a lo hi : Nat) : Bool := decide (lo ≤ a) && decide (a ≤ hi)

/-! ## Places -/

def isField (a : Nat) : Bool := inRange a 0x10000000 0x17FFFFFF
def isFlash (a : Nat) : Bool := inRange a 0x20000000 0x2FFFFFFF
def isSram (a : Nat) : Bool := inRange a 0x40000000 0x403FFFFF
def isLong (a : Nat) : Bool := inRange a 0x200000000 0x3FFFFFFFF
def isHostMem (a : Nat) : Bool := inRange a 0x8000000000000000 0xFFFFFFFFFFFFFFFF

/-- First byte of a datum slot (Table 13-5). -/
def datumSlotBase (k : Nat) : Nat := 0x3D2000000 + 0x4000000 * k

/-- First byte of a stored overlay (Table 13-5). -/
def overlayBase (n : Nat) : Nat := 0x3DA000000 + 16384 * n

/-- Use of a field-store bank of the flexible reserve, 0 where the datum assigns none (R44). -/
def reserveUse (s : State) (bank : Nat) : Nat :=
  match s.dat.reserve.find? fun x => decide (x.1 ≤ bank) && decide (bank < x.1 + x.2.1) with
  | some x => x.2.2
  | none => 0

/-- Bank of a field-store address. -/
def fieldBank (a : Nat) : Nat := (a - 0x10000000) / 0x20000

/-- A write into the field store that completes as ACCESS (R43, R44, R462). -/
def fieldWriteBarred (s : State) (a : Nat) : Bool :=
  inRange a 0x11EA0000 0x147FFFFF || inRange a 0x16000000 0x16BFFFFF ||
    (inRange a 0x16C00000 0x17FFFFFF && reserveUse s (fieldBank a) == 0)

/-- A write into the long store that completes as ACCESS (R555, R667): the long-throw lines, the
running datum slot, and the reserved part of the datum and overlay store. -/
def longWriteBarred (s : State) (a : Nat) : Bool :=
  inRange a 0x200000000 0x201FFFFFF ||
    (decide (s.dat.id ≠ 0) &&
      inRange a (datumSlotBase s.dat.running) (datumSlotBase s.dat.running + 0x3FFFFFF)) ||
    inRange a 0x3DA100000 0x3E1FFFFFF

/-- Bus error of channel `c` at address `a`, or 0 (R38-R41). -/
def busError (s : State) (c : Nat) (write : Bool) (a : Nat) : Nat :=
  if isField a then (if write && fieldWriteBarred s a then Bus.access else 0)
  else if isFlash a then (if write then Bus.access else 0)
  else if isSram a then (if c < 32 then Bus.access else 0)
  else if isLong a then (if write && longWriteBarred s a then Bus.access else 0)
  else if isHostMem a then
    (if decide (c < 32) && (decide ((s.chan c).owner < 4) || (s.chan c).slot? == none) then 0
      else Bus.decode)
  else Bus.decode

/-- Bytes from `a` on that answer without a bus error, up to `n`, and the error that follows. Errors
begin and end at multiples of 4 KiB, so one byte of each page answers for all of it. -/
def cleanRun (s : State) (c : Nat) (write : Bool) (a n : Nat) : Nat → Nat × Nat
  | 0 => (0, 0)
  | fuel + 1 =>
    if n = 0 then (0, 0)
    else
      match busError s c write a with
      | 0 =>
        let page := min n (4096 - a % 4096)
        let r := cleanRun s c write (a + page) (n - page) fuel
        (page + r.1, r.2)
      | e => (0, e)

/-- The clean bytes of an access of `n` bytes at `a`, and its bus error or 0. -/
def busRun (s : State) (c : Nat) (write : Bool) (a n : Nat) : Nat × Nat :=
  cleanRun s c write a n (n / 4096 + 2)

/-- Bus error of an access as a whole, or 0. -/
def busFault (s : State) (c : Nat) (write : Bool) (a n : Nat) : Nat := (busRun s c write a n).2

/-! ## Reading -/

/-- A byte a master reads: the tables of the almanac and the renderer from their state, a queue-pool
cell or a region without a defined layout as a free value, any other byte from memory. -/
def busByte (s : State) (a : Nat) : Byte :=
  if inRange a 0x16000000 0x163FFFFF then Config.freeCell s.freeCtr a
  else
    match tableByte s a with
    | some b => b
    | none => if undefinedRegion a then Config.freeCell s.freeCtr a else readByte s.mem a

def busRead (s : State) (a : Nat) : Nat → List Byte
  | 0 => []
  | n + 1 => busByte s a :: busRead s (a + 1) n

/-- Where memory holds a byte that is reached through PCIe function `f`: each function has its own view of host
memory (R41, R666). -/
def viaFunction (f a : Nat) : Nat := if isHostMem a then a + f * 0x10000000000000000 else a

/-- The function a channel uses: its owner's, or that of H0 (R41). -/
def State.functionOf (s : State) (c : Nat) : Nat := if (s.chan c).owner < 4 then (s.chan c).owner else 0

/-- The function a command's source is read through (R666). -/
def Req.function (r : Req) : Nat := if r.origin == .host && decide (r.slot < 4) then r.slot else 0

/-- Bytes that channel `c` reads. -/
def State.chanRead (s : State) (c a n : Nat) : List Byte := busRead s (viaFunction (s.functionOf c) a) n

/-- Bytes of a command's source. -/
def State.sourceRead (s : State) (r : Req) (a n : Nat) : List Byte := busRead s (viaFunction r.function a) n

/-! ## Writing, and the mirror of it (R594) -/

/-- The address lies in a mirrored region (Table 14-6). -/
def mirroredAddr (a : Nat) : Bool :=
  inRange a 0x10000000 0x11E9FFFF || inRange a 0x16C00000 0x17FFFFFF ||
    inRange a 0x352000000 0x3DA0FFFFF || inRange a 0x3E6000000 0x3FFFFFFFF

/-- A load's source lies outside the mirrored regions where the pair mirrors the command (R592). -/
def State.unmirrored (s : State) (r : Req) (a n : Nat) : Bool :=
  s.pair.mirroring && r.origin == .host && !r.pairLocal && !s.pair.peerLoad &&
    !(mirroredAddr a && mirroredAddr (a + n - 1))

/-- Send a write as MEMORY_WRITE messages of at most 8,952 data bytes. -/
def State.mirrorWrite (s : State) (a : Nat) (d : List Byte) : Nat → State
  | 0 => s
  | fuel + 1 =>
    if d = [] then s
    else
      let s := s.sightSend 0x05 0 0 0 (le 8 a ++ d.take 8952)
      s.mirrorWrite (a + 8952) (d.drop 8952) fuel

/-- Write bytes at a device address, and mirror the write where a pair mirrors it. -/
def State.busWrite (s : State) (c a : Nat) (d : List Byte) : State :=
  let s := { s with mem := writeBytes s.mem (viaFunction (s.functionOf c) a) d }
  if s.pair.copying && decide (c < 32) && mirroredAddr a then
    s.mirrorWrite a d (d.length / 8952 + 1)
  else s

end Sys2Proof.Machine
end

