-- ==== Sys2Proof/Machine/EntryPatches.lean ====
section
/-!
DEFINITION. Sys2Proof/Machine/EntryPatches.lean: entries of datum images and overlays (Table 13-1),
and the record bytes that an entry writes: the keys of Table 13-2 are bytes of records.
-/
namespace Sys2Proof.Machine

/-- One entry (Table 13-1). -/
structure Entry where
  op     : Nat
  target : Nat
  params : List Byte
  deriving DecidableEq, Repr

/-- Bytes an entry occupies: 8 + PLEN rounded up to a multiple of 4 (R547). -/
def entrySpan (plen : Nat) : Nat := (8 + plen + 3) / 4 * 4

/-- Parse entries that fill `b` exactly (R547): none where the framing fails. -/
def parseEntries (b : List Byte) : Nat → Option (List Entry)
  | 0 => if b = [] then some [] else none
  | n + 1 =>
    let plen := u16 b 4
    let span := entrySpan plen
    if b.length < span ∨ b.length < 8 then none
    else if u16 b 6 ≠ 0 ∨ (slice b (8 + plen) (span - 8 - plen)).any (· != 0) then none
    else
      match parseEntries (b.drop span) n with
      | some es => some ({ op := u16 b 0, target := u16 b 2, params := slice b 8 plen } :: es)
      | none => none

/-! Record kinds (RecKey.kind). -/
namespace Rec
def strEnable : Nat := 0
def object : Nat := 1
def feed : Nat := 2
def stream : Nat := 3
def tdm : Nat := 4
def tdmMask : Nat := 5
def loop : Nat := 6
def zone : Nat := 7
def biquad : Nat := 8
def limiter : Nat := 9
def compressor : Nat := 10
def gain : Nat := 11
def sinkFade : Nat := 12
def busScale : Nat := 13
def laneEnable : Nat := 14
def program : Nat := 15
def profile : Nat := 16
def objEnable : Nat := 17
end Rec

/-- Put bytes into a record at an offset. -/
def splice (r : List Byte) (o : Nat) (b : List Byte) : List Byte :=
  r.take o ++ b ++ r.drop (o + b.length)

def patch (kind unit sub offset : Nat) (bytes : List Byte) : Patch :=
  { key := { kind := kind, unit := unit, sub := sub }, offset := offset, bytes := bytes }

/-- Patches of `n` like items of a command, item `i` from the parameters. -/
def eachItem (n : Nat) (f : Nat → Patch) : List Patch := (List.range n).map f

/-- A bit of a byte as a record of its own: ENABLE of a stream or an object (Table 13-2). -/
def enableByte (v i : Nat) : List Byte := le 1 (b2n (bitOf v i))

/-- A DAT_FIELD's value bytes and where it writes them (R552). -/
def fieldPatches (target : Nat) (p : List Byte) : List Patch :=
  let set := u8 p 0
  let o := u16 p 2
  let v := slice p 4 (u8 p 1)
  if set ≠ 0 then [patch Rec.loop 0xF000 set o v]
  else
    match unitClass target with
    | 1 | 2 =>
      patch Rec.stream target 0 o v ::
        (if o = 0 then [patch Rec.strEnable target 0 0 (enableByte (u8 v 0) 1)] else [])
    | 3 => if o < 8 then [patch Rec.tdm target 0 o v] else [patch Rec.tdmMask target 0 (o - 8) v]
    | 4 =>
      patch Rec.object target 0 o v ::
        (if o = 0 then [patch Rec.objEnable target 0 0 (enableByte (u8 v 0) 0)] else [])
    | 5 => [patch Rec.feed target 0 o v]
    | _ => []

/-- The record bytes that an entry (or a command of the same opcode) writes (Table 13-2). -/
def entryPatches (op target : Nat) (p : List Byte) : List Patch :=
  match op with
  | 0x0240 => fieldPatches target p
  | 0x0241 => [patch Rec.profile 0xF000 0 0 (slice p 0 1)]
  | 0x0301 =>
    [patch Rec.stream target 0 0 (slice p 0 128),
      patch Rec.strEnable target 0 0 (enableByte (u8 p 0) 1)]
  | 0x0302 => [patch Rec.strEnable target 0 0 (slice p 0 1)]
  | 0x0320 => [patch Rec.tdm target 0 0 (slice p 0 8), patch Rec.tdmMask target 0 0 (slice p 8 8)]
  | 0x0321 => [patch Rec.tdmMask target 0 0 (slice p 0 8)]
  | 0x0401 =>
    [patch Rec.object target 0 0 (slice p 0 48),
      patch Rec.objEnable target 0 0 (enableByte (u8 p 0) 0)]
  | 0x0403 => [patch Rec.objEnable target 0 0 (slice p 0 1)]
  | 0x0404 => [patch Rec.object target 0 20 (slice p 0 2)]
  | 0x0405 => [patch Rec.object target 0 2 (slice p 0 2)]
  | 0x0412 => [patch Rec.zone 0xF000 (u8 p 0) 0 (slice p 4 256)]
  | 0x0501 => [patch Rec.feed target 0 0 (slice p 0 36)]
  | 0x0502 => [patch Rec.feed target 0 2 (slice p 0 2), patch Rec.feed target 0 32 (slice p 4 4)]
  | 0x0510 =>
    eachItem (u8 p 1) fun i =>
      patch Rec.biquad target (u8 p 0 + i) 0 (slice p (4 + 20 * i) 20 ++ slice p 2 1)
  | 0x0520 => [patch Rec.limiter target 0 0 (slice p 0 8)]
  | 0x0521 => [patch Rec.compressor target 0 0 (slice p 0 16)]
  | 0x0602 => [patch Rec.program 0xF000 0 0 (slice p 0 12)]
  | 0x0603 =>
    eachItem (u16 p 0) fun i => patch Rec.gain 0xF000 (u16 p (4 + 4 * i)) 0 (slice p (6 + 4 * i) 2)
  | 0x0606 =>
    eachItem (u16 p 0) fun i =>
      patch Rec.sinkFade 0xF000 (u16 p (8 + 2 * i)) 0 (slice p 2 2 ++ slice p 4 1)
  | 0x0607 => [patch Rec.busScale target 0 0 (slice p 0 1)]
  | 0x0609 => [patch Rec.laneEnable 0xF000 (u8 p 0) 0 (slice p 1 1)]
  | 0x0710 => [patch Rec.loop 0xF000 (u8 p 0) 0 p]
  | _ => []

end Sys2Proof.Machine
end

