-- ==== Sys2Proof/Machine/Layers.lean ====
section
/-!
DEFINITION. Sys2Proof/Machine/Layers.lean: how commands, fields and overlays stack on one record
(R564, R567): the base value, the layers above it, and the value in effect.
-/
namespace Sys2Proof.Machine

def State.ovl (s : State) (n : Nat) : Ovl := tget Ovl.reset s.dat.ovl n

def State.setOvl (s : State) (n : Nat) (x : Ovl) : State :=
  { s with dat := { s.dat with ovl := tput Ovl.reset s.dat.ovl n x } }

/-- The bytes of overlay `n`: as it was applied while it is, else as it is stored (R561). -/
def ovlBytes (s : State) (n : Nat) : List Byte :=
  match (s.ovl n).record with
  | [] => readBytes s.mem (overlayBase n) 16384
  | r => r

/-! Fields of an overlay's header (Table 13-8). -/
namespace Ov
def len (b : List Byte) : Nat := u16 b 24
def prio (b : List Byte) : Nat := u8 b 26
def island (b : List Byte) : Bool := bitOf (u8 b 27) 0
def count (b : List Byte) : Nat := u16 b 28
end Ov

def ovlPrio (s : State) (n : Nat) : Nat := Ov.prio (ovlBytes s n)
def ovlIsland (s : State) (n : Nat) : Bool := Ov.island (ovlBytes s n)
def ovlRecord (s : State) (n : Nat) : List Byte := (ovlBytes s n).take (Ov.len (ovlBytes s n))

/-- The entries of a stored overlay; empty where its framing fails. -/
def ovlEntries (s : State) (n : Nat) : List Entry :=
  let r := ovlRecord s n
  (parseEntries (slice r 32 (r.length - 36)) (Ov.count r)).getD []

/-- Layer `a` stands above layer `b` (R564): island-owned, then PRIO, then the later applied. -/
def layerAbove (s : State) (a b : Nat) : Bool :=
  let ka := b2n (ovlIsland s a)
  let kb := b2n (ovlIsland s b)
  decide (kb < ka) || (ka == kb &&
    (decide (ovlPrio s b < ovlPrio s a) || (ovlPrio s a == ovlPrio s b &&
      decide ((s.ovl b).order < (s.ovl a).order))))

/-- Insert a layer into a list ordered lowest first. -/
def insertLayer (s : State) (n : Nat) : List Nat → List Nat
  | [] => [n]
  | m :: ms => if layerAbove s n m then m :: insertLayer s n ms else n :: m :: ms

/-- Active overlays, lowest layer first. -/
def State.layers (s : State) : List Nat :=
  ((List.range 64).filter fun n => (s.ovl n).active && !(s.ovl n).suspended).foldl
    (fun acc n => insertLayer s n acc) []

/-- Every patch of an overlay, in entry order. -/
def ovlPatches (s : State) (n : Nat) : List Patch :=
  ((ovlEntries s n).map fun e => entryPatches e.op e.target e.params).flatten

/-- Write the patches of one key over a record. -/
def overlay (key : RecKey) (r : List Byte) (ps : List Patch) : List Byte :=
  ps.foldl (fun r p => if p.key = key then splice r p.offset p.bytes else r) r

/-- The value in effect over a base value: every layer's bytes, lowest layer first. -/
def State.layered (s : State) (key : RecKey) (base : List Byte) : List Byte :=
  s.layers.foldl (fun r n => overlay key r (ovlPatches s n)) base

/-- The base value of a record that an overlay covers. -/
def State.baseOf (s : State) (key : RecKey) : Option (List Byte) :=
  (s.dat.base.find? fun b => decide (b.1 = key)).map (·.2)

/-- Set or, with none, drop the base value of a record. -/
def State.setBase (s : State) (key : RecKey) (v : Option (List Byte)) : State :=
  let rest := s.dat.base.filter fun b => !decide (b.1 = key)
  { s with dat := { s.dat with base := match v with
      | some b => rest ++ [(key, b)]
      | none => rest } }

/-- The record written but not consistent that a unit holds back (R570). -/
def State.heldOf (s : State) (key : RecKey) : Option (List Byte) :=
  (s.dat.held.find? fun b => decide (b.1 = key)).map (·.2)

def State.setHeld (s : State) (key : RecKey) (v : Option (List Byte)) : State :=
  let rest := s.dat.held.filter fun b => !decide (b.1 = key)
  { s with dat := { s.dat with held := match v with
      | some b => rest ++ [(key, b)]
      | none => rest } }

/-- The patch's bytes overlap bytes the overlay covers. -/
def covers (s : State) (n : Nat) (p : Patch) : Bool :=
  (ovlPatches s n).any fun x => decide (x.key = p.key) &&
    decide (p.offset < x.offset + x.bytes.length) && decide (x.offset < p.offset + p.bytes.length)

/-- An active island overlay covers a key that a command writes (R526, R567). -/
def State.islandCovers (s : State) (ps : List Patch) : Bool :=
  s.layers.any fun n => ovlIsland s n && ps.any (covers s n)

/-- Write one patch (R567): on a covered record the base value changes and the value in effect
follows from the layers; on any other the record itself changes. `write` gives the record its
value under the record's own rules. -/
def State.putPatch (s : State) (current : RecKey → State → List Byte)
    (write : RecKey → List Byte → State → State) (p : Patch) : State :=
  match s.baseOf p.key with
  | some b =>
    let b := splice b p.offset p.bytes
    write p.key (s.layered p.key b) (s.setBase p.key (some b))
  | none => write p.key (splice (current p.key s) p.offset p.bytes) s

/-- The patches of a command or an entry, in order. -/
def Req.patches (r : Req) : List Patch := entryPatches r.op r.target r.params

/-- An island overlay holds a key that a command would write (R567). -/
def State.locked (s : State) (r : Req) : Bool := r.origin != .entry && s.islandCovers r.patches

/-- Write every patch of a command. -/
def State.putAll (s : State) (current : RecKey → State → List Byte)
    (write : RecKey → List Byte → State → State) (r : Req) : State :=
  r.patches.foldl (fun s p => s.putPatch current write p) s

end Sys2Proof.Machine
end

