-- ==== Sys2Proof/Machine/Lines.lean ====
section
/-!
DEFINITION. Sys2Proof/Machine/Lines.lean: the event lines and what their consumers do with a pulse
(R112-R114, R473).
-/
namespace Sys2Proof.Machine

def State.pin (s : State) (p : Nat) : GpioPin := tget GpioPin.reset s.gpio p

def State.setPin (s : State) (p : Nat) (x : GpioPin) : State :=
  { s with gpio := tput GpioPin.reset s.gpio p x }

/-- A pulse ignored because the consumer's generation moved on is counted (R91). -/
def State.countStale (s : State) : State :=
  { s with host := { s.host with staleCount := s.host.staleCount + 1 } }

/-- What a pulse of line `l` does at one pin: mode PULSE starts or restarts its pulse, mode TOGGLE
inverts its output (Table 2-22, R114). PULSE_NS counts whole CD6 cycles of 20 ns. -/
def State.pulsePin (s : State) (l p : Nat) : State :=
  let x := s.pin p
  if x.line = l ∧ (x.mode = 3 ∨ x.mode = 4) then
    if x.gen ≠ s.genOf 0xF000 then s.countStale
    else if x.mode = 3 then
      s.setPin p { x with
        out := true, pulseEnd := some (s.time.elapsed + (x.pulseNs + 19) / 20 * 20) }
    else s.setPin p { x with out := !x.out }
  else s

/-- A pulse of line `l` at each pin of a list. -/
def State.pulsePins (s : State) (l : Nat) : List Nat → State
  | [] => s
  | p :: ps => (s.pulsePin l p).pulsePins l ps

/-- Pulse an event line: every consumer bound to it acts on it (R112). -/
def State.pulse (s : State) (l : Nat) : State := (s.pulsePins l (List.range 32)).pulseArms l

end Sys2Proof.Machine
end

