-- ==== Sys2Proof/Machine/Meridian.lean ====
section
/-!
DEFINITION. Sys2Proof/Machine/Meridian.lean: device time, launch slots and the six multiplying
loops: what sets, steps and reads them, and the opcodes of Table 4-10 (R163-R207).
-/
namespace Sys2Proof.Machine

/-! ## Device time (R163-R171) -/

/-- Units of 2^-32 ns in a second. -/
def fracPerSec : Nat := second * 4294967296

/-- A point of time in units of 2^-32 ns. -/
def DevTime.raw (t : DevTime) : Nat := t.sec * fracPerSec + t.ns * 4294967296 + t.frac

def DevTime.ofRaw (n : Nat) : DevTime :=
  { sec := n / fracPerSec % 281474976710656, ns := n % fracPerSec / 4294967296
    frac := n % 4294967296 }

/-- Add a signed amount in units of 2^-32 ns, modulo the 48-bit seconds. -/
def DevTime.shift (t : DevTime) (d : Int) : DevTime :=
  .ofRaw (((t.raw : Int) + d) % (281474976710656 * fracPerSec : Nat)).toNat

/-- Whole nanoseconds since 0:0. -/
def DevTime.nanos (t : DevTime) : Nat := t.sec * second + t.ns

/-- floor(t × r) (R183). -/
def State.floorTr (s : State) : Nat := s.time.now.nanos * s.rate / second

def State.timeMod (s : State) (f : TimePart → TimePart) : State := { s with time := f s.time }

/-! ## Launch slots (R180-R182) -/

def State.launch (s : State) (k : Nat) : LaunchSlot := tget LaunchSlot.reset s.time.slots k

def State.setLaunch (s : State) (k : Nat) (x : LaunchSlot) : State :=
  s.timeMod fun t => { t with slots := tput LaunchSlot.reset t.slots k x }

/-- Late tolerance of a port code in ns: 25,000 unless set (R179). -/
def State.lateTolerance (s : State) (port : Nat) : Nat := tget 25000 s.time.lateTol port

/-- Firing times at or before `now` that the slot's count still allows. -/
def LaunchSlot.due (x : LaunchSlot) (now : Nat) : Nat :=
  let t := x.sec * second + x.ns
  if x.armed = false ∨ now < t then 0
  else
    let n := if x.period = 0 then 1 else (now - t) / x.period + 1
    match x.left with
    | some l => min n l
    | none => n

/-- Of `n` due firing times, the earliest is past by `late` ns and each later one by a period less:
one of them lies within the tolerance. -/
def LaunchSlot.fires (x : LaunchSlot) (n late tol : Nat) : Bool :=
  if late ≤ tol then true
  else if x.period = 0 then false
  else decide ((late - tol + x.period - 1) / x.period < n)

/-- Device time has reached a slot's firing time: it fires at most once, what else is past is missed
and charged, and the slot moves to its first future firing time or stops (R180, R181). -/
def State.settleLaunch (s : State) (k : Nat) : State :=
  let x := s.launch k
  let now := s.time.now.nanos
  let n := x.due now
  if n = 0 then s
  else
    let t := x.sec * second + x.ns
    let fire := x.fires n (now - t) (s.lateTolerance 4)
    let missed := if fire then n - 1 else n
    let next := t + n * x.period
    let left := x.left.map (· - n)
    let s := s.setLaunch k { x with
      armed := x.period != 0 && left != some 0
      sec := if x.period = 0 then x.sec else next / second
      ns := if x.period = 0 then x.ns else next % second
      left := left, firings := x.firings + b2n fire }
    let s := if fire then s.pulse (x.line.getD 0) else s
    if missed = 0 then s
    else s.event 0x0707 Sev.warning 0x07 (0xE000 + k) (le 1 k ++ zeros 3 ++ le 4 missed)

def State.settleLaunches (s : State) : List Nat → State
  | [] => s
  | k :: ks => (s.settleLaunch k).settleLaunches ks

/-- LAUNCH_SLOT_FIRE (R180, R181). -/
def execLaunchSlotFire (k : Nat) (s : State) : Host.Outcome State Fault Refusal :=
  ran (decide (k < 64)) "LAUNCH_SLOT_FIRE" s (s.settleLaunch k)

/-! ## Loops -/

def State.loop (s : State) (l : Nat) : Loop := tget Loop.reset s.time.loops l

def State.setLoop (s : State) (l : Nat) (x : Loop) : State :=
  s.timeMod fun t => { t with loops := tput Loop.reset t.loops l x }

def State.modLoop (s : State) (l : Nat) (f : Loop → Loop) : State := s.setLoop l (f (s.loop l))

def LoopState.code : LoopState → Nat
  | .off => 0 | .search => 1 | .acquire => 2 | .locked => 3 | .coast => 4 | .holdover => 5
  | .hop => 6 | .realign => 7

/-- Level-0 content flows or is silent in a state (Table 4-5). -/
def LoopState.silent : LoopState → Bool
  | .off | .search | .acquire | .hop => true
  | .locked | .coast | .holdover | .realign => false

/-- READY bit of a loop, if it has one (R192). -/
def loopReadyBit (l : Nat) : Option Nat :=
  match l with
  | 0 => some Rdy.sysPll
  | 1 => some Rdy.mp0
  | 2 => some Rdy.mp1
  | _ => none

/-- A fade-in over 64 samples, and silence. -/
def Fade.start (n : Nat) : Fade := { pos := 0, len := n, up := true }
def Fade.out (n : Nat) : Fade := { pos := 0, len := n, up := false }

/-- A loop enters a state (R192, R199, R200): its readiness follows, and level-0 content of the sinks
it clocks goes silent or fades in. -/
def State.enterLoop (s : State) (l : Nat) (st : LoopState) : State :=
  let x := s.loop l
  let fade := if st.silent then Fade.out 0
    else if x.state.silent && st == .locked then Fade.start 64 else x.fade
  let s := s.setLoop l { x with
    state := st, since := s.time.elapsed, fade := fade
    fallback := x.fallback && st != .locked
    secondary := x.secondary && st != .locked
    coastFrom := if st = .coast then s.time.elapsed else x.coastFrom }
  match loopReadyBit l with
  | some b => s.setReady b (st == .locked || st == .coast)
  | none => s

/-- An event of a loop of the main die; a lock loss of LS never reaches the main die (R37). -/
def State.loopEvent (s : State) (code sev l : Nat) (detail : List Byte) : State :=
  if l = 5 then s else s.event code sev 0x07 0x0000 (le 1 l ++ detail)

/-- A loop in LOCKED or ACQUIRE goes into COAST (Table 4-6, R189). -/
def State.coast (s : State) (l cause : Nat) : State :=
  let s := (s.modLoop l fun x => { x with cause := cause }).enterLoop l .coast
  s.loopEvent 0x0702 Sev.warning l (le 1 cause)

/-- Where a step of device time finds a loop referenced to it (R202). -/
def stepCoasts (x : Loop) : Bool :=
  x.cfg.ref == 1 && (x.state == .locked || x.state == .acquire || x.state == .coast)

/-- Loops referenced to device time coast for the tick of a step (R202). -/
def State.coastOnStep (s : State) (d : Int) : List Nat → State
  | [] => s
  | l :: ls =>
    let s := if stepCoasts (s.loop l) then (s.coast l 4).modLoop l fun x => { x with phaseErr := d }
      else s
    s.coastOnStep d ls

/-- Device time steps by `d` units of 2^-32 ns: MER_TIME_STEP is sent with `ns`, loops coast, and
launch slots are compared afresh (R170, R171, R181, R202). -/
def State.stepTime (s : State) (d : Int) (ns : Int) : State :=
  let s := s.timeMod fun t => { t with now := t.now.shift d }
  let s := s.event 0x070A Sev.notice 0x07 0x0000 (leI 8 (clampI (-2 ^ 63) (2 ^ 63 - 1) ns))
  let s := s.coastOnStep (d / 4294967296) [1, 2]
  s.settleLaunches (List.range 64)

/-! ## Media-loop settings (R193-R195, R206, Table 4-11) -/

/-- The settings that Table 4-11's 28 bytes spell. -/
def parseLoopCfg (p : List Byte) : LoopCfg :=
  { ref := u8 p 1 % 16, index := u8 p 1 / 16, stream := u16 p 2, hz := u32 p 4, n := u16 p 8
    d := u16 p 10, family := u8 p 12, lflags := u8 p 13, coastMs := u16 p 14, slewPpm := u8 p 16
    sref := u8 p 17, sstream := u16 p 18, shz := u32 p 20, bwMhz := u32 p 24 }

/-- The 28 bytes of a loop's settings (Table 4-11). -/
def loopCfgBytes (l : Nat) (c : LoopCfg) : List Byte :=
  le 1 l ++ le 1 (c.ref + 16 * c.index) ++ le 2 c.stream ++ le 4 c.hz ++ le 2 c.n ++ le 2 c.d
    ++ le 1 c.family ++ le 1 c.lflags ++ le 2 c.coastMs ++ le 1 c.slewPpm ++ le 1 c.sref
    ++ le 2 c.sstream ++ le 4 c.shz ++ le 4 c.bwMhz

/-- A reference field is one of Table 4-4: code, index, stream and frequency. -/
def referenceOk (code index stream hz : Nat) : Bool :=
  match code with
  | 0 | 1 => index == 0 && stream == 0 && hz == 0
  | 2 => index == 0 && stream == 0 && decide (32000 ≤ hz) && decide (hz ≤ 192000)
  | 3 => decide (index < 4) && stream == 0 && decide (32000 ≤ hz) && decide (hz ≤ 192000)
  | 4 => stream == 0 && decide (0 < hz)
  | 5 => index == 0 && decide (stream < 512) && decide (0 < hz)
  | _ => false

/-- Nominal domain clock of a family in Hz (R193). -/
def familyHz (f : Nat) : Nat := if f = 0 then 98304000 else 90316800

/-- The coupled set of R194 is consistent; `render`: the loop is the render loop. -/
def loopSetOk (render : Bool) (c : LoopCfg) : Bool :=
  let f := familyHz c.family
  (!render || c.family == 0) &&
    (match c.ref with
     | 0 => true
     | 1 => c.n == 1 && c.d == 1
     | _ =>
       let got := c.hz * c.n * 1000
       decide (f * c.d * 999 ≤ got) && decide (got ≤ f * c.d * 1001))

/-- Fields of Table 4-11 out of range. -/
def loopCfgBad (p : List Byte) : Bool :=
  let c := parseLoopCfg p
  let l := u8 p 0
  (l != 1 && l != 2) || !referenceOk c.ref c.index c.stream c.hz ||
    !referenceOk (c.sref % 16) (c.sref / 16) c.sstream c.shz ||
    c.n == 0 || c.d == 0 || decide (2 ≤ c.family) || decide (8 ≤ c.lflags) ||
    c.coastMs == 0 || decide (1000 < c.coastMs) || c.slewPpm == 0 || decide (100 < c.slewPpm) ||
    decide (c.bwMhz < 100) || decide (100000 < c.bwMhz)

/-- A valid hop entry for settings (R196). -/
def hopFor (x : Loop) (c : LoopCfg) : Option Nat :=
  (List.range 4).find? fun i =>
    let e := tget HopEntry.reset x.hops i
    e.valid && e.ref == c.ref && e.index == c.index && e.hz == c.hz && e.n == c.n && e.d == c.d &&
      e.family == c.family

/-- A loop hops to an entry: its reference frequency, N, D and FAMILY become current (R198). -/
def State.hopTo (s : State) (l i : Nat) : State :=
  let s := s.modLoop l fun x =>
    let e := tget HopEntry.reset x.hops i
    let used := x.useCount + 1
    { x with
      cfg := { x.cfg with hz := e.hz, n := e.n, d := e.d, family := e.family }
      hopInUse := some i, useCount := used
      hops := tput HopEntry.reset x.hops i { e with used := used } }
  (s.enterLoop l .hop).loopEvent 0x0705 Sev.notice l (le 1 i)

/-- The settings name a new reference or FAMILY (Table 4-6). -/
def newReference (a b : LoopCfg) : Bool :=
  a.ref != b.ref || a.index != b.index || a.stream != b.stream || a.hz != b.hz || a.n != b.n ||
    a.d != b.d || a.family != b.family

/-- A loop takes its settings at a boundary (R206, Table 4-6). Reference 0x0 turns it off. -/
def State.adoptLoop (s : State) (l : Nat) (c : LoopCfg) : State :=
  let old := (s.loop l).cfg
  let s := s.modLoop l fun x => { x with cfg := c }
  if c.ref = 0 then (s.modLoop l fun x => { x with measuring := false, hopInUse := none }).enterLoop l .off
  else if newReference old c || (s.loop l).state == .off then
    let s := s.modLoop l fun x => { x with measuring := false, hopInUse := none }
    match hopFor (s.loop l) c with
    | some i => s.hopTo l i
    | none => s.enterLoop l .search
  else s

/-- The record of a loop's settings; one held back as inconsistent stands for it (R570). -/
def loopRecord (k : RecKey) (s : State) : List Byte :=
  (s.heldOf k).getD (loopCfgBytes k.sub (s.loop k.sub).cfg)

/-- A coupled set that is not consistent is held back, and the pending state is reported once
(R570). -/
def State.holdBack (s : State) (k : RecKey) (r : List Byte) (report : State → State) : State :=
  let first := (s.heldOf k).isNone
  let s := s.setHeld k (some r)
  if first then report s else s

/-- A loop's settings take a value, or are held back where the set is not consistent (R570). -/
def writeLoop (k : RecKey) (r : List Byte) (s : State) : State :=
  let c := parseLoopCfg r
  if loopCfgBad r || !loopSetOk (k.sub == s.time.render) c then
    s.holdBack k r fun s => s.event 0x0206 Sev.warning 0x02 0x0000 (le 2 (0xF000 + k.sub))
  else (s.setHeld k none).adoptLoop k.sub c

/-- Statuses of MER_LOOP_CONFIG (R206); a key of an island overlay is locked (R567). -/
def loopConfigCheck (r : Req) (s : State) : Option Nat :=
  let c := parseLoopCfg r.params
  firstFail
    [ (loopCfgBad r.params, Status.badParam),
      (!loopSetOk (u8 r.params 0 == s.time.render) c, Status.coupling),
      (r.origin != .entry && s.islandCovers (entryPatches r.op r.target r.params), Status.safetyLock) ]

/-- What MER_LOOP_CONFIG does once its check passes. -/
def merLoopConfigEffect (r : Req) (s : State) : State :=
  (entryPatches r.op r.target r.params).foldl (fun s p => s.putPatch loopRecord writeLoop p) s

def merLoopConfigBody : Body := atBoundary loopConfigCheck merLoopConfigEffect

/-- MER_LOOP_CONFIG (R193, R194, R206). -/
def execMerLoopConfig (q : Nat) (s : State) : Host.Outcome State Fault Refusal :=
  commandRow "MER_LOOP_CONFIG" 0x0710 merLoopConfigBody q s

/-! ## Time opcodes (Table 4-10) -/

/-- MER_GET_TIME reply (R184). -/
def timeData (s : State) : List Byte :=
  let t := s.time
  let ri := s.posRi
  le 6 t.now.sec ++ le 4 t.now.ns ++ le 2 (t.now.frac / 65536) ++ le 8 ri ++ le 5 t.inc
    ++ le 1 (b2n t.servo) ++ zeros 2 ++ leI 8 ((ri : Int) - s.floorTr)

def merGetTimeBody : Body := query fun _ s => timeData s

/-- MER_GET_TIME (R184). -/
def execMerGetTime (q : Nat) (s : State) : Host.Outcome State Fault Refusal :=
  commandRow "MER_GET_TIME" 0x0700 merGetTimeBody q s

/-- The increment lies within nominal ±1,000 ppm (R164). -/
def incOk (v : Nat) : Bool := decide (0x01FF7CED92 ≤ v) && decide (v ≤ 0x020083126E)

def incrementCheck (r : Req) (s : State) : Option Nat :=
  firstFail
    [ (!incOk (u40 r.params 0) || !zeroAt r.params 5 3, Status.badParam),
      (s.time.servo, Status.busy) ]

/-- What MER_SET_INCREMENT does once its check passes. -/
def merSetIncrementEffect (r : Req) (s : State) : State := s.timeMod fun t =>
  { t with inc := u40 r.params 0, baseInc := u40 r.params 0, slewLeft := 0 }

def merSetIncrementBody : Body := atOnce incrementCheck merSetIncrementEffect

/-- MER_SET_INCREMENT (R164, R167, R169). -/
def execMerSetIncrement (q : Nat) (s : State) : Host.Outcome State Fault Refusal :=
  commandRow "MER_SET_INCREMENT" 0x0701 merSetIncrementBody q s

def slewCheck (r : Req) (s : State) : Option Nat :=
  firstFail
    [ (!incOk (u40 r.params 0) || !zeroAt r.params 5 3 || u32 r.params 8 == 0, Status.badParam),
      (s.time.servo, Status.busy) ]

/-- What MER_SLEW does once its check passes. -/
def merSlewEffect (r : Req) (s : State) : State := s.timeMod fun t =>
  { t with inc := u40 r.params 0, slewLeft := u32 r.params 8 }

def merSlewBody : Body := atOnce slewCheck merSlewEffect

/-- MER_SLEW (R169). -/
def execMerSlew (q : Nat) (s : State) : Host.Outcome State Fault Refusal :=
  commandRow "MER_SLEW" 0x0702 merSlewBody q s

/-- After the last tick of a slew the increment of the last MER_SET_INCREMENT returns (R169). -/
def State.slewEnds (s : State) : State :=
  if s.time.slewLeft = 0 then s.timeMod fun t => { t with inc := t.baseInc } else s

/-- SLEW_END (R169). -/
def execSlewEnd (s : State) : Host.Outcome State Fault Refusal := goOn s s.slewEnds

def stepCheck (r : Req) (s : State) : Option Nat :=
  firstFail [ (!zeroAt r.params 10 2, Status.badParam), (s.time.servo, Status.busy) ]

/-- What MER_STEP does once its check passes. -/
def merStepEffect (r : Req) (s : State) : State :=
  let ns := i64 r.params 0
  s.stepTime (ns * 4294967296 + (u16 r.params 8 * 65536 : Nat)) ns

def merStepBody : Body := atOnce stepCheck merStepEffect

/-- MER_STEP (R170, R202). -/
def execMerStep (q : Nat) (s : State) : Host.Outcome State Fault Refusal :=
  commandRow "MER_STEP" 0x0703 merStepBody q s

def setTimeCheck (r : Req) (s : State) : Option Nat :=
  firstFail [ (decide (second ≤ u32 r.params 6), Status.badParam), (s.time.servo, Status.busy) ]

/-- What MER_SET_TIME does once its check passes. -/
def merSetTimeEffect (r : Req) (s : State) : State :=
  let t : DevTime := { sec := u48 r.params 0, ns := u32 r.params 6, frac := u16 r.params 10 * 65536 }
  s.stepTime ((t.raw : Int) - s.time.now.raw) 0

def merSetTimeBody : Body := atOnce setTimeCheck merSetTimeEffect

/-- MER_SET_TIME (R170, R202). -/
def execMerSetTime (q : Nat) (s : State) : Host.Outcome State Fault Refusal :=
  commandRow "MER_SET_TIME" 0x0704 merSetTimeBody q s

def servoCheck (r : Req) (_s : State) : Option Nat :=
  firstFail [ (decide (2 ≤ u8 r.params 0) || decide (16 ≤ u8 r.params 1) || !zeroAt r.params 2 2,
    Status.badParam) ]

/-- Set the servo (R168); one switched off is not locked. -/
def setServo (r : Req) (s : State) : State :=
  let on := u8 r.params 0 == 1
  let s := s.timeMod fun t => { t with
    servo := on, portSet := u8 r.params 1, stepThr := u32 r.params 4, maxSlew := u32 r.params 8 }
  if on then s else s.setReady Rdy.ptpLocked false

def merServoBody : Body := atOnce servoCheck setServo

/-- MER_SERVO (R167, R168). -/
def execMerServo (q : Nat) (s : State) : Host.Outcome State Fault Refusal :=
  commandRow "MER_SERVO" 0x0705 merServoBody q s

/-! ## Launch opcodes (R180-R182, R205) -/

def launchCheck (r : Req) (_s : State) : Option Nat :=
  let p := r.params
  let period := u32 p 12
  firstFail
    [ (decide (second ≤ u32 p 6) || decide (64 ≤ u8 p 10) || !zeroAt p 11 1 ||
        (period != 0 && decide (period < 1000)), Status.badParam) ]

/-- Arm a slot: another line than that of its previous arm re-binds it (R182), and a firing time
already past is settled at once (R181). -/
def armLaunch (r : Req) (s : State) : State :=
  let p := r.params
  let x := s.launch r.index
  let line := u8 p 10
  let rebind := x.line.isSome && x.line != some line
  let period := u32 p 12
  let count := u32 p 16
  let s := s.setLaunch r.index
    { armed := true, line := some line, sec := u48 p 0, ns := u32 p 6, period := period
      left := if period = 0 then some 1 else if count = 0 then none else some count
      firings := 0 }
  (if rebind then s.bumpGen r.target else s).settleLaunch r.index

def merLaunchArmBody : Body := atOnce launchCheck armLaunch

/-- MER_LAUNCH_ARM (R180-R182, R205). -/
def execMerLaunchArm (q : Nat) (s : State) : Host.Outcome State Fault Refusal :=
  commandRow "MER_LAUNCH_ARM" 0x0708 merLaunchArmBody q s

def merLaunchCancelBody : Body := fun _ r s =>
  let x := s.launch r.index
  .done (s.setLaunch r.index { x with armed := false }) (le 4 x.firings)

/-- MER_LAUNCH_CANCEL (R180). -/
def execMerLaunchCancel (q : Nat) (s : State) : Host.Outcome State Fault Refusal :=
  commandRow "MER_LAUNCH_CANCEL" 0x0709 merLaunchCancelBody q s

def toleranceCheck (r : Req) (_s : State) : Option Nat :=
  firstFail [ (decide (4 < u8 r.params 0) || !zeroAt r.params 1 3 ||
    decide (1000000 < u32 r.params 4), Status.badParam) ]

/-- What MER_SET_LATE_TOLERANCE does once its check passes. -/
def merSetLateToleranceEffect (r : Req) (s : State) : State := s.timeMod fun t =>
  { t with lateTol := tput 25000 t.lateTol (u8 r.params 0) (u32 r.params 4) }

def merSetLateToleranceBody : Body := atOnce toleranceCheck merSetLateToleranceEffect

/-- MER_SET_LATE_TOLERANCE (R179, R181, R205). -/
def execMerSetLateTolerance (q : Nat) (s : State) : Host.Outcome State Fault Refusal :=
  commandRow "MER_SET_LATE_TOLERANCE" 0x070A merSetLateToleranceBody q s

/-- A stamp delay above exactly 100,000 ns (R173, R205). -/
def delayBad (ns frac : Nat) : Bool := decide (100000 < ns) || (ns == 100000 && frac != 0)

def portDelayCheck (r : Req) (_s : State) : Option Nat :=
  let p := r.params
  firstFail
    [ (decide (3 < u8 p 0) || decide (1 < u8 p 1) || !zeroAt p 2 2 ||
        delayBad (u32 p 4) (u16 p 8) || delayBad (u32 p 12) (u16 p 10), Status.badParam) ]

/-- The delays that MER_PORT_DELAY's parameters give. -/
def parseDelay (p : List Byte) : PortDelay :=
  { oneStep := u8 p 1 == 1, inNs := u32 p 4, inFrac := u16 p 8, outFrac := u16 p 10
    outNs := u32 p 12 }

/-- What MER_PORT_DELAY does once its check passes. -/
def merPortDelayEffect (r : Req) (s : State) : State := s.timeMod fun t =>
  { t with delays := tput PortDelay.reset t.delays (u8 r.params 0) (parseDelay r.params) }

def merPortDelayBody : Body := atOnce portDelayCheck merPortDelayEffect

/-- MER_PORT_DELAY (R173, R174, R205). -/
def execMerPortDelay (q : Nat) (s : State) : Host.Outcome State Fault Refusal :=
  commandRow "MER_PORT_DELAY" 0x070B merPortDelayBody q s

/-! ## Loop opcodes -/

/-- MER_LOOP_STATUS reply. -/
def loopStatusData (s : State) (l : Nat) : List Byte :=
  let x := s.loop l
  le 1 x.state.code ++ le 1 x.cause ++ le 1 (x.hopInUse.getD 0xFF) ++ zeros 1
    ++ leI 4 (sat32 x.phaseErr) ++ le 4 x.glitches ++ leI 4 (sat32 x.freqPpb)
    ++ le 4 ((s.time.elapsed - x.since) / milli)

def merLoopStatusBody : Body := fun _ r s =>
  if 5 < u8 r.params 0 then .bad Status.badParam else .done s (loopStatusData s (u8 r.params 0))

/-- MER_LOOP_STATUS (R199). -/
def execMerLoopStatus (q : Nat) (s : State) : Host.Outcome State Fault Refusal :=
  commandRow "MER_LOOP_STATUS" 0x0711 merLoopStatusBody q s

/-- The family whose domain clock a reference comes nearer to. -/
def nearestFamily (hz n d : Nat) : Nat :=
  if d = 0 then 0 else if 2 * (hz * n) < d * (98304000 + 90316800) then 1 else 0

/-- The settings a MER_HOP_LEARN names. -/
def learnCfg (p : List Byte) (old : LoopCfg) : LoopCfg :=
  { old with
    ref := u8 p 2, index := u8 p 3, hz := u32 p 4, n := u16 p 8, d := u16 p 10
    family := if u8 p 2 = 1 then old.family else nearestFamily (u32 p 4) (u16 p 8) (u16 p 10) }

def merHopLearnBody : Body := fun _ r s =>
  let p := r.params
  let l := u8 p 0
  if (l != 1 && l != 2) || decide (3 < u8 p 1) || u8 p 2 == 0 ||
      !referenceOk (u8 p 2) (u8 p 3) 0 (u32 p 4) || u16 p 8 == 0 || u16 p 10 == 0 then
    .bad Status.badParam
  else if (s.loop l).state = .search ∨ (s.loop l).learn.isSome then .bad Status.busy
  else .deferred (s.modLoop l fun x => { x with learn := some (u8 p 1, learnCfg p x.cfg, r) })

/-- MER_HOP_LEARN (R197, R205). -/
def execMerHopLearn (q : Nat) (s : State) : Host.Outcome State Fault Refusal :=
  commandRow "MER_HOP_LEARN" 0x0712 merHopLearnBody q s

/-- The boundary of a realignment: the first at least four blocks ahead, eight in Swift (R203). -/
def State.realignBoundary (s : State) : Nat :=
  let l := s.blockLen
  let n := s.posRi + (if l = 8 then 8 else 4) * l
  (n + l - 1) / l * l

/-- The decision to realign a loop (Table 4-9 step 1). -/
def State.realign (s : State) (l : Nat) (err : Int) : State :=
  let b := s.realignBoundary
  let s := s.loopEvent 0x0706 Sev.warning l (zeros 3 ++ leI 4 (sat32 err))
  (s.modLoop l fun x => { x with realign := some (b, err), phaseErr := err }).enterLoop l .realign

def merLoopRealignBody : Body := fun _ r s =>
  let l := u8 r.params 0
  if (l != 1 && l != 2) || !zeroAt r.params 1 3 then .bad Status.badParam
  else if (s.loop l).state = .realign then .bad Status.busy
  else if (s.loop l).state ≠ .locked ∧ (s.loop l).state ≠ .coast ∧ (s.loop l).state ≠ .holdover then
    .bad Status.notReady
  else .deferred ((s.modLoop l fun x => { x with realignReq := some r }).realign l
    (s.loop l).phaseErr)

/-- MER_LOOP_REALIGN (R203). -/
def execMerLoopRealign (q : Nat) (s : State) : Host.Outcome State Fault Refusal :=
  commandRow "MER_LOOP_REALIGN" 0x0713 merLoopRealignBody q s

/-! ## What the loops' references do (R187-R191, R196-R204) -/

/-- The loop has a reference with edges (R187). -/
def hasEdges (l : Nat) (x : Loop) : Bool := (l != 1 && l != 2) || decide (2 ≤ x.cfg.ref)

/-- A loop that a fault of its reference sends into COAST (Table 4-6). -/
def followsReference (x : Loop) : Bool := x.state == .locked || x.state == .acquire

/-- The crystal of SYS stopped: CRYSTAL_STOP sets (Table 15-10). -/
def State.crystalStop (s : State) : State :=
  { s with sticky := { s.sticky with clock := setBit s.sticky.clock 8 true } }

/-- No edge for 1.5 nominal periods (Table 4-2); a measurement under way ends without a result. -/
def State.referenceStop (s : State) (l : Nat) : State :=
  let x := s.loop l
  if !hasEdges l x then s
  else
    let s := s.modLoop l fun x => { x with measuring := false }
    let s := if l = 0 then s.crystalStop else s
    if followsReference x then s.coast l 1 else s

/-- REFERENCE_STOP (R187-R189, Table 4-2). -/
def execReferenceStop (l : Nat) (s : State) : Host.Outcome State Fault Refusal :=
  ran (decide (l < 6)) "REFERENCE_STOP" s (s.referenceStop l)

/-- A glitch is ignored and counted (Table 4-2). -/
def State.referenceGlitch (s : State) (l : Nat) : State :=
  if hasEdges l (s.loop l) then
    s.modLoop l fun x => { x with glitches := satAdd 0xFFFFFFFF x.glitches 1 }
  else s

/-- REFERENCE_GLITCH (R187, Table 4-2). -/
def execReferenceGlitch (l : Nat) (s : State) : Host.Outcome State Fault Refusal :=
  ran (decide (l < 6)) "REFERENCE_GLITCH" s (s.referenceGlitch l)

/-- A rate change is recognised: the loop coasts and the new rate is measured (R188). -/
def State.referenceRate (s : State) (l : Nat) : State :=
  let x := s.loop l
  if hasEdges l x && followsReference x then
    (s.coast l 2).modLoop l fun x => { x with measuring := true }
  else s

/-- REFERENCE_RATE_CHANGE (R187-R189). -/
def execReferenceRateChange (l : Nat) (s : State) : Host.Outcome State Fault Refusal :=
  ran (decide (l < 6)) "REFERENCE_RATE_CHANGE" s (s.referenceRate l)

/-- Nominal reference frequency of a loop in Hz (Table 1-3, Table 4-4). -/
def nominalHz (l : Nat) (x : Loop) : Nat :=
  match l with
  | 0 => 25000000
  | 3 => 156250000
  | 4 => 100000000
  | 5 => 24000000
  | _ => x.cfg.hz

/-- Offset of a measured rate in mHz from nominal, in ppm, rounded towards zero. -/
def ppmOffset (mhz nominal : Nat) : Int :=
  (((mhz : Int) - (nominal * 1000 : Nat)) * 1000).tdiv (max 1 nominal : Nat)

/-- A hop entry for a measured rate (R198): same reference, frequency within 0.5% of it, and not of
the 44.1 kHz family on the render loop. -/
def hopForRate (s : State) (l mhz : Nat) : Option Nat :=
  let x := s.loop l
  (List.range 4).find? fun i =>
    let e := tget HopEntry.reset x.hops i
    let hz := e.hz * 1000
    e.valid && e.ref == x.cfg.ref && e.index == x.cfg.index &&
      decide (mhz * 995 ≤ hz * 1000) && decide (hz * 1000 ≤ mhz * 1005) &&
      !(e.family == 1 && l == s.time.render)

/-- The 16 periods after a rate change have been measured (R188, R198). -/
def State.rateMeasured (s : State) (l mhz : Nat) : State :=
  let x := s.loop l
  if x.measuring then
    let s := s.modLoop l fun x => { x with measuring := false }
    let s := s.loopEvent 0x0704 Sev.warning l
      (zeros 3 ++ leI 4 (sat32 (ppmOffset mhz (nominalHz l x))))
    if bitOf x.cfg.lflags 0 && x.state == .coast then
      match hopForRate s l mhz with
      | some i => s.hopTo l i
      | none => s
    else s
  else s

/-- RATE_MEASURE_DONE (R188, R198). -/
def execRateMeasureDone (l mhz : Nat) (s : State) : Host.Outcome State Fault Refusal :=
  ran (decide (l < 6)) "RATE_MEASURE_DONE" s (s.rateMeasured l mhz)

/-- A reference is back, `err` ns out of phase (R201): at most 1 ms under the slew policy is slewed
from LOCKED, any other error realigns a media loop. A fixed loop locks again. -/
def State.referenceReturn (s : State) (l : Nat) (err : Int) : State :=
  let x := s.loop l
  let away := x.state == .coast || x.state == .holdover
  if !away then s
  else if l ≠ 1 ∧ l ≠ 2 then (s.modLoop l fun x => { x with phaseErr := err }).enterLoop l .locked
  else if bitOf x.cfg.lflags 2 && decide (-1000000 ≤ err) && decide (err ≤ 1000000) then
    (s.modLoop l fun x => { x with phaseErr := err }).enterLoop l .locked
  else s.realign l err

/-- A full search's result goes into the entry of the same reference and frequency, else with
AUTO_LEARN into the least recently used (R197). -/
def learnResult (x : Loop) (c : LoopCfg) (band centre : Nat) : Loop :=
  let e : HopEntry :=
    { valid := true, ref := c.ref, index := c.index, hz := c.hz, n := c.n, d := c.d
      family := c.family, band := band, centre := centre, used := x.useCount + 1 }
  let same := (List.range 4).find? fun i =>
    let h := tget HopEntry.reset x.hops i
    h.valid && h.ref == c.ref && h.index == c.index && h.hz == c.hz
  let oldest := (List.range 4).foldl (fun a i =>
    if (tget HopEntry.reset x.hops i).used < (tget HopEntry.reset x.hops a).used then i else a) 0
  let place := match same with
    | some i => some i
    | none => if bitOf c.lflags 1 then some oldest else none
  match place with
  | some i => { x with hops := tput HopEntry.reset x.hops i e, useCount := x.useCount + 1, hopInUse := some i }
  | none => x

/-- A band is found: SEARCH stores its result, HOP restored its own; both go on to ACQUIRE. -/
def State.bandFound (s : State) (l band centre : Nat) : State :=
  let x := s.loop l
  if l ≠ 1 ∧ l ≠ 2 then s
  else
    match x.state with
    | .search => (s.setLoop l (learnResult x x.cfg band centre)).enterLoop l .acquire
    | .hop => s.enterLoop l .acquire
    | .off | .acquire | .locked | .coast | .holdover | .realign => s

/-- BAND_SEARCH_DONE (R196, R197, Table 4-6). -/
def execBandSearchDone (l band centre : Nat) (s : State) : Host.Outcome State Fault Refusal :=
  ran (decide (l < 6)) "BAND_SEARCH_DONE" s (s.bandFound l band centre)

/-- No band within 10 ms: the loop goes OFF (Table 4-6). -/
def State.searchFails (s : State) (l : Nat) : State :=
  let x := s.loop l
  if x.state = .search ∧ x.since + 10 * milli ≤ s.time.elapsed then
    (s.enterLoop l .off).loopEvent 0x0703 Sev.error l (le 1 2)
  else s

/-- SEARCH_TIMEOUT (R199, Table 4-6). -/
def execSearchTimeout (l : Nat) (s : State) : Host.Outcome State Fault Refusal :=
  ran (decide (l < 6)) "SEARCH_TIMEOUT" s (s.searchFails l)

/-- A MER_HOP_LEARN search ends: its entry is written and the final reply is OK, or TIMEOUT. -/
def State.learnEnds (s : State) (l : Nat) (found : Bool) (band centre : Nat) : State :=
  match (s.loop l).learn with
  | none => s
  | some (i, c, r) =>
    let s := s.modLoop l fun x =>
      let used := x.useCount + 1
      let e : HopEntry :=
        { valid := true, ref := c.ref, index := c.index, hz := c.hz, n := c.n, d := c.d
          family := c.family, band := band, centre := centre, used := used }
      let y := { x with learn := none }
      if found then { y with hops := tput HopEntry.reset x.hops i e, useCount := used } else y
    s.finish r (if found then Status.ok else Status.timeout) []

/-- HOP_LEARN_DONE (R197). -/
def execHopLearnDone (l : Nat) (found : Bool) (band centre : Nat) (s : State) :
    Host.Outcome State Fault Refusal :=
  ran (decide (l < 6)) "HOP_LEARN_DONE" s (s.learnEnds l found band centre)

/-- The current block is renumbered; the index before it counts as used. -/
def TimePart.atRi (t : TimePart) (n : Nat) : TimePart :=
  { t with ri := n, lastUsed := max t.lastUsed (n - 1) }

/-- Blocks resume at the first block boundary past the last render index used, once floor(t × r)
passes it (Table 4-9 step 3). -/
def State.ticksResume (s : State) : State :=
  let l := s.blockLen
  if s.time.withheld && decide (s.time.lastUsed < s.floorTr) then
    s.timeMod fun t => { t.atRi ((t.lastUsed / l + 1) * l) with withheld := false }
  else s

/-- The fade-in of a realignment is complete: the loop is LOCKED (Table 4-9 step 4), and a
MER_LOOP_REALIGN has its final reply. -/
def State.realignEnds (s : State) (l : Nat) : State :=
  let x := s.loop l
  if x.state = .realign ∧ x.realign = none then
    let s := (s.modLoop l fun x => { x with realignReq := none }).enterLoop l .locked
    match x.realignReq with
    | some r => s.finish r Status.ok []
    | none => s
  else s

/-- REALIGN_FADE_IN_DONE (R199, R203). -/
def execRealignFadeInDone (l : Nat) (s : State) : Host.Outcome State Fault Refusal :=
  ran (decide (l < 6)) "REALIGN_FADE_IN_DONE" s (s.realignEnds l)

/-! ## Parts of steps that other chapters complete -/

/-- The render loop's first lock loads the render index from device time, if that is its reference
(R183, R184). -/
def State.loadRi (s : State) (l : Nat) : State :=
  if l = s.time.render ∧ s.time.riLoaded = false then
    let n := s.floorTr / s.blockLen * s.blockLen
    let load := (s.loop l).cfg.ref == 1 && decide (s.time.ri ≤ n)
    s.timeMod fun t =>
      { (if load then t.atRi n else t) with riLoaded := true }
  else s

/-- A loop locks under R190 (Table 4-6); a fixed loop locks from any state. -/
def State.loopLocks (s : State) (l : Nat) : State :=
  let x := s.loop l
  let media := l == 1 || l == 2
  if (media && x.state == .acquire) || (!media && x.state != .locked) then
    let s := (s.enterLoop l .locked).loadRi l
    s.loopEvent 0x0701 Sev.info l (le 1 (x.hopInUse.getD 0xFF))
  else s

/-- What the fallback of SYS takes away (Table 4-3): the field bus, and with the crystal stopped the
trust in device time. -/
def State.sysFallback (s : State) (stopped : Bool) : State :=
  let s := s.setReady Rdy.field false
  if stopped then (s.setReady Rdy.time false).setReady Rdy.ptpLocked false else s

/-- The coast window expires: the fed domains go to their fallback (R191, Table 4-3). -/
def State.coastExpires (s : State) (l : Nat) (sec : Bool) : State :=
  let x := s.loop l
  if x.state = .coast ∧ x.coastFrom + x.cfg.coastMs * milli ≤ s.time.elapsed then
    let second := sec && x.cfg.sref % 16 != 0 && (l == 1 || l == 2)
    let s := s.enterLoop l .holdover
    let s := s.modLoop l fun x => { x with fallback := true, secondary := second }
    let s := if l < 5 then
        { s with sticky := { s.sticky with clock := setBit s.sticky.clock l true } } else s
    let s := if l = 0 then s.sysFallback (x.cause == 1) else s
    s.loopEvent 0x0703 Sev.error l (le 1 (b2n second))
  else s

/-- At boundary B the DCO phase steps; a render loop on device time reloads the render index, or
withholds its block ticks where that would move it back (R203, R204, Table 4-9 step 3). -/
def State.realignStep (s : State) (l : Nat) : State :=
  let x := s.loop l
  match x.realign with
  | none => s
  | some (b, _) =>
    if s.time.ri < b then s
    else
      let s := s.modLoop l fun x => { x with realign := none, phaseErr := 0, fade := Fade.start 64 }
      if l = s.time.render then
        let s := { s with fab := { s.fab with exempt := true } }
        if x.cfg.ref = 1 then
          let n := s.floorTr / s.blockLen * s.blockLen
          if s.time.lastUsed < n then s.timeMod fun t => t.atRi n
          else s.timeMod fun t => { t with withheld := true }
        else s
      else s

end Sys2Proof.Machine
end

