-- ==== Sys2Proof/Machine/HostPorts.lean ====
section
/-!
DEFINITION. Sys2Proof/Machine/HostPorts.lean: what reaches the block on the host slots' own paths:
cell apertures, control-window accesses, doorbells, function-level resets, PERST_N, authenticated
datagrams, and the GPIO pins' inputs (R60-R76, R99, R107-R114).
-/
namespace Sys2Proof.Machine

/-! ## Cell apertures (R61-R63, Table 2-2) -/

/-- The queue a push aperture's offset selects: command queues (Table 2-2). -/
def pushAperture (i off : Nat) : Option Nat :=
  if 0x8000 ≤ off ∧ off < 0xA000 then some (4 * i + (off - 0x8000) / 0x800) else none

/-- The queue a pop aperture's offset selects: reply queues and the event queue (Table 2-2). -/
def popAperture (i off : Nat) : Option Nat :=
  if 0xA000 ≤ off ∧ off < 0xC000 then some (32 + 4 * i + (off - 0xA000) / 0x800)
  else if 0xC000 ≤ off ∧ off < 0xC800 then some (64 + i) else none

/-- A slot's write of bytes as 32-bit register writes; a trailing partial word is ignored (R66). -/
def State.writeWords (s : State) (i off : Nat) : List Byte → State
  | a :: b :: c :: d :: rest => (s.writeReg i off (leNat [a, b, c, d])).writeWords i (off + 4) rest
  | _ => s

/-- A write of `d` at an offset of the slot's SPI space or BAR2 (R61-R63). -/
def State.cellWrite (s : State) (i off : Nat) (d : List Byte) : State :=
  if off < 0x8000 then (if i < 4 then s else s.writeWords i off d)
  else
    match pushAperture i off with
    | some q =>
      if off % 64 = 0 ∧ d.length = 64 then (s.qop q (some (.push d)) false).1
      else s.freezeSlot i 1 off
    | none => s.freezeSlot i 1 off

/-- What the slot's last read returned. -/
def State.setRead (s : State) (i : Nat) (d : List Byte) : State :=
  { s with host := { s.host with readData := tput [] s.host.readData i d } }

/-- A read of `n` words of the control window, clearing what reads clear. -/
def State.readWords (s : State) (i off : Nat) : Nat → List Byte → State
  | 0, acc => s.setRead i acc
  | n + 1, acc => (s.clearRc off).readWords i (off + 4) n (acc ++ le 4 (readReg s i off))

/-- A read of `len` bytes at an offset of the slot's SPI space or BAR2 (R61-R63, R133). -/
def State.cellRead (s : State) (i off len : Nat) : State :=
  if off < 0x8000 then
    if i < 4 then s.setRead i (zeros len) else s.readWords i off (len / 4) []
  else
    match popAperture i off with
    | some q =>
      if off % 64 = 0 ∧ len = 64 then
        let r := s.qop q none true
        r.1.setRead i ((r.2.map (·.data)).getD (zeros 64))
      else (s.freezeSlot i 1 off).setRead i []
    | none =>
      if 0xC800 ≤ off then s.setRead i (zeros len) else (s.freezeSlot i 1 off).setRead i []

/-- CELL_PUSH_WRITE (R62, R63, R131, R132, R136, R142). -/
def execCellPushWrite (slot off : Nat) (d : List Byte) (s : State) :
    Host.Outcome State Fault Refusal :=
  ran (decide (slot < 6) && decide (off < 65536)) "CELL_PUSH_WRITE" s (s.cellWrite slot off d)

/-- CELL_POP_READ (R62, R63, R129, R133, R142). -/
def execCellPopRead (slot off len : Nat) (s : State) : Host.Outcome State Fault Refusal :=
  ran (decide (slot < 6) && decide (off < 65536)) "CELL_POP_READ" s (s.cellRead slot off len)

/-! ## Registers (R99) -/

/-- QUEUE_COMMIT: a DOORBELL write of COMMIT (R126, R141, Table 3-4). -/
def execQueueCommit (slot q : Nat) (s : State) : Host.Outcome State Fault Refusal :=
  ran (decide (slot < 6) && decide (q < 256)) "QUEUE_COMMIT" s (s.regWrite slot (0x1004 + 16 * q) 1)

/-- QUEUE_ABORT: a DOORBELL write of ABORT (R127, R141). -/
def execQueueAbort (slot q : Nat) (s : State) : Host.Outcome State Fault Refusal :=
  ran (decide (slot < 6) && decide (q < 256)) "QUEUE_ABORT" s (s.regWrite slot (0x1004 + 16 * q) 2)

/-- QUEUE_RESET: a DOORBELL write of RESET (R140). -/
def execQueueReset (slot q : Nat) (s : State) : Host.Outcome State Fault Refusal :=
  ran (decide (slot < 6) && decide (q < 256)) "QUEUE_RESET" s (s.regWrite slot (0x1004 + 16 * q) 3)

/-- SNAPSHOT_TAKE: a write of 1 to TAKE (R110). -/
def execSnapshotTake (slot : Nat) (s : State) : Host.Outcome State Fault Refusal :=
  ran (decide (slot < 6)) "SNAPSHOT_TAKE" s (s.regWrite slot 0x0100 1)

/-- Who writes a channel's doorbell: a slot through its control window (0-5; H6 and H7 have no
registers), firmware on an unowned main channel (8), the island on its own (9). -/
def State.chanDoorbell (s : State) (who c v : Nat) : State :=
  if who < 6 then (if c < 32 then s.regWrite who (0x200C + 32 * c) v else s)
  else if who = 8 ∧ c < 32 ∧ (s.chan c).slot? = none then s.modChan c (·.doorbell v)
  else if who = 9 ∧ 32 ≤ c then s.modChan c (·.doorbell v)
  else s

/-- CHANNEL_START (R152-R154, Table 3-13). -/
def execChannelStart (who ch : Nat) (s : State) : Host.Outcome State Fault Refusal :=
  ran (decide (who < 10) && decide (ch < 36)) "CHANNEL_START" s (s.chanDoorbell who ch 1)

/-- CHANNEL_EXTEND (R154, R158). -/
def execChannelExtend (who ch : Nat) (s : State) : Host.Outcome State Fault Refusal :=
  ran (decide (who < 10) && decide (ch < 36)) "CHANNEL_EXTEND" s (s.chanDoorbell who ch 2)

/-- CHANNEL_STOP (R152-R154, Table 3-13). -/
def execChannelStop (who ch : Nat) (s : State) : Host.Outcome State Fault Refusal :=
  ran (decide (who < 10) && decide (ch < 36)) "CHANNEL_STOP" s (s.chanDoorbell who ch 4)

/-- A 32-bit read by a slot: of the control window, or of an aperture, where it is no whole cell
and freezes the slot; BAR0 reads zero from 0x8000 up (R61, R63). -/
def State.regRead (s : State) (i off : Nat) : State :=
  if off < 0x8000 then (s.clearRc off).setRead i (le 4 (readReg s i off))
  else if i < 4 ∨ 0xC800 ≤ off then s.setRead i (zeros 4)
  else (s.freezeSlot i 1 off).setRead i []

/-- RC_COUNTER_READ: the read returns the field and clears it (R14, R16). -/
def execRcCounterRead (slot off : Nat) (s : State) : Host.Outcome State Fault Refusal :=
  ran (decide (slot < 6) && decide (off < 65536)) "RC_COUNTER_READ" s (s.regRead slot off)

/-- STICKY_FAULT_CLEAR: a write of ones to a sticky word (R630, R99). -/
def execStickyFaultClear (slot off : Nat) (v : Word) (s : State) :
    Host.Outcome State Fault Refusal :=
  ran (decide (slot < 6) && decide (off < 65536)) "STICKY_FAULT_CLEAR" s
    (s.regWrite slot off v.toNat)

/-- A 32-bit write to an SPI slot's apertures is no whole cell (R63). -/
def execRegisterWrite (slot off : Nat) (v : Word) (s : State) : Host.Outcome State Fault Refusal :=
  ran (decide (slot < 6) && decide (off < 65536)) "REGISTER_WRITE" s (s.regWrite slot off v.toNat)

/-! ## Resets of a PCIe function (R68, R69, R571) -/

/-- Reset the queues of a list. -/
def State.resetQueues (s : State) : List Nat → State
  | [] => s
  | q :: qs => ((s.qop q (some .reset) false).1).resetQueues qs

/-- The privileged slot is thawed by its function-level reset, no other slot is (R68, R102). -/
def State.thawIfPrivileged (s : State) (i : Nat) : State :=
  if i == s.host.privSlot && (s.slot i).frozen then s.thawSlot i else s

/-- Commands of the slot no longer wait under ORDERED, and its stage is empty (R571). -/
def State.dropWaiting (s : State) (i : Nat) : State :=
  { s with
    host := { s.host with ordered := s.host.ordered.filter fun x => x.1 / 4 != i }
    dat := { s.dat with stages := tput [] s.dat.stages i [] } }

/-- The nine queues of a slot (Table 1-8). -/
def slotQueues (i : Nat) : List Nat :=
  [4 * i, 4 * i + 1, 4 * i + 2, 4 * i + 3, 32 + 4 * i, 33 + 4 * i, 34 + 4 * i, 35 + 4 * i, 64 + i]

/-- A function-level reset of slot `i`: its nine queues are emptied, its sequence expectations and
its stage reset, and the privileged slot is thawed. -/
def State.functionReset (s : State) (i : Nat) : State :=
  ((((s.resetQueues (slotQueues i)).forgetSlot i).dropWaiting i).thawIfPrivileged i)

/-- FUNCTION_LEVEL_RESET (R68). -/
def execFunctionLevelReset (slot : Nat) (s : State) : Host.Outcome State Fault Refusal :=
  ran (decide (slot < 4)) "FUNCTION_LEVEL_RESET" s (s.functionReset slot)

/-- PERST_N_ASSERT: the four functions are reset, nothing else (R69, R53). -/
def execPerstNAssert (s : State) : Host.Outcome State Fault Refusal :=
  goOn s ((((s.functionReset 0).functionReset 1).functionReset 2).functionReset 3)

/-! ## Datagrams of H6 and H7 (R70-R75) -/

/-- A port counter of Table 5-14. -/
def State.countPort (s : State) (port ctr n : Nat) : State :=
  { s with net := { s.net with
      port := tmod NetPort.reset s.net.port port fun p =>
        { p with counters := tmod 0 p.counters ctr fun v => (v + n) % 18446744073709551616 } } }

/-- A datagram discarded and counted in the Port C counters. -/
def State.discardDatagram (s : State) (ctr : Nat) : State :=
  { s.countPort 2 ctr 1 with host := { (s.countPort 2 ctr 1).host with
      discards := s.host.discards + 1 } }

/-- The binding of a UDP slot matches a datagram's source (R70). -/
def UdpBinding.matches (b : UdpBinding) (ipver : Nat) (addr : List Byte) (sport : Nat) : Bool :=
  b.bound && decide (b.ipver = ipver) && decide (b.addr = addr ++ zeros (16 - addr.length)) &&
    (decide (b.sport = 0) || decide (b.sport = sport))

/-- Which slot a datagram is for. -/
def State.udpSlot (s : State) (ipver : Nat) (addr : List Byte) (sport : Nat) : Option Nat :=
  if (s.slot 6).udp.matches ipver addr sport then some 6
  else if (s.slot 7).udp.matches ipver addr sport then some 7 else none

/-- A wrong tag: counted, and the 64th within one second freezes the slot (R72 step 1, R75). -/
def State.authFailure (s : State) (i : Nat) : State :=
  let now := s.time.elapsed
  let s := s.modSlot i fun x => { x with
    authFail := satAdd 0xFFFFFFFF x.authFail 1
    authTimes := (x.authTimes.filter fun t => decide (now < t + second)) ++ [now] }
  if 64 ≤ (s.slot i).authTimes.length then s.freezeSlot i 4 0 else s

/-- An authentic datagram `d` for slot `i` (R72 steps 2 to 4). A wrapper that is not that of a
host-to-device command is discarded (DEDUCED, notes/assumptions/20.md). -/
def State.authDatagram (s : State) (i sport : Nat) (d : List Byte) : State :=
  let packet := (d.take (d.length - 32)).drop 12
  let seq := u32 d 4
  let floor := (s.slot i).udp.floor
  if u8 d 0 ≠ 1 ∨ 4 ≤ u8 d 1 ∨ u16 d 2 ≠ 0 then s.discardDatagram 20
  else if u32 d 8 ≠ s.host.bootCount then
    s.sendDatagram i false (u8 d 1) (replyPacket i (u16 packet 2) (u16 packet 4) Status.sequence
      (u16 packet 8) (s.genField (u16 packet 8)) [])
  else if seq ≤ floor then
    { s with host := { s.host with discards := s.host.discards + 1 } }
  else
    let s := s.modSlot i fun x => { x with udp := { x.udp with floor := seq, lastPort := sport } }
    s.pushPacket (4 * i + u8 d 1) packet

/-- A datagram to UDP port 9,624 of Port C (R70-R75). -/
def State.datagram (s : State) (ipver : Nat) (addr : List Byte) (sport : Nat) (frag : Bool)
    (d : List Byte) : State :=
  if frag then s.discardDatagram 21
  else
    match s.udpSlot ipver addr sport with
    | none => s.discardDatagram 20
    | some i =>
      let x := s.slot i
      if x.frozen && decide (x.cause = 4) then s
      else if d.length < 44 ∨ d.drop (d.length - 32) ≠
          hmacSha256 x.udp.key (d.take (d.length - 32)) then s.authFailure i
      else s.authDatagram i sport d

/-- UDP_DATAGRAM_RECEIVE (R70-R75, R111). -/
def execUdpDatagramReceive (ipver : Nat) (addr : List Byte) (sport : Nat) (frag : Bool)
    (d : List Byte) (s : State) : Host.Outcome State Fault Refusal :=
  goOn s (s.datagram ipver addr sport frag d)

/-! ## GPIO inputs (R114) -/

/-- The taken edge is one the pin's entry selects for mode 5 (Table 2-22). -/
def GpioPin.selects (x : GpioPin) (high : Bool) : Bool :=
  let rising := high != bitOf x.gfl 0
  if rising then bitOf x.gfl 2 else bitOf x.gfl 3

/-- A level has held for DEBOUNCE + 1 samples at pin `p`. -/
def State.levelTaken (s : State) (p : Nat) (high : Bool) : State :=
  let x := s.pin p
  if x.mode = 1 ∨ x.mode = 5 then
    if !x.primed then s.setPin p { x with primed := true, taken := high }
    else if x.taken = high then s
    else
      let s := s.setPin p { x with taken := high, edges := satAdd 0xFFFFFFFF x.edges 1 }
      if x.mode = 5 ∧ x.selects high then s.pulse x.line else s
  else s

/-- The pin that receives the peer's fence output; low is asserted (R585). -/
def State.fenceTaken (s : State) (p : Nat) (high : Bool) : State :=
  if s.pair.fenced && u8 s.pair.record 2 == p then
    { s with pair := { s.pair with fenceIn := !high, fenceRun := if high then 0 else s.pair.fenceRun } }
  else s

/-- GPIO_LEVEL_TAKEN (R114, R112, R585). -/
def execGpioLevelTaken (pin : Nat) (high : Bool) (s : State) : Host.Outcome State Fault Refusal :=
  ran (decide (pin < 32)) "GPIO_LEVEL_TAKEN" s ((s.levelTaken pin high).fenceTaken pin high)

/-- The end of a mode-3 pulse, once its PULSE_NS has passed. -/
def State.pulseEnds (s : State) (p : Nat) : State :=
  let x := s.pin p
  match x.pulseEnd with
  | some t =>
    if x.mode = 3 ∧ t ≤ s.time.elapsed then s.setPin p { x with out := false, pulseEnd := none }
    else s
  | none => s

/-- GPIO_PULSE_END (R114). -/
def execGpioPulseEnd (pin : Nat) (s : State) : Host.Outcome State Fault Refusal :=
  ran (decide (pin < 32)) "GPIO_PULSE_END" s (s.pulseEnds pin)

end Sys2Proof.Machine
end

