-- ==== Sys2Proof/Machine/SysOps.lean ====
section
/-!
DEFINITION. Sys2Proof/Machine/SysOps.lean: the system opcodes of Table 2-13, the GPIO opcodes of
Table 2-23 and the diagnostic opcodes of Table 15-14 that need no reset (R89, R93, R95, R101-R107,
R113, R115, R630, R634, R635).
-/
namespace Sys2Proof.Machine

/-- The sender has the level; only a host command is judged (R97). -/
def Req.hasLevel (r : Req) (s : State) (n : Nat) : Bool :=
  match r.origin with
  | .host => decide (n ≤ s.levelOf r.slot)
  | .mirror _ | .entry | .service => true

/-- The parameters of a command as sent: its target render index included (for PLEN). -/
def Req.plen (r : Req) : Nat := r.params.length

/-- SYS_NOP returns its parameters (Table 2-13). -/
def sysNopData (r : Req) (_ : State) : List Byte := r.params

def sysNopBody : Body := query sysNopData

/-- SYS_NOP (R79): with it a packet of an undefined opcode is taken and answered. -/
def execSysNop (q : Nat) (s : State) : Host.Outcome State Fault Refusal :=
  commandRow "SYS_NOP" 0x0100 sysNopBody q s

/-- PAIR of Table 2-15, from the role column of Table 14-2. -/
def PState.role (p : PState) : Nat := if p.isFore then 1 else if p.isBack then 2 else 0

/-- SYS_IDENTIFY reply (Table 2-15). -/
def identifyData (r : Req) (s : State) : List Byte :=
  le 2 0x9624 ++ slice s.otp.ident 10 2 ++ slice s.otp.ident 0 8 ++ le 4 s.sys.fwVersion
    ++ le 1 s.sys.fwBank ++ le 1 r.slot ++ le 1 (s.levelOf r.slot) ++ le 1 s.pair.state.role
    ++ le 8 s.dat.id ++ le 1 s.fab.active ++ le 1 s.host.privSlot ++ zeros 2

def sysIdentifyBody : Body := query identifyData

/-- SYS_IDENTIFY (Table 2-15). -/
def execSysIdentify (q : Nat) (s : State) : Host.Outcome State Fault Refusal :=
  commandRow "SYS_IDENTIFY" 0x0101 sysIdentifyBody q s

/-- Reply data of SYS_GET_READINESS. -/
def sysGetReadinessData (_ : Req) (s : State) : List Byte :=
  le 4 s.host.ready.toNat ++ zeros 4 ++ le 8 s.posRi

def sysGetReadinessBody : Body := query sysGetReadinessData

/-- SYS_GET_READINESS (R109). -/
def execSysGetReadiness (q : Nat) (s : State) : Host.Outcome State Fault Refusal :=
  commandRow "SYS_GET_READINESS" 0x0102 sysGetReadinessBody q s

/-- The generations of the unit IDs listed from byte `o` on. -/
def generationsOf (s : State) (p : List Byte) : Nat → List Byte
  | 0 => []
  | n + 1 => generationsOf s p n ++ le 2 (s.genField (u16 p (2 * n)))

def sysGetGenerationsBody : Body := fun _ r s =>
  if r.params.length % 2 ≠ 0 then .bad Status.badLength
  else .done s (generationsOf s r.params (r.params.length / 2))

/-- SYS_GET_GENERATIONS (R89). -/
def execSysGetGenerations (q : Nat) (s : State) : Host.Outcome State Fault Refusal :=
  commandRow "SYS_GET_GENERATIONS" 0x0103 sysGetGenerationsBody q s

/-! ## Windows (R95, R96, R106) -/

def rightsOf (w r : Bool) : Nat := 2 * b2n w + b2n r

/-- A window in the layout of Table 2-16. -/
def windowData (s : State) (i : Nat) : List Byte :=
  if i = s.host.privSlot then [3, 0, 0, 0]
  else
    let x := s.slot i
    le 1 x.level ++ le 1 x.mem.length ++ le 1 x.units.length ++ zeros 1
      ++ (x.mem.map fun m => le 8 m.base ++ le 8 m.limit ++ le 4 (rightsOf m.write m.read)
            ++ zeros 4).flatten
      ++ (x.units.map fun u => le 2 u.first ++ le 2 u.last ++ le 1 (rightsOf u.write u.read)
            ++ zeros 3).flatten

/-- Reply data of SYS_GET_WINDOW. -/
def sysGetWindowData (r : Req) (s : State) : List Byte := windowData s r.index

def sysGetWindowBody : Body := query sysGetWindowData

/-- SYS_GET_WINDOW (Table 2-13). -/
def execSysGetWindow (q : Nat) (s : State) : Host.Outcome State Fault Refusal :=
  commandRow "SYS_GET_WINDOW" 0x0104 sysGetWindowBody q s

/-- Memory range `i` of a window record. -/
def memRangeAt (p : List Byte) (i : Nat) : MemRange :=
  let o := 4 + 24 * i
  { base := u64 p o, limit := u64 p (o + 8), write := bitOf (u32 p (o + 16)) 1
    read := bitOf (u32 p (o + 16)) 0 }

/-- Unit range `j` of a window record with `m` memory ranges. -/
def unitRangeAt (p : List Byte) (m j : Nat) : UnitRange :=
  let o := 4 + 24 * m + 8 * j
  { first := u16 p o, last := u16 p (o + 2), write := bitOf (u8 p (o + 4)) 1
    read := bitOf (u8 p (o + 4)) 0 }

def memRangeOk (p : List Byte) (i : Nat) : Bool :=
  let m := memRangeAt p i
  decide (m.base % 4096 = 0) && decide ((m.limit + 1) % 4096 = 0) && decide (m.base ≤ m.limit) &&
    decide (u32 p (20 + 24 * i) < 4) && zeroAt p (24 + 24 * i) 4

def unitRangeOk (p : List Byte) (m j : Nat) : Bool :=
  let u := unitRangeAt p m j
  let o := 4 + 24 * m + 8 * j
  decide (unitClass u.first = unitClass u.last) && decide (u.first ≤ u.last) &&
    decide (u8 p (o + 4) < 4) && zeroAt p (o + 5) 3

/-- The checks of R104 and R106. -/
def windowCheck (r : Req) (s : State) : Option Nat :=
  let p := r.params
  let m := u8 p 1
  let u := u8 p 2
  firstFail
    [ (r.index == s.host.privSlot, Status.badParam),
      (decide (p.length ≠ 4 + 24 * m + 8 * u), Status.badLength),
      (decide (2 < u8 p 0) || decide (8 < m) || decide (32 < u) || !zeroAt p 3 1, Status.badParam),
      (!(List.range m).all (memRangeOk p), Status.badParam),
      (!(List.range u).all (unitRangeOk p m), Status.badParam) ]

/-- The window takes its new value and the slot's generation moves on (R105, Table 2-9). -/
def setWindow (r : Req) (s : State) : State :=
  let p := r.params
  let m := u8 p 1
  (s.modSlot r.index fun x => { x with
    level := u8 p 0, mem := (List.range m).map (memRangeAt p)
    units := (List.range (u8 p 2)).map (unitRangeAt p m) }).bumpGen r.target

def sysSetWindowBody : Body := atOnce windowCheck setWindow

/-- SYS_SET_WINDOW (R106). -/
def execSysSetWindow (q : Nat) (s : State) : Host.Outcome State Fault Refusal :=
  commandRow "SYS_SET_WINDOW" 0x0105 sysSetWindowBody q s

/-! ## Channels and bindings (R104, R107) -/

def sysAssignChannelBody : Body := fun _ r s =>
  let o := u8 r.params 0
  if 32 ≤ r.index then .deny
  else if !zeroAt r.params 1 3 || (decide (8 ≤ o) && o != 0xFF) then .bad Status.badParam
  else if (s.chan r.index).state ≠ .idle then .bad Status.busy
  else .done ((s.modChan r.index fun x => { x with owner := o }).bumpGen r.target) []

/-- SYS_ASSIGN_CHANNEL (R104). -/
def execSysAssignChannel (q : Nat) (s : State) : Host.Outcome State Fault Refusal :=
  commandRow "SYS_ASSIGN_CHANNEL" 0x0106 sysAssignChannelBody q s

/-- The binding that SYS_BIND_UDP's parameters give (Table 2-17, R107). -/
def bindingOf (p : List Byte) (old : UdpBinding) : UdpBinding :=
  { bound := true, ipver := u8 p 0, persist := bitOf (u8 p 1) 0, sport := u16 p 2
    addr := slice p 4 16, key := slice p 20 32, floor := 0, lastPort := 0, devSeq := old.devSeq }

def bindCheck (r : Req) (_s : State) : Option Nat :=
  let p := r.params
  let v := u8 p 0
  firstFail
    [ (decide (r.index < 6), Status.badParam),
      ((v != 4 && v != 6) || decide (4 ≤ u8 p 1), Status.badParam),
      (v == 4 && !(slice p 8 12).all (· == 0), Status.badParam) ]

/-- The slot takes the binding, or loses it with CLEAR; the flash key record keeps a persistent one
and drops one that is cleared (R76). -/
def bindUdp (r : Req) (s : State) : State :=
  let clear := bitOf (u8 r.params 1) 1
  let b := bindingOf r.params (s.slot r.index).udp
  let b := if clear then { UdpBinding.reset with devSeq := b.devSeq } else b
  let s := (s.modSlot r.index fun x => { x with udp := b }).bumpGen r.target
  if clear then { s with sys := { s.sys with
      keyUdp := tput UdpBinding.reset s.sys.keyUdp r.index UdpBinding.reset } }
  else if b.persist then
    { s with sys := { s.sys with
      keyUdp := tput UdpBinding.reset s.sys.keyUdp r.index { b with devSeq := 0 } } }
  else s

def sysBindUdpBody : Body := atOnce bindCheck bindUdp

/-- SYS_BIND_UDP (R107). -/
def execSysBindUdp (q : Nat) (s : State) : Host.Outcome State Fault Refusal :=
  commandRow "SYS_BIND_UDP" 0x0107 sysBindUdpBody q s

/-! ## Freezing and thawing (R101-R104) -/

def sysFreezeBody : Body := fun _ r s =>
  if unitClass r.target = 10 then
    if r.index = s.host.privSlot then .bad Status.badParam
    else
      let s := s.freezeSlot r.index 3 0
      .done s (le 2 (s.slot r.index).serial)
  else if unitClass r.target = 8 then
    if 32 ≤ r.index then .deny
    else
      let s := s.freezeChan r.index 3 0 false
      .done s (le 2 (s.chan r.index).serial)
  else
    let s := s.freezeSight 3 0
    .done s (le 2 s.net.sight.serial)

/-- SYS_FREEZE (R101, R104). -/
def execSysFreeze (q : Nat) (s : State) : Host.Outcome State Fault Refusal :=
  commandRow "SYS_FREEZE" 0x0108 sysFreezeBody q s

/-- A thaw names the freeze's serial; on a master that is not frozen it changes nothing (R102,
R104). LD0-LD3 answer only the island's service port. A PCIe privileged slot is thawed by its
function-level reset alone. -/
def sysThawBody : Body := fun _ r s =>
  let n := u16 r.params 0
  if unitClass r.target = 10 then
    let x := s.slot r.index
    if !x.frozen then .done s []
    else if x.serial ≠ n then .bad Status.sequence
    else if r.index = s.host.privSlot ∧ r.index < 4 then .bad Status.badParam
    else .done (s.thawSlot r.index) []
  else if unitClass r.target = 8 then
    let x := s.chan r.index
    if decide (32 ≤ r.index) && r.origin != .service then .deny
    else if !x.frozen then .done s []
    else if x.serial ≠ n then .bad Status.sequence
    else .done (s.thawChan r.index) []
  else
    let x := s.net.sight
    if !x.frozen then .done s []
    else if x.serial ≠ n then .bad Status.sequence
    else .done s.thawSight []

/-- SYS_THAW (R102). -/
def execSysThaw (q : Nat) (s : State) : Host.Outcome State Fault Refusal :=
  commandRow "SYS_THAW" 0x0109 sysThawBody q s

/-! ## Event filter (R93) -/

def sysSetEventFilterBody : Body := fun _ r s =>
  .done (s.modSlot r.slot fun x => { x with
    filter := (x.filter.take 1) ++ (slice r.params 1 15).map (·.toNat) }) []

/-- SYS_SET_EVENT_FILTER (R93). -/
def execSysSetEventFilter (q : Nat) (s : State) : Host.Outcome State Fault Refusal :=
  commandRow "SYS_SET_EVENT_FILTER" 0x010A sysSetEventFilterBody q s

/-! ## GPIO (R113-R115) -/

/-- The checks of R115 on a GPIO entry (Table 2-22) of 12 bytes. -/
def gpioEntryOk (e : List Byte) : Bool :=
  let m := u8 e 0
  let l := u8 e 1
  let f := u8 e 2
  let ns := u32 e 4
  let lined := decide (3 ≤ m)
  decide (m ≤ 5) && (if lined then decide (l < 64) else l == 0xFF) &&
    decide (f < 16) && (m != 5 || decide (4 ≤ f)) &&
    (if m = 2 then decide (u8 e 3 < 2) else u8 e 3 == 0) &&
    (if m = 3 then decide (20 ≤ ns) && decide (ns ≤ 1000000000) else ns == 0) &&
    (m == 1 || m == 5 || u16 e 8 == 0) && zeroAt e 10 2

def gpioCheck (r : Req) (_s : State) : Option Nat :=
  firstFail
    [ (decide (32 ≤ u8 r.params 0) || !zeroAt r.params 1 3, Status.badParam),
      (!gpioEntryOk (r.params.drop 4), Status.badParam) ]

/-- The mode samples its input. -/
def samples (m : Nat) : Bool := m == 1 || m == 5

/-- A pin takes an entry (R113, R114). -/
def GpioPin.configure (x : GpioPin) (e : List Byte) (gen : Nat) : GpioPin :=
  let m := u8 e 0
  let same := m == x.mode
  { mode := m, line := u8 e 1, gfl := u8 e 2, level := u8 e 3, pulseNs := u32 e 4
    debounce := u16 e 8, taken := x.taken, edges := x.edges
    primed := x.primed && samples x.mode && samples m
    out := if m = 2 then u8 e 3 == 1 else same && x.out
    pulseEnd := if m = 3 && same then x.pulseEnd else none
    gen := gen }

def setGpio (r : Req) (s : State) : State :=
  let p := u8 r.params 0
  s.setPin p ((s.pin p).configure (r.params.drop 4) (s.genOf 0xF000))

def sysGpioConfigBody : Body := atOnce gpioCheck setGpio

/-- SYS_GPIO_CONFIG (R113-R115). -/
def execSysGpioConfig (q : Nat) (s : State) : Host.Outcome State Fault Refusal :=
  commandRow "SYS_GPIO_CONFIG" 0x0170 sysGpioConfigBody q s

/-- The status of every pin (Table 2-23). -/
def gpioData (s : State) : List Byte :=
  ((List.range 32).map fun p =>
    let x := s.pin p
    le 1 (b2n x.taken) ++ le 1 x.mode ++ le 1 x.line ++ zeros 1 ++ le 4 x.edges).flatten

/-- Clear the edge count of each pin of a list. -/
def State.clearEdges (s : State) : List Nat → State
  | [] => s
  | p :: ps => (s.setPin p { s.pin p with edges := 0 }).clearEdges ps

def sysGpioStatusBody : Body := fun _ r s =>
  let c := u8 r.params 0
  if 2 ≤ c ∨ zeroAt r.params 1 3 = false then .bad Status.badParam
  else if c = 1 then
    (if r.hasLevel s 2 then .done (s.clearEdges (List.range 32)) (gpioData s) else .deny)
  else .done s (gpioData s)

/-- SYS_GPIO_STATUS (R115). -/
def execSysGpioStatus (q : Nat) (s : State) : Host.Outcome State Fault Refusal :=
  commandRow "SYS_GPIO_STATUS" 0x0171 sysGpioStatusBody q s

/-! ## Diagnostics (R630, R634, R635) -/

/-- The 64 words of 0x4000-0x40FF. -/
def faultWords (s : State) : List Byte :=
  ((List.range 64).map fun i => le 4 (stickyReg s.sticky (0x4000 + 4 * i))).flatten

/-- Reply data of DIAG_FAULTS. -/
def diagFaultsData (_ : Req) (s : State) : List Byte := faultWords s

def diagFaultsBody : Body := query diagFaultsData

/-- DIAG_FAULTS (R630). -/
def execDiagFaults (q : Nat) (s : State) : Host.Outcome State Fault Refusal :=
  commandRow "DIAG_FAULTS" 0x0D00 diagFaultsBody q s

/-- Up to `n` held entries of the main event history from entry number `first` on, oldest first. -/
def historyData (s : State) (first n : Nat) : List Byte :=
  let held := s.sys.history.filter fun h => decide ((h.1 + 65536 - first) % 65536 < 32768)
  ((held.take n).map fun h => h.2.cell h.1).flatten

def diagLogReadBody : Body := fun _ r s =>
  let n := u16 r.params 2
  if n = 0 ∨ 64 < n then .bad Status.badParam
  else .done s (historyData s (u16 r.params 0) n)

/-- DIAG_LOG_READ (R635). -/
def execDiagLogRead (q : Nat) (s : State) : Host.Outcome State Fault Refusal :=
  commandRow "DIAG_LOG_READ" 0x0D01 diagLogReadBody q s

def diagClearBody : Body := fun _ r s =>
  let off := 0x4000 + u8 r.params 0
  if zeroAt r.params 1 3 = false then .bad Status.badParam
  else if isW1c off then
    .done { s with sticky := s.sticky.w1c off (BitVec.ofNat 32 (u32 r.params 4)) } []
  else if isRcWord off then .done { s with sticky := s.sticky.clearRc off } []
  else .bad Status.badParam

/-- DIAG_CLEAR (R634). -/
def execDiagClear (q : Nat) (s : State) : Host.Outcome State Fault Refusal :=
  commandRow "DIAG_CLEAR" 0x0D02 diagClearBody q s

end Sys2Proof.Machine
end

