-- ==== Sys2Proof/Machine/Traverse.lean ====
section
/-!
DEFINITION. Sys2Proof/Machine/Traverse.lean: the traverse engines: granting a channel, fetching and
checking a station, moving its data, writing its STATUS back, and every error outcome of Table
3-15 (R98, R144-R162).
-/
namespace Sys2Proof.Machine

/-! ## Stations -/

def Station.mode (x : Station) : Nat := bitsOf x.control.toNat 19 16
def Station.burst (x : Station) : Nat := bitsOf x.control.toNat 23 20
def Station.periph (x : Station) : Nat := bitsOf x.control.toNat 15 8
def Station.line (x : Station) : Nat := bitsOf x.control.toNat 29 24
def Station.evt (x : Station) : Bool := bitOf x.control.toNat 30
def Station.last (x : Station) : Bool := bitOf x.control.toNat 31

/-- The station that 32 bytes spell (Table 3-6). -/
def parseStation (off now : Nat) (b : List Byte) : Station :=
  { offset := off, control := BitVec.ofNat 32 (u32 b 0), src := u64 b 8, dst := u64 b 16
    length := u32 b 24, next := u32 b 28, start := now, result := none }

/-- Window base of a channel. -/
def Channel.tbase (x : Channel) : Nat := x.tbaseHi * 4294967296 + x.tbaseLo

/-- Largest burst in bytes (Table 3-7). -/
def Station.burstBytes (x : Station) : Nat := 64 * 2 ^ x.burst

/-- LENGTH breaks the mode's rule (Table 3-9). -/
def lengthBad (s : State) (x : Station) : Bool :=
  match x.mode with
  | 1 => decide (x.length % 4 ≠ 0)
  | 2 =>
    let b := bankCells (x.dst % 256) (s.queue (x.dst % 256))
    decide (x.length % 64 ≠ 0) || decide (x.length < 64) ||
      (b != 0 && decide (64 * (b - 2) < x.length))
  | 3 => decide (x.length % 64 ≠ 0)
  | _ => false

/-- The station fails R145. -/
def formatBad (s : State) (x : Station) : Bool :=
  decide (7 ≤ x.burst) || decide (6 ≤ x.mode) ||
    (decide (4 ≤ x.mode) && decide (4 ≤ x.periph)) ||
    (x.mode == 1 && decide (x.src ≥ 4294967296)) ||
    (x.mode == 2 && decide (256 ≤ x.dst)) || (x.mode == 3 && decide (256 ≤ x.src)) ||
    decide (16777216 ≤ x.length) || lengthBad s x

/-- The owner's window grants an access (R95, R96, R98); a channel with no owner has no window. -/
def ownerMay (s : State) (c : Nat) (write : Bool) (a n : Nat) : Bool :=
  match (s.chan c).slot? with
  | none => true
  | some i => decide (i = s.host.privSlot) || windowGrants (s.slot i).mem write a n

/-- The owner may push to queue `q` by traverse (R148). -/
def mayPush (s : State) (c q : Nat) : Bool :=
  match (s.chan c).slot? with
  | none => true
  | some i => decide (q < 32 ∧ q / 4 = i) ||
      (decide (128 ≤ q ∧ q < 240) && decide ((s.queue q).producer = 0x100 + c))

/-- The owner may pop queue `q` by traverse (R148). -/
def mayPop (s : State) (c q : Nat) : Bool :=
  match (s.chan c).slot? with
  | none => true
  | some i => decide (32 ≤ q ∧ q < 64 ∧ (q - 32) / 4 = i) || decide (q = 64 + i) ||
      (decide (128 ≤ q ∧ q < 240) && decide ((s.queue q).consumer = 0x100 + c))

/-- Source, destination and queue lie inside the owner's window (R98, R148). -/
def windowOk (s : State) (c : Nat) (x : Station) : Bool :=
  let n := x.length
  match x.mode with
  | 0 => n == 0 || (ownerMay s c false x.src n && ownerMay s c true x.dst n)
  | 1 => n == 0 || ownerMay s c true x.dst n
  | 2 => ownerMay s c false x.src n && mayPush s c x.dst
  | 3 => mayPop s c x.src && ownerMay s c true x.dst n
  | 4 => n == 0 || ownerMay s c true x.dst n
  | _ => n == 0 || ownerMay s c false x.src n

/-! ## Stopping with a fault (R162) -/

/-- A fetch or write-back fault: the channel halts and its owner is told (Table 3-15, R162). -/
def State.fetchFault (s : State) (c code off : Nat) : State :=
  let x := s.chan c
  let s := s.setChan c { x with
    state := .fetchFault, fault := code, station := none, reread := false, holdAfter := false }
  let s := s.releaseEngine c
  let whom := (x.slot?).getD s.host.privSlot
  s.event 0x0802 Sev.error 0x08 (0x8000 + c) (le 1 c ++ zeros 1 ++ le 2 code ++ le 4 off)
    (.slot whom)

/-! ## Where a channel goes when a station is finished (R153, R158, Table 3-13) -/

def Channel.advance (x : Channel) (st : Station) : Channel :=
  let y := { x with
    station := none, lastLast := st.last, nextFetch := st.next }
  if x.state = .stopping then { y with state := .idle, holdAfter := false }
  else if x.holdAfter then { y with state := .parked, held := true, holdAfter := false }
  else if st.last then
    (if x.extPending then { y with state := .fetch, reread := true } else { y with state := .parked })
  else { y with state := .fetch }

/-- A channel keeps its engine only while it fetches or runs (R155). -/
def State.settleChan (s : State) (c : Nat) (x : Channel) : State :=
  let s := s.setChan c x
  if x.state == .fetch || x.state == .run || x.state == .stopping then s else s.releaseEngine c

/-- STATUS bits (Table 3-8). -/
def statusWord (bad short viol : Bool) (err : Nat) : Nat :=
  2 ^ 31 + b2n bad * 2 ^ 30 + b2n short * 2 ^ 29 + b2n viol * 2 ^ 28 + err

/-- Count a finished station (Table 3-11). -/
def Channel.count (x : Channel) (status : Nat) : Channel :=
  { x with
    doneCount := (x.doneCount + 1) % 4294967296
    badCt := satAdd 0xFFFF x.badCt (b2n (bitOf status 30))
    shortCt := satAdd 0xFFFF x.shortCt (b2n (bitOf status 29)) }

/-- Write a station's STATUS, and its LENGTH where given, back (R98, R144, R160). The answer is none
where the write-back was done, else how the channel stops: a window violation or a bus error. -/
def State.writeBack (s : State) (c : Nat) (st : Station) (status : Nat) (len : Option Nat) :
    Except (Option Nat) State :=
  let base := (s.chan c).tbase + st.offset
  if !ownerMay s c true (base + 4) 4 || (len.isSome && !ownerMay s c true (base + 24) 4) then
    .error none
  else
    let e := if busFault s c true (base + 4) 4 ≠ 0 then busFault s c true (base + 4) 4
      else if len.isSome then busFault s c true (base + 24) 4 else 0
    if e ≠ 0 then .error (some e)
    else
      let s := match len with
        | some n => s.busWrite c (base + 24) (le 4 n)
        | none => s
      .ok (s.busWrite c (base + 4) (le 4 status))

/-- Finish a station: write its STATUS back, count it, pulse its line where it finished clean with
EVT set, and move the channel on (R158, R160, Table 3-15). -/
def State.finishStation (s : State) (c : Nat) (st : Station) (status : Nat) (len : Option Nat) :
    State :=
  match s.writeBack c st status len with
  | .error none =>
    (s.modChan c fun x => { x with station := none }).freezeChan c 2
      (((s.chan c).tbase + st.offset + 4) % 4294967296) true
  | .error (some e) => s.fetchFault c e st.offset
  | .ok s =>
    let s := s.modChan c (·.count status)
    let clean := !bitOf status 30 && !bitOf status 28
    let s := if st.evt && clean then s.pulse st.line else s
    s.settleChan c ((s.chan c).advance st)

/-- A station outside its owner's window: written DONE and VIOLATION, and the channel freezes with
cause 0x2 (R98, Table 3-15). -/
def State.violate (s : State) (c : Nat) (st : Station) : State :=
  let info := (if st.mode = 0 ∧ ownerMay s c false st.src st.length then st.dst
    else if st.mode = 1 ∨ st.mode = 4 then st.dst
    else if st.mode = 2 ∧ ownerMay s c false st.src st.length then st.dst
    else if st.mode = 3 ∧ mayPop s c st.src then st.dst
    else st.src) % 4294967296
  let s := match s.writeBack c st (statusWord false false true Bus.window) none with
    | .ok t => t.modChan c (·.count (statusWord false false true Bus.window))
    | .error _ => s
  (s.modChan c fun x => { x with station := none, nextFetch := st.next, lastLast := st.last }
    ).freezeChan c 2 info true

/-! ## Granting and fetching -/

/-- The first channel of a list in WAIT (R155). -/
def State.firstWaiting (s : State) : List Nat → Option Nat
  | [] => none
  | c :: cs => if (s.chan c).state = .wait then some c else s.firstWaiting cs

/-- Search order after the channel last granted: `base` .. `base + n - 1` (R155, R156). -/
def grantOrder (last : Option Nat) (base n : Nat) : List Nat :=
  match last with
  | none => (List.range n).map (base + ·)
  | some l => (List.range n).map fun i => base + (l - base + 1 + i) % n

/-- A free engine grants the next channel in WAIT. -/
def State.grant (s : State) (island : Bool) : State :=
  let t := s.trav
  let order := if island then grantOrder t.lastGrantL 32 4 else grantOrder t.lastGrant 0 32
  let busy := if island then t.busyL else t.busy
  match busy, s.firstWaiting order with
  | none, some c =>
    let t := if island then { t with busyL := some c, lastGrantL := some c }
      else { t with busy := some c, lastGrant := some c }
    ({ s with trav := t }).modChan c fun x => { x with state := .fetch }
  | _, _ => s

/-- CHANNEL_GRANT (R155, R156). -/
def execChannelGrant (island : Bool) (s : State) : Host.Outcome State Fault Refusal :=
  goOn s (s.grant island)

/-- What a fetched station goes on to: FORMAT, ACCESS, a violation, or RUN (R98, R145, R147). -/
def State.judgeStation (s : State) (c : Nat) (st : Station) : State :=
  if formatBad s st then s.finishStation c st (statusWord true false false Bus.format) none
  else if decide (4 ≤ st.mode) && (s.chan c).slot?.isSome then
    s.finishStation c st (statusWord true false false Bus.access) none
  else if !windowOk s c st then s.violate c st
  else s.modChan c fun x => { x with
    station := some st, state := if x.state = .stopping then .stopping else .run }

/-- Fetch the station at the channel's next offset. -/
def State.fetchStation (s : State) (c : Nat) : State :=
  let x := s.chan c
  let off := x.nextFetch
  let a := x.tbase + off
  let due := (x.state == .fetch || x.state == .stopping) && !x.reread && x.station.isNone
  if !due then s
  else if off % 32 ≠ 0 then s.fetchFault c Bus.format off
  else if !ownerMay s c false a 32 then
    (s.modChan c fun x => { x with current := off }).freezeChan c 2 (a % 4294967296) true
  else if busFault s c false a 32 ≠ 0 then
    (s.modChan c fun x => { x with current := off }).fetchFault c (busFault s c false a 32) off
  else
    let st := parseStation off s.time.elapsed (s.chanRead c a 32)
    let s := s.modChan c fun x => { x with current := off, extPending := false }
    s.judgeStation c st

/-- STATION_FETCH (R144, R145, R147, R148, R98). -/
def execStationFetch (ch : Nat) (s : State) : Host.Outcome State Fault Refusal :=
  ran (decide (ch < 36)) "STATION_FETCH" s (s.fetchStation ch)

/-- Re-read the CONTROL word of the channel's tail (R158). -/
def State.rereadControl (s : State) (c : Nat) : State :=
  let x := s.chan c
  let a := x.tbase + x.current
  let due := (x.state == .fetch || x.state == .stopping) && x.reread
  if !due then s
  else if !ownerMay s c false a 4 then
    (s.modChan c fun x => { x with reread := false }).freezeChan c 2 (a % 4294967296) true
  else if busFault s c false a 4 ≠ 0 then s.fetchFault c (busFault s c false a 4) x.current
  else
    let last := bitOf (leNat (s.chanRead c a 4)) 31
    let y := { x with reread := false, extPending := false, lastLast := last }
    let y := if x.state = .stopping then { y with state := .idle, holdAfter := false }
      else if x.holdAfter then { y with state := .parked, held := true, holdAfter := false }
      else if last then { y with state := .parked } else y
    s.settleChan c y

/-- CONTROL_WORD_REREAD (R158, Table 3-14). -/
def execControlWordReread (ch : Nat) (s : State) : Host.Outcome State Fault Refusal :=
  ran (decide (ch < 36)) "CONTROL_WORD_REREAD" s (s.rereadControl ch)

/-! ## Moving data -/

/-- What the data moves of a station came to: the state, bytes moved, error code or 0. -/
structure Moved where
  s     : State
  bytes : Nat
  err   : Nat

/-- Bytes of the next burst: no burst crosses a destination boundary (R146). -/
def nextBurst (size dst left : Nat) : Nat := min left (size - dst % size)

/-- Copy burst by burst (R146). -/
def copyBursts (s : State) (c size src dst left done : Nat) : Nat → Moved
  | 0 => { s := s, bytes := done, err := 0 }
  | fuel + 1 =>
    if left = 0 then { s := s, bytes := done, err := 0 }
    else
      let n := nextBurst size dst left
      let r := busRun s c false src n
      let w := busRun s c true dst n
      let m := min r.1 w.1
      let s' := s.busWrite c dst (s.chanRead c src m)
      if m = n then copyBursts s' c size (src + n) (dst + n) (left - n) (done + n) fuel
      else { s := s', bytes := done + m, err := if r.1 ≤ w.1 then r.2 else w.2 }

/-- Write bytes at the destination as far as no bus error stops them. -/
def putBytes (s : State) (c dst : Nat) (d : List Byte) : Moved :=
  let w := busRun s c true dst d.length
  { s := s.busWrite c dst (d.take w.1), bytes := w.1, err := w.2 }

/-- The word a FILL station writes, repeated over `n` bytes. -/
def fillBytes (v n : Nat) : List Byte := ((List.range ((n + 3) / 4)).map fun _ => le 4 v).flatten.take n

/-- A push of one cell would be accepted now (Table 3-2 rows 1 to 5). -/
def pushAccepted (q : Nat) (x : Queue) : Bool :=
  let b := bankCells q x
  b != 0 && x.copiesAgree && !x.discarding && decide (x.openLen < b - 2) &&
    !(x.bank x.pushBank).sealed && decide ((x.bank x.pushBank).cells.length < b - 1)

/-- Push a packet's cells until one is refused (R149): 0, or QREFUSED. -/
def pushStation (s : State) (q : Nat) : List (List Byte) → State × Nat
  | [] => (s, 0)
  | cell :: cells =>
    let ok := pushAccepted q (s.queue q)
    let op := if cells = [] then PushOp.pushCommit cell else PushOp.push cell
    let s := (s.qop q (some op) false).1
    if ok then pushStation s q cells
    else ((s.qop q (some .abort) false).1, Bus.qrefused)

/-- The outcome of a station: state, STATUS, and LENGTH to write back. -/
structure Outcome where
  s      : State
  status : Nat
  len    : Option Nat

def Moved.outcome (m : Moved) (wb : Bool) : Outcome :=
  { s := m.s, status := statusWord (m.err != 0) false false m.err
    len := if wb then some m.bytes else none }

/-- QPUSH of the first `n` bytes; `stop` is the code that ends it early, or 0 (R149). -/
def runPush (s : State) (c : Nat) (st : Station) (n stop : Nat) : Outcome :=
  let q := st.dst % 256
  let r := busRun s c false st.src n
  let cells := toCells (s.chanRead c st.src (r.1 / 64 * 64))
  let err := if r.1 < n then r.2 else stop
  if err = 0 then
    let p := pushStation s q cells
    { s := p.1, status := statusWord (p.2 != 0) false false p.2, len := none }
  else
    let s' := cells.foldl (fun t cell => (t.qop q (some (.push cell)) false).1) s
    { s := (s'.qop q (some .abort) false).1, status := statusWord true false false err, len := none }

/-- QPOP with at most `n` bytes written before `stop` ends the writes (R150): the whole packet
leaves its queue. -/
def runPop (s : State) (c : Nat) (st : Station) (n stop : Nat) : Outcome :=
  let r := (s.popPacket (st.src % 256))
  let p := r.2
  let m := putBytes r.1 c st.dst (p.take (min n st.length))
  let err := if m.err ≠ 0 then m.err else if stop ≠ 0 then stop
    else if st.length < p.length then Bus.truncated else 0
  { s := m.s, status := statusWord (err != 0) false false err, len := some m.bytes }

/-- The peripheral takes bytes. -/
def State.toPeriph (s : State) (p : Nat) (d : List Byte) : State :=
  { s with trav := { s.trav with periph := tput [] s.trav.periph p d } }

/-- Run a station's data up to `n` bytes, ended by code `stop` unless that is 0; `d` is what a PIN
peripheral supplies (Table 3-9). -/
def runStation (s : State) (c : Nat) (st : Station) (d : List Byte) (n stop : Nat) : Outcome :=
  let n := min n st.length
  let ended := fun (m : Moved) => if m.err = 0 then { m with err := stop } else m
  match st.mode with
  | 0 => (ended (copyBursts s c st.burstBytes st.src st.dst n 0 (n + 1))).outcome false
  | 1 => (ended (putBytes s c st.dst (fillBytes st.src n))).outcome false
  | 2 => runPush s c st n stop
  | 3 => runPop s c st n stop
  | 4 => (ended (putBytes s c st.dst ((d ++ zeros (n - d.length)).take n))).outcome true
  | _ =>
    let r := busRun s c false st.src n
    (ended { s := s.toPeriph st.periph (s.chanRead c st.src r.1), bytes := r.1, err := r.2 }).outcome
      false

/-! ## Completion -/

/-- Highest sequence number the sight line has given a frame, waiting frames counted. -/
def State.lastSent (s : State) : Nat := s.net.sight.nextSeq - 1 + s.net.sight.backlog.length

/-- The sight line still owes an acknowledgement up to frame `n`. -/
def State.awaits (s : State) (n : Nat) : Bool :=
  s.pair.copying && s.isReady Rdy.sight &&
    ((s.net.sight.unacked.any fun u => decide (u.1 ≤ n)) || decide (s.net.sight.nextSeq ≤ n))

/-- End a station with an outcome: where its writes were mirrored, STATUS waits for their
acknowledgement (R594). -/
def State.complete (s : State) (c : Nat) (st : Station) (o : Outcome) : State :=
  if o.s.lastSent ≠ s.lastSent ∧ o.s.awaits o.s.lastSent then
    o.s.modChan c fun x => { x with
      station := some { st with result := some (o.status, o.len, o.s.lastSent) } }
  else o.s.finishStation c st o.status o.len

/-- Whole bursts out of `n` bytes from the start of a station: where SYS_FREEZE stops it. -/
def Station.burstFloor (st : Station) (n : Nat) : Nat :=
  let b := st.burstBytes
  let first := nextBurst b st.dst st.length
  if st.length ≤ n then st.length else if n < first then first else first + (n - first) / b * b

/-- SYS_FREEZE stops a station after its current burst, whichever that is: a free value (R103, R149,
R150, Table 3-15). The channel goes to FROZEN, or to IDLE where it was thawed meanwhile. -/
def State.abortStation (s : State) (c : Nat) (st : Station) (d : List Byte) : State :=
  let n := st.burstFloor (Config.freeNat s.freeCtr % (st.length + 1))
  let o := runStation s.bump c st d n Bus.abort
  let t := match o.s.writeBack c st (statusWord true false false Bus.abort) o.len with
    | .ok t => t.modChan c (·.count (statusWord true false false Bus.abort))
    | .error _ => o.s
  (t.modChan c fun x => { x with
    station := none, state := if x.thawed then .idle else .frozen, thawed := false
    holdAfter := false, extPending := false, lastLast := st.last, nextFetch := st.next
    }).releaseEngine c

/-- A running station ends on its own: with its data moved, or with what a freeze left. -/
def State.completeStation (s : State) (c : Nat) (d : List Byte) : State :=
  let x := s.chan c
  match x.station with
  | none => s
  | some st =>
    match st.result with
    | some r => if s.awaits r.2.2 then s else s.finishStation c st r.1 r.2.1
    | none =>
      if x.frozen || x.thawed then s.abortStation c st d
      else s.complete c st (runStation s c st d st.length 0)

/-- STATION_COMPLETE (R144, R146, R149, R150, R160, R103, R594). -/
def execStationComplete (ch : Nat) (d : List Byte) (s : State) : Host.Outcome State Fault Refusal :=
  ran (decide (ch < 36)) "STATION_COMPLETE" s (s.completeStation ch d)

/-- A station ends early with an error code after `moved` bytes; a station fetch or write-back ends
in FETCH_FAULT with it (R161, Table 3-15). -/
def State.breakStation (s : State) (c code moved : Nat) (d : List Byte) : State :=
  let x := s.chan c
  match x.station with
  | some st =>
    if x.frozen || x.thawed then s.abortStation c st d
    else if st.result.isSome then s
    else s.complete c st (runStation s c st d moved code)
  | none =>
    if x.state = .fetch then
      s.fetchFault c code (if x.reread then x.current else x.nextFetch)
    else s

/-- An ECC error of a word (R631): counted, recorded, and its sticky bit set. -/
def State.eccError (s : State) (uncorrectable : Bool) (a : Nat) : State :=
  let k := s.sticky
  let long := isLong a
  let bit := if uncorrectable then (if long then 3 else 1) else if long then 2 else 0
  let k := { k with memory := setBit k.memory bit true }
  { s with
      sticky :=
      if uncorrectable then { k with eccUe := satAdd 0xFFFFFFFF k.eccUe 1, ueAddr := a }
      else { k with eccCe := satAdd 0xFFFFFFFF k.eccCe 1 } }

/-- Address of the beat a station reads after `moved` bytes, or of its fetch. -/
def beatAddress (x : Channel) (moved : Nat) : Nat :=
  match x.station with
  | some st => st.src + moved
  | none => x.tbase + (if x.reread then x.current else x.nextFetch)

/-- A bus error on a data beat, by its code in Table 3-8; code 0 is a corrected ECC error, which the
station outlives (R631). -/
def State.busErrorBeat (s : State) (c code moved : Nat) : State :=
  let a := beatAddress (s.chan c) moved
  let word := a / 8 * 8
  let moving := (s.chan c).station.isSome || (s.chan c).state == .fetch
  if !moving then s
  else if code = 0 then s.eccError false word
  else
    let s := if code = Bus.ecc then s.eccError true word else s
    s.breakStation c code moved []

/-- DATA_BEAT_BUS_ERROR (R161, R38-R41, R631, Table 3-15): codes 0 to 4. -/
def execDataBeatBusError (ch code moved : Nat) (s : State) : Host.Outcome State Fault Refusal :=
  ran (decide (ch < 36)) "DATA_BEAT_BUS_ERROR" s
    (if code ≤ 4 then s.busErrorBeat ch code moved else s)

/-- DEVICE_TARGET_TIMEOUT: a target silent for 100 us gives TIMEOUT (R161). -/
def execDeviceTargetTimeout (ch moved : Nat) (s : State) : Host.Outcome State Fault Refusal :=
  ran (decide (ch < 36)) "DEVICE_TARGET_TIMEOUT" s (s.breakStation ch Bus.timeout moved [])

/-- The beat after `moved` bytes reads host memory. -/
def readsHost (x : Channel) (moved : Nat) : Bool := isHostMem (beatAddress x moved)

/-- PCIE_COMPLETION_TIMEOUT: a host-memory read unanswered for 50 ms gives TIMEOUT (R161). -/
def execPcieCompletionTimeout (ch moved : Nat) (s : State) : Host.Outcome State Fault Refusal :=
  ran (decide (ch < 36)) "PCIE_COMPLETION_TIMEOUT" s
    (if readsHost (s.chan ch) moved then s.breakStation ch Bus.timeout moved [] else s)

/-! ## Peripherals (R161, Table 3-15) -/

/-- The channel's station, if it moves data with a peripheral. -/
def State.periphStation (s : State) (c : Nat) : Option Station :=
  match (s.chan c).station with
  | some st => if 4 ≤ st.mode ∧ st.result = none then some st else none
  | none => none

/-- A peripheral that has not requested within 1 ms of the station's start. -/
def State.requestTimeout (s : State) (c : Nat) : State :=
  match s.periphStation c with
  | some st =>
    if st.start + milli ≤ s.time.elapsed then s.breakStation c Bus.timeout 0 [] else s
  | none => s

/-- PERIPHERAL_REQUEST_TIMEOUT (R161). -/
def execPeripheralRequestTimeout (ch : Nat) (s : State) : Host.Outcome State Fault Refusal :=
  ran (decide (ch < 36)) "PERIPHERAL_REQUEST_TIMEOUT" s (s.requestTimeout ch)

/-- A peripheral that withdraws: the station finishes SHORT with LENGTH as the bytes it supplied or
accepted; during a burst, the words it could not supply are written as zero. -/
def State.withdraw (s : State) (c : Nat) (d : List Byte) (taken : Nat) (inBurst : Bool) : State :=
  match s.periphStation c with
  | none => s
  | some st =>
    let n := min st.length (if st.mode = 4 then d.length else taken)
    let out := if inBurst then st.burstFloor (n + st.burstBytes - 1) else n
    let o := runStation s c st d out 0
    let short := bitOf o.status 30 == false
    s.complete c st { o with
      status := if short then statusWord false true false 0 else o.status, len := some n }

/-- PERIPHERAL_WITHDRAW (Table 3-15). -/
def execPeripheralWithdraw (ch : Nat) (d : List Byte) (taken : Nat) (s : State) :
    Host.Outcome State Fault Refusal :=
  ran (decide (ch < 36)) "PERIPHERAL_WITHDRAW" s (s.withdraw ch d taken true)

/-- PERIPHERAL_RETURN_TIMEOUT (Table 3-15). -/
def execPeripheralReturnTimeout (ch : Nat) (d : List Byte) (taken : Nat) (s : State) :
    Host.Outcome State Fault Refusal :=
  ran (decide (ch < 36)) "PERIPHERAL_RETURN_TIMEOUT" s (s.withdraw ch d taken false)

end Sys2Proof.Machine
end

