-- ==== Sys2Proof/Machine/Net.lean ====
section
/-!
DEFINITION. Sys2Proof/Machine/Net.lean: the network ports' settings, counters, rules, wake patterns,
PAUSE and low-power idle, the field bus and its roll call, and the sight line's transport (R208-
R249, Tables 5-1 to 5-17).
-/
namespace Sys2Proof.Machine

/-! ## Ports -/

def State.port (s : State) (p : Nat) : NetPort := tget NetPort.reset s.net.port p

def State.netMod (s : State) (f : NetPart → NetPart) : State := { s with net := f s.net }

def State.modPort (s : State) (p : Nat) (f : NetPort → NetPort) : State :=
  s.netMod fun n => { n with port := tmod NetPort.reset n.port p f }

/-! Counter numbers (Table 5-14). -/
namespace Ctr
def rxFrames : Nat := 0
def rxBytes : Nat := 1
def txFrames : Nat := 2
def txBytes : Nat := 3
def runt : Nat := 4
def oversize : Nat := 5
def fcsErr : Nat := 6
def queueDrop : Nat := 7
def vlanDrop : Nat := 8
def addrDrop : Nat := 9
def noMatch : Nat := 10
def macCtrlDrop : Nat := 11
def pauseRx : Nat := 12
def pauseIgnored : Nat := 13
def lateDrop : Nat := 14
def farDrop : Nat := 15
def tsOverflow : Nat := 16
def lpiEntries : Nat := 17
def lpiRxEntries : Nat := 18
def wakeMatch : Nat := 19
def collisions : Nat := 22
def excessColl : Nat := 23
def beaconLoss : Nat := 24
def appCrc : Nat := 25
def sightForeign : Nat := 26
def sightOoo : Nat := 27
def sightRetrans : Nat := 28
def staleGen : Nat := 29
end Ctr

/-- The counters a port has, in the order of Table 5-14. -/
def portCounters (p : Nat) : List Nat :=
  [0, 1, 2, 3, 4, 5, 6, 7, 8, 9, 10] ++ (if p < 3 then [11, 12, 13] else [])
    ++ (if p < 4 then [14, 15, 16] else []) ++ (if p < 3 then [17, 18, 19] else [])
    ++ (if p = 2 then [20, 21] else []) ++ (if p = 4 then [22, 23, 24, 25] else [])
    ++ (if p = 3 then [26, 27, 28, 29] else [])

/-- A port's MAC address (R208): bases 0 to 3 of OTP, Port S with the locally administered bit. -/
def State.macOf (s : State) (p : Nat) : List Byte :=
  let base := slice s.otp.ident (0x10 + 6 * (if p < 3 then p else 3)) 6
  if p = 3 then
    match base with
    | b :: rest => (b ||| 2) :: rest
    | [] => []
  else base

/-- Speed of a mode in Mb/s (Table 5-1, Table 5-16). -/
def modeMbps (port mode : Nat) : Nat :=
  if port = 3 then 25000 else if port = 4 then 10
  else
    match mode with
    | 0 => 10000 | 1 => 5000 | 2 => 2500 | 3 => 2500 | 4 => 1000 | 0x10 => 1000 | 0x11 => 100
    | _ => 1000

/-- MAXFRAME of a port (Table 5-1). -/
def State.maxFrame (s : State) (p : Nat) : Nat :=
  if p < 2 then (s.port p).maxFrame else if p = 3 then 9022 else 1522

/-- READY bit of a port. -/
def portReadyBit (p : Nat) : Nat :=
  match p with
  | 0 => Rdy.portA | 1 => Rdy.portB | 2 => Rdy.portC | 3 => Rdy.sight | _ => Rdy.field

/-! ## NET_PORT_CONFIG, status and counters (R209, R210, R249, Tables 5-15, 5-16) -/

def portModeOk (p m : Nat) : Bool :=
  m == 0xFF || (if p = 2 then m == 0x10 || m == 0x11 else decide (m ≤ 4))

def vidsOk (b : List Byte) (n : Nat) : Bool :=
  (List.range 16).all fun i => if i < n then decide (u16 b (8 + 2 * i) < 4096) else u16 b (8 + 2 * i) == 0

def portConfigBad (b : List Byte) : Bool :=
  let p := u8 b 0
  let m := u8 b 1
  let f := u8 b 2
  let mf := u16 b 4
  let lpi := u16 b 6
  decide (2 < p) || !portModeOk p m || decide (32 ≤ f) || decide (16 < u8 b 3) ||
    (if p = 2 then mf != 1522 else decide (mf < 1522) || decide (9022 < mf)) ||
    lpi == 0 || decide (1000 < lpi) || !vidsOk b (u8 b 3) ||
    (bitOf f 1 && p != 2 && m != 1 && m != 2)

/-- A port takes its settings; a change of mode restarts its link (R210). -/
def State.configPort (s : State) (b : List Byte) : State :=
  let p := u8 b 0
  let restart := (s.port p).mode != u8 b 1
  let s := s.modPort p fun x => { x with
    mode := u8 b 1, pflags := u8 b 2, maxFrame := u16 b 4, lpiIdle := u16 b 6
    vids := (List.range (u8 b 3)).map fun i => u16 b (8 + 2 * i)
    link := x.link && !restart, lpi := x.lpi && !restart, tw := if restart then none else x.tw }
  if restart then s.setReady (portReadyBit p) false else s

def netPortConfigBody : Body := atOnce
  (fun r _ => firstFail [(portConfigBad r.params, Status.badParam)])
  fun r s => s.configPort r.params

/-- NET_PORT_CONFIG (R210, R232, Table 5-16). -/
def execNetPortConfig (q : Nat) (s : State) : Host.Outcome State Fault Refusal :=
  commandRow "NET_PORT_CONFIG" 0x0900 netPortConfigBody q s

/-- NET_PORT_STATUS reply; Table 5-16 has no mode code for Ports S and F: a free value. -/
def portStatusData (s : State) (p : Nat) : List Byte :=
  let x := s.port p
  let mode := if p < 3 then x.mode else (Config.freeBits 8 s.freeCtr).toNat
  le 1 (b2n x.link) ++ le 1 mode ++ le 1 (b2n x.pauseEnd.isSome) ++ le 1 (b2n x.lpi)
    ++ le 4 (x.tw.getD 0) ++ (if p = 3 then slice (s.net.sight.peerAddr ++ zeros 6) 0 6 else zeros 6)
    ++ zeros 2

def netPortStatusBody : Body := fun _ r s =>
  let p := u8 r.params 0
  if 4 < p then .bad Status.badParam
  else .done (if p < 3 then s else s.bump) (portStatusData s p)

/-- NET_PORT_STATUS (R209). -/
def execNetPortStatus (q : Nat) (s : State) : Host.Outcome State Fault Refusal :=
  commandRow "NET_PORT_STATUS" 0x0901 netPortStatusBody q s

def countersData (s : State) (p : Nat) : List Byte :=
  ((portCounters p).map fun c => le 8 (tget 0 (s.port p).counters c)).flatten

def netGetCountersBody : Body := fun _ r s =>
  let p := u8 r.params 0
  let c := u8 r.params 1
  if 4 < p ∨ 1 < c ∨ zeroAt r.params 2 2 = false then .bad Status.badParam
  else if c = 1 then
    (if r.hasLevel s 2 then
      .done (s.modPort p fun x => { x with counters := [] }) (countersData s p) else .deny)
  else .done s (countersData s p)

/-- NET_GET_COUNTERS (R249). -/
def execNetGetCounters (q : Nat) (s : State) : Host.Outcome State Fault Refusal :=
  commandRow "NET_GET_COUNTERS" 0x0902 netGetCountersBody q s

/-! ## Rules, multicast entries, wake patterns (R216, R220-R223) -/

def ruleCheck (r : Req) (s : State) : Option Nat :=
  let b := r.params.drop 4
  let q := u8 b 3
  firstFail
    [ (decide (31 < u8 r.params 0) || !zeroAt r.params 1 3 || decide (4 ≤ u8 b 0) ||
        decide (8 ≤ u8 b 1) || decide (32 ≤ u8 b 2) || decide (4096 ≤ u16 b 6) || !zeroAt b 9 1 ||
        !(b.drop 18).all (· == 0), Status.badParam),
      (bitOf (u8 b 0) 0 && !(decide (128 ≤ q) && decide (q < 240) && (s.queue q).producer == 0x200
        && bankLog2 q (s.queue q) != 0), Status.badParam) ]

/-- What NET_SET_RULE does once its check passes. -/
def netSetRuleEffect (r : Req) (s : State) : State := s.netMod fun n =>
  let b := r.params.drop 4
  { n with rules := tput [] n.rules (u8 r.params 0) (if bitOf (u8 b 0) 0 then b else []) }

def netSetRuleBody : Body := atOnce ruleCheck netSetRuleEffect

/-- NET_SET_RULE (R220, Table 5-6). -/
def execNetSetRule (q : Nat) (s : State) : Host.Outcome State Fault Refusal :=
  commandRow "NET_SET_RULE" 0x0903 netSetRuleBody q s

def mcastCheck (r : Req) (_s : State) : Option Nat :=
  firstFail [ (decide (2 < u8 r.params 0) || decide (63 < u8 r.params 1) ||
    decide (1 < u8 r.params 2) || !zeroAt r.params 3 1 || !zeroAt r.params 10 2, Status.badParam) ]

/-- What NET_SET_MCAST does once its check passes. -/
def netSetMcastEffect (r : Req) (s : State) : State :=
  let p := r.params
  s.modPort (u8 p 0) fun x =>
    { x with mcast := tput [] x.mcast (u8 p 1) (if u8 p 2 = 1 then slice p 4 6 else []) }

def netSetMcastBody : Body := atOnce mcastCheck netSetMcastEffect

/-- NET_SET_MCAST (R216). -/
def execNetSetMcast (q : Nat) (s : State) : Host.Outcome State Fault Refusal :=
  commandRow "NET_SET_MCAST" 0x0904 netSetMcastBody q s

def wakeCheck (r : Req) (_s : State) : Option Nat :=
  let b := r.params.drop 4
  firstFail
    [ (decide (7 < u8 r.params 0) || !zeroAt r.params 1 3 || decide (2 ≤ u8 b 0) ||
        decide (8 ≤ u8 b 1) || decide (64 ≤ u8 b 2) || !zeroAt b 3 1 ||
        (slice b 8 16).all (· == 0) || u16 b 24 == 0 || decide (3600 < u16 b 24) ||
        !(b.drop 26).all (· == 0), Status.badParam) ]

/-- What NET_SET_WAKE does once its check passes. -/
def netSetWakeEffect (r : Req) (s : State) : State := s.netMod fun n =>
  { n with
      wake := tmod WakePattern.reset n.wake (u8 r.params 0) fun w =>
      { w with record := r.params.drop 4 } }

def netSetWakeBody : Body := atOnce wakeCheck netSetWakeEffect

/-- NET_SET_WAKE (R221, Table 5-7). -/
def execNetSetWake (q : Nat) (s : State) : Host.Outcome State Fault Refusal :=
  commandRow "NET_SET_WAKE" 0x0905 netSetWakeBody q s

def State.wakePattern (s : State) (w : Nat) : WakePattern := tget WakePattern.reset s.net.wake w

/-- Partitions that running holds keep powered (R223); FP0 is never among them. -/
def State.heldParts (s : State) : Word :=
  (List.range 8).foldl (fun a w =>
    let x := s.wakePattern w
    if x.hold.isSome then a ||| (BitVec.ofNat 32 (u16 x.record 4) &&& 0xFFFE) else a) 0

/-- Partitions the active profile, a pending change and running holds keep powered (R223, R367). -/
def State.wantedParts (s : State) : Word :=
  let pend := match s.fab.pend with
    | some p => BitVec.ofNat 32 (profPowered p)
    | none => 0
  (BitVec.ofNat 32 (profPowered s.fab.active) ||| pend ||| s.heldParts) &&& ~~~ s.fab.failed

/-- Power partitions; a newly powered one becomes usable at PARTITION_USABLE (R222). -/
def State.powerParts (s : State) (mask : Word) : State :=
  { s with fab := { s.fab with powered := s.fab.powered ||| (mask &&& ~~~ s.fab.failed) } }

/-- Gate every partition that nothing keeps powered. -/
def State.gateParts (s : State) : State :=
  let w := s.wantedParts ||| 1
  { s with fab := { s.fab with powered := s.fab.powered &&& w, usable := s.fab.usable &&& w } }

/-- A hold expires HOLD seconds after the last match (R223). -/
def State.wakeHoldEnds (s : State) (w : Nat) : State :=
  match (s.wakePattern w).hold with
  | some t =>
    if t ≤ s.time.elapsed then
      (s.netMod fun n => { n with
        wake := tmod WakePattern.reset n.wake w fun x =>
        { x with hold := none } }).gateParts
    else s
  | none => s

/-- WAKE_HOLD_EXPIRE (R223). -/
def execWakeHoldExpire (w : Nat) (s : State) : Host.Outcome State Fault Refusal :=
  ran (decide (w < 8)) "WAKE_HOLD_EXPIRE" s (s.wakeHoldEnds w)

/-- The frame bytes a mask selects, in ascending order (Table 5-7). -/
def selectedBytes (mask f : List Byte) : List Byte :=
  (List.range 128).filterMap fun i => if bitOf (u8 mask (i / 8)) (i % 8) then f[i]? else none

/-- A wake pattern matches a frame of port `p` (R221). -/
def wakeMatches (record : List Byte) (p : Nat) (f : List Byte) : Bool :=
  let mask := slice record 8 16
  let top := (List.range 128).foldl (fun a i => if bitOf (u8 mask (i / 8)) (i % 8) then i + 1 else a) 0
  bitOf (u8 record 0) 0 && bitOf (u8 record 1) p && decide (top ≤ f.length) &&
    crc16 (selectedBytes mask f) == u16 record 6

/-- What a matching pattern does (R222, R223). -/
def State.wakeUp (s : State) (p w : Nat) : State :=
  let record := (s.wakePattern w).record
  let s := s.netMod fun n => { n with
    wake := tmod WakePattern.reset n.wake w fun x =>
    { x with hold := some (s.time.elapsed + u16 record 24 * second) } }
  let s := s.powerParts (BitVec.ofNat 32 (u16 record 4) &&& 0xFFFE)
  let s := (s.countPort p Ctr.wakeMatch 1).pulse (u8 record 2)
  s.oncePerSecond (0x90300 + w) fun s =>
    s.event 0x0903 Sev.notice 0x09 0x0000 (le 1 p ++ le 1 w)

/-- Stage 5 of Table 5-3: every matching pattern acts. The answer says whether one matched. -/
def State.wakeStage (s : State) (p : Nat) (f : List Byte) : List Nat → State × Bool
  | [] => (s, false)
  | w :: ws =>
    if wakeMatches (s.wakePattern w).record p f then
      ((s.wakeUp p w).wakeStage p f ws |>.1, true)
    else s.wakeStage p f ws

/-! ## Links (R209) -/

/-- A link comes up: its readiness sets, but SIGHT waits for the transport. -/
def State.linkUp (s : State) (p : Nat) : State :=
  if decide (p < 3) && (s.port p).mode == 0xFF then s
  else
    let s := s.modPort p fun x => { x with link := true }
    let s := if p = 3 then s else s.setReady (portReadyBit p) true
    s.event 0x0901 Sev.notice 0x09 0x0000 (le 1 p ++ le 1 (s.port p).mode)

/-- LINK_UP (R209, R250). -/
def execLinkUp (port : Nat) (s : State) : Host.Outcome State Fault Refusal :=
  ran (decide (port < 5)) "LINK_UP" s (s.linkUp port)

/-- The sight-line transport starts again from SYNC (R246, R247). -/
def Sight.restart (x : Sight) : Sight :=
  { x with
    peerSync := false, ackSeen := false, nextSeq := 1, unacked := [], backlog := [], lastRx := 0
    resends := 0, ackDue := none }

/-- A link goes down. -/
def State.linkDown (s : State) (p : Nat) : State :=
  let s := s.modPort p fun x => { x with link := false, lpi := false, pauseEnd := none }
  let s := if p = 3 then (s.sightMod Sight.restart).sightLost else s
  (s.setReady (portReadyBit p) false).event 0x0902 Sev.warning 0x09 0x0000 (le 1 p)

/-- LINK_DOWN (R209, R250). -/
def execLinkDown (port : Nat) (s : State) : Host.Outcome State Fault Refusal :=
  ran (decide (port < 5)) "LINK_DOWN" s (s.linkDown port)

/-! ## Delivering a frame to a queue (R214, R219) -/

/-- The receive cell header (Table 5-5). -/
def rxHeader (s : State) (port stage rule flags : Nat) (tci : Nat) (f : List Byte) : List Byte :=
  let d := tget PortDelay.reset s.time.delays port
  let sub := ((d.inNs * 65536 + d.inFrac) * 65536 : Nat)
  let t := s.time.now.shift (-(sub : Int))
  let stamped := decide (port < 4)
  le 1 5 ++ le 1 port ++ le 2 f.length ++ le 1 stage ++ le 1 rule ++ le 1 (flags + 2 * b2n stamped)
    ++ zeros 1 ++ (if stamped then le 6 t.sec ++ le 4 t.ns ++ le 2 (t.frac / 65536 / 0x4000 * 0x4000)
      else zeros 12) ++ le 2 tci ++ zeros 10

/-- Push a packet; where a cell is refused the packet is dropped and false is answered. -/
def State.pushFrame (s : State) (q : Nat) (packet : List Byte) : State × Bool :=
  let r := pushStation s q (toCells packet)
  (r.1, r.2 == 0)

/-- Deliver a frame of a port to a queue (R214, R219). -/
def State.deliverFrame (s : State) (q port stage rule flags tci : Nat) (f : List Byte) : State :=
  let r := s.pushFrame q (rxHeader s port stage rule flags tci f ++ f)
  if r.2 then r.1 else r.1.countPort port Ctr.queueDrop 1

/-- Firmware empties a receive queue while it runs (R218); what it does with the frames is not the
block's. -/
def State.firmwareTakes (s : State) (q : Nat) : Nat → State
  | 0 => s
  | fuel + 1 =>
    if s.sys.running then
      match s.popPacket q with
      | (s', []) => s'
      | (s', _) => s'.firmwareTakes q fuel
    else s

/-! ## PAUSE and low-power idle (R227-R234) -/

/-- A PAUSE frame of a port is honoured (R227). -/
def State.honoursPause (s : State) (p : Nat) : Bool := decide (p < 3) && bitOf (s.port p).pflags 0

/-- A valid PAUSE frame (R228, R230). -/
def State.pauseFrame (s : State) (p quanta : Nat) : State :=
  if s.honoursPause p then
    let ns := quanta * 512 * 1000 / modeMbps p (s.port p).mode
    let s := s.modPort p fun x => { x with
      pauseEnd := if quanta = 0 then none else some (s.time.elapsed + ns) }
    s.countPort p Ctr.pauseRx 1
  else s.countPort p Ctr.pauseIgnored 1

/-- The earliest launch time among the frames a port holds, in ns of device time. -/
def NetPort.earliest (x : NetPort) : Option Nat :=
  x.tx.foldl (fun a q => q.2.foldl (fun a f =>
    match f.launch, a with
    | some l, some e => some (min e (l.1 * second + l.2))
    | some l, none => some (l.1 * second + l.2)
    | none, a => a) a) none

/-- The low-power idle conditions of R233 that the port itself shows; `quiet` is the island's. -/
def State.mayIdle (s : State) (p : Nat) (quiet : Bool) : Bool :=
  let x := s.port p
  let eee := bitOf x.pflags 1
  let waiting := x.tx.any fun q => q.2.any fun f => f.launch.isNone
  match x.tw with
  | none => false
  | some tw =>
    let far := match x.earliest with
      | some e => decide (s.time.now.nanos + tw + 20000 < e)
      | none => true
    eee && x.link && !waiting && quiet && far && decide (x.lastTx + x.lpiIdle * micro ≤ s.time.elapsed)

/-- The transmitter leaves low-power idle (R234): a held launch within TW + 1 us, or a frame that can
go. -/
def State.lpiExit (s : State) (p : Nat) : State :=
  let x := s.port p
  let near := match x.earliest with
    | some e => decide (e ≤ s.time.now.nanos + x.tw.getD 0 + 1000)
    | none => false
  let waiting := x.tx.any fun q => q.2.any fun f => f.launch.isNone
  if x.lpi && (near || waiting) then s.modPort p fun x => { x with lpi := false } else s

/-- LPI_EXIT (R234). -/
def execLpiExit (port : Nat) (s : State) : Host.Outcome State Fault Refusal :=
  ran (decide (port < 3)) "LPI_EXIT" s (s.lpiExit port)

/-- LPI_RX_ENTRY (R234): counted, no other effect. -/
def execLpiRxEntry (port : Nat) (s : State) : Host.Outcome State Fault Refusal :=
  ran (decide (port < 3)) "LPI_RX_ENTRY" s (s.countPort port Ctr.lpiRxEntries 1)

/-! ## Transmit queues (R215, R226) -/

/-- Add a frame to a transmit queue of a port. -/
def State.queueTx (s : State) (p k : Nat) (f : TxFrame) : State :=
  s.modPort p fun x => { x with tx := tmod [] x.tx k fun q => q ++ [f] }

/-- A firmware frame without launch time or stamp. -/
def plainFrame (b : List Byte) : TxFrame :=
  { bytes := b, launch := none, stamp := false, oneStep := false, tag := 0, slot := none
    lastRi := none, held := false, replay := false }

/-- Length on the wire with padding and FCS (R215). -/
def wireLen (b : List Byte) : Nat := max 60 b.length + 4

def netSendBody : Body := fun _ r s =>
  let p := u8 r.params 0
  let txf := u8 r.params 1
  let f := r.params.drop 16
  if p = 3 ∨ 4 < p ∨ 8 ≤ txf ∨ zeroAt r.params 14 2 = false ∨
      (bitOf txf 2 = true ∧ second ≤ u32 r.params 10) ∨ slice f 6 6 ≠ s.macOf p then
    .bad Status.badParam
  else if s.maxFrame p < wireLen f then .bad Status.frameTooLong
  else
    .done (s.queueTx p 6
      { bytes := f, launch := if bitOf txf 2 then some (u48 r.params 4, u32 r.params 10) else none
        stamp := bitOf txf 0, oneStep := bitOf txf 1, tag := u16 r.params 2, slot := some r.slot
        lastRi := none, held := false, replay := false }) []

/-- NET_SEND (R215, R226). -/
def execNetSend (q : Nat) (s : State) : Host.Outcome State Fault Refusal :=
  commandRow "NET_SEND" 0x0906 netSendBody q s

/-! ## Field bus (R235-R243) -/

def State.fbMod (s : State) (f : FieldBus → FieldBus) : State :=
  s.netMod fun n => { n with fb := f n.fb }

def State.node (s : State) (i : Nat) : FbNode := tget FbNode.reset s.net.fb.node i

def State.setNode (s : State) (i : Nat) (x : FbNode) : State :=
  s.fbMod fun f => { f with node := tput FbNode.reset f.node i x }

def fbCheck (r : Req) (_s : State) : Option Nat :=
  let p := r.params
  let role := u8 p 0
  let ms := u16 p 6
  firstFail
    [ (decide (2 < role) || (role == 0 && u8 p 1 != 0) ||
        (role == 1 && (u8 p 1 == 0 || decide (31 < u8 p 1))) || decide (31 < u8 p 1) ||
        u8 p 2 == 0 || decide (32 < u8 p 2) || u8 p 3 == 0 || u8 p 5 == 0 ||
        decide (ms < 100) || decide (5000 < ms) || decide (u8 p 8 < 2) || decide (16 < u8 p 8) ||
        !zeroAt p 9 3, Status.badParam) ]

/-- What NET_FB_CONFIG does once its check passes. -/
def netFbConfigEffect (r : Req) (s : State) : State := s.fbMod fun f =>
  let p := r.params
  { f with
    role := u8 p 0, plcaId := u8 p 1, nodes := u8 p 2, oppTimer := u8 p 3, burst := u8 p 4
    burstTmr := u8 p 5, callMs := u16 p 6, absent := u8 p 8, plca := u8 p 0 != 2
    beaconing := u8 p 0 == 0, lastBeacon := s.time.elapsed, attempts := 0 }

def netFbConfigBody : Body := atOnce fbCheck netFbConfigEffect

/-- NET_FB_CONFIG (R235, Table 5-8). -/
def execNetFbConfig (q : Nat) (s : State) : Host.Outcome State Fault Refusal :=
  commandRow "NET_FB_CONFIG" 0x0910 netFbConfigBody q s

/-- Reply data of NET_FB_NODES. -/
def netFbNodesData (_ : Req) (s : State) : List Byte :=
  ((List.range 32).map fun i =>
    let n := s.node i
    le 1 (b2n n.present) ++ le 1 n.kind ++ le 2 (s.genOf (0xB000 + i)) ++ le 2 n.vendor
      ++ le 2 n.model ++ le 8 n.serial).flatten

def netFbNodesBody : Body := query netFbNodesData

/-- NET_FB_NODES (R243). -/
def execNetFbNodes (q : Nat) (s : State) : Host.Outcome State Fault Refusal :=
  commandRow "NET_FB_NODES" 0x0911 netFbNodesBody q s

/-- NET_FB_FORGET frees the index of an absent node (R243). -/
def netFbForgetBody : Body := fun _ r s =>
  let n := s.node r.index
  if n.present then .bad Status.busy
  else if n.known then .done ((s.setNode r.index { n with known := false }).bumpGen r.target) []
  else .done s []

/-- NET_FB_FORGET (R243). -/
def execNetFbForget (q : Nat) (s : State) : Host.Outcome State Fault Refusal :=
  commandRow "NET_FB_FORGET" 0x0912 netFbForgetBody q s

/-- PLCA_BEACON_LOSS: a follower without a beacon for 4 ms (R236). -/
def State.beaconLoss (s : State) : State :=
  let f := s.net.fb
  if f.role = 1 ∧ f.plca = true ∧ f.lastBeacon + 4 * milli ≤ s.time.elapsed then
    ((s.fbMod fun f => { f with plca := false }).countPort 4 Ctr.beaconLoss 1).event
      0x0909 Sev.warning 0x09 0x0000 (le 1 4)
  else s

/-- PLCA_BEACON_LOSS (R236). -/
def execPlcaBeaconLoss (s : State) : Host.Outcome State Fault Refusal := goOn s s.beaconLoss

/-- A beacon the device did not send (R236). -/
def State.beaconSeen (s : State) : State :=
  let f := s.net.fb
  match f.role with
  | 1 =>
    let s := s.fbMod fun f => { f with plca := true, lastBeacon := s.time.elapsed }
    if f.plca then s else s.event 0x090A Sev.notice 0x09 0x0000 (le 1 4)
  | 0 =>
    if f.beaconing then
      (s.fbMod fun f => { f with plca := false, beaconing := false }).event
        0x090B Sev.error 0x09 0x0000 (le 1 4)
    else s
  | _ => s

/-- PLCA_BEACON_SEEN (R236). -/
def execPlcaBeaconSeen (s : State) : Host.Outcome State Fault Refusal := goOn s s.beaconSeen

/-- The frame Port F sends next: the island's (Q78), roll call's (Q76), then NET_SEND's (Q77). -/
def firstQueue (x : NetPort) : List Nat → Option Nat
  | [] => none
  | k :: ks => if tget [] x.tx k = [] then firstQueue x ks else some k

/-- CSMA_COLLISION: counted, and the 16th on one frame drops it (R237). -/
def State.collision (s : State) : State :=
  let s := s.countPort 4 Ctr.collisions 1
  let n := s.net.fb.attempts + 1
  if n < 16 then s.fbMod fun f => { f with attempts := n }
  else
    let s := (s.fbMod fun f => { f with attempts := 0 }).countPort 4 Ctr.excessColl 1
    match firstQueue (s.port 4) [0, 1, 6] with
    | some k => s.modPort 4 fun x => { x with tx := tmod [] x.tx k (·.drop 1) }
    | none => s

/-- CSMA_COLLISION (R237). -/
def execCsmaCollision (s : State) : Host.Outcome State Fault Refusal :=
  goOn s (if s.net.fb.plca then s else s.collision)

/-- An application frame (Table 5-10) with its Ethernet header. -/
def fbFrame (s : State) (da : List Byte) (atype : Nat) (body : List Byte) : List Byte :=
  let f := s.net.fb
  let app := le 1 1 ++ le 1 atype ++ le 1 0xFE ++ le 1 (if f.plca then f.plcaId else 0xFF)
    ++ le 2 f.aseq ++ le 2 body.length ++ body
  da ++ s.macOf 4 ++ be 2 0x88B6 ++ app ++ le 2 (crc16 app)

/-- Send an application frame on Port F. -/
def State.sendFb (s : State) (da : List Byte) (atype : Nat) (body : List Byte) : State :=
  (s.queueTx 4 1 (plainFrame (fbFrame s da atype body))).fbMod fun f =>
    { f with aseq := (f.aseq + 1) % 65536 }

def broadcast : List Byte := List.replicate 6 0xFF

def State.nodeAbsent (s : State) (i : Nat) : State :=
  let n := s.node i
  (s.setNode i { n with present := false, missed := 0 }).event 0x0906 Sev.warning 0x09 (0xB000 + i)
    (le 1 i ++ zeros 3 ++ le 4 n.lastCseq)

/-- Judge every present node's answer to the last call (R242). -/
def State.judgeCalls (s : State) : List Nat → State
  | [] => s
  | i :: is =>
    let n := s.node i
    let s := if n.present then
        (if n.answered then s.setNode i { n with missed := 0, answered := false }
          else if n.missed + 1 < s.net.fb.absent then s.setNode i { n with missed := n.missed + 1 }
          else s.nodeAbsent i)
      else s
    s.judgeCalls is

/-- The roll caller calls every CALL_MS (R242). -/
def State.rollCall (s : State) : State :=
  let f := s.net.fb
  if f.role = 0 ∧ s.sys.running = true ∧ f.lastCall + f.callMs * milli ≤ s.time.elapsed then
    let s := s.judgeCalls (List.range 32)
    let s := s.fbMod fun f => { f with cseq := (f.cseq + 1) % 4294967296, lastCall := s.time.elapsed }
    s.sendFb broadcast 1 (le 4 s.net.fb.cseq ++ le 2 s.net.fb.callMs ++ zeros 2)
  else s

/-- ROLL_CALL (R242). -/
def execRollCall (s : State) : Host.Outcome State Fault Refusal := goOn s s.rollCall

/-- The node index that holds an identity. -/
def State.findNode (s : State) (vendor model serial : Nat) : Option Nat :=
  (List.range 32).find? fun i =>
    let n := s.node i
    (n.known || n.fixed) && n.vendor == vendor && n.model == model && n.serial == serial

/-- The lowest index that no identity holds and the datum does not fix. -/
def State.freeNode (s : State) : Option Nat :=
  (List.range 32).find? fun i => !(s.node i).known && !(s.node i).fixed

def State.sendAssign (s : State) (sa : List Byte) (serial i : Nat) : State :=
  s.sendFb sa 3 (le 8 serial ++ le 1 i ++ zeros 3)

/-- A node as an ANSWER shows it. -/
def answerNode (n : FbNode) (sa b : List Byte) : FbNode :=
  { n with
    vendor := u16 b 6, model := u16 b 8, serial := u64 b 12, known := true, present := true
    kind := u8 b 4, addr := sa, missed := 0, answered := true, lastCseq := u32 b 0 }

/-- An ANSWER's body `b` from address `sa` naming index `idx`, at the roll caller (R242). -/
def State.answer (s : State) (sa : List Byte) (idx : Nat) (b : List Byte) : State :=
  let serial := u64 b 12
  match s.findNode (u16 b 6) (u16 b 8) serial with
  | some i =>
    let n := s.node i
    if n.known && n.answered && n.lastCseq == u32 b 0 && n.addr != sa then
      s.event 0x0908 Sev.error 0x09 (0xB000 + i) (le 1 4 ++ zeros 3 ++ le 4 serial)
    else
      let back := n.known && !n.present
      let fresh := !n.known
      let s := s.setNode i (answerNode n sa b)
      let s := if idx = i then s else s.sendAssign sa serial i
      let g := s.genOf (0xB000 + i)
      if fresh then
        s.event 0x0904 Sev.notice 0x09 (0xB000 + i) (le 1 i ++ zeros 1 ++ le 2 g ++ le 4 serial)
      else if back then s.event 0x0905 Sev.notice 0x09 (0xB000 + i) (le 1 i ++ zeros 1 ++ le 2 g)
      else s
  | none =>
    match s.freeNode with
    | none => s.event 0x0907 Sev.error 0x09 0x0000 (le 1 4 ++ zeros 3 ++ le 4 serial)
    | some i =>
      let n := s.node i
      let held := n.vendor != 0 || n.model != 0 || n.serial != 0
      let s := if held then s.bumpGen (0xB000 + i) else s
      let s := (s.setNode i (answerNode n sa b)).sendAssign sa serial i
      s.event 0x0904 Sev.notice 0x09 (0xB000 + i)
        (le 1 i ++ zeros 1 ++ le 2 (s.genOf (0xB000 + i)) ++ le 4 serial)

/-- A follower keeps the same table from what it hears (R243): an ANSWER with an index places its
node, one without waits for its ASSIGN. -/
def State.hearAnswer (s : State) (sa : List Byte) (idx : Nat) (b : List Byte) : State :=
  if idx < 32 then s.setNode idx (answerNode (s.node idx) sa b)
  else s.netMod fun n => { n with
    fbSeen := (n.fbSeen.filter fun x => x.1 != u64 b 12) ++ [(u64 b 12, sa ++ b)] }

def State.hearAssign (s : State) (serial i : Nat) : State :=
  match s.net.fbSeen.find? fun x => x.1 == serial with
  | some x =>
    if i < 32 then s.setNode i (answerNode (s.node i) (x.2.take 6) (x.2.drop 6)) else s
  | none => s

/-- A LEAVE makes its node absent (R242). -/
def State.leaveNode (s : State) (serial : Nat) : State :=
  match (List.range 32).find? fun i => (s.node i).present && (s.node i).serial == serial with
  | some i => s.nodeAbsent i
  | none => s

/-- The application check and version of a field-bus frame hold (R238, R240). -/
def fbFrameOk (f : List Byte) : Bool :=
  let app := f.drop 14
  let n := u16 app 6
  decide (22 + n + 2 + 4 ≤ f.length) && decide (n ≤ 1488) &&
    crc16 (app.take (8 + n)) == u16 app (8 + n)

/-- Roll-call frames of Q72, taken by firmware (Table 5-9). -/
def State.rollFrame (s : State) (f : List Byte) : State :=
  let app := f.drop 14
  let sa := slice f 6 6
  let b := slice app 8 (u16 app 6)
  match u8 app 1 with
  | 2 => if s.net.fb.role = 0 then s.answer sa (u8 app 2) b else s.hearAnswer sa (u8 app 2) b
  | 3 => if s.net.fb.role = 0 then s else s.hearAssign (u64 b 0) (u8 b 8)
  | 6 => s.leaveNode (u64 b 0)
  | _ => s

/-- Firmware empties Q72 while it runs. -/
def State.drainRoll (s : State) : Nat → State
  | 0 => s
  | fuel + 1 =>
    if s.sys.running then
      match s.popPacket 72 with
      | (s', []) => s'
      | (s', p) =>
        let s' := if u16 p 0 = 0xFFFF then s' else s'.rollFrame (slice p 32 (u16 p 2))
        s'.drainRoll fuel
    else s

/-- A roll-call frame with EtherType 0x88B6: through the filter to Q72 (R238). -/
def State.rollReceive (s : State) (f : List Byte) : State :=
  if fbFrameOk f then (s.deliverFrame 72 4 0 0xFF 0 0 f).drainRoll 260
  else s.countPort 4 Ctr.appCrc 1

/-- The frame is an application frame of a type. -/
def isFbFrame (f : List Byte) (atype : Nat) : Bool :=
  decide (ub 2 f 12 = 0x88B6) && u8 f 15 == atype

/-- FB_ANSWER (R242, R243). -/
def execFbAnswer (f : List Byte) (s : State) : Host.Outcome State Fault Refusal :=
  goOn s (if isFbFrame f 2 then s.rollReceive f else s)

/-- FB_ASSIGN (R243). -/
def execFbAssign (f : List Byte) (s : State) : Host.Outcome State Fault Refusal :=
  goOn s (if isFbFrame f 3 then s.rollReceive f else s)

/-- FB_LEAVE (R242). -/
def execFbLeave (f : List Byte) (s : State) : Host.Outcome State Fault Refusal :=
  goOn s (if isFbFrame f 6 then s.rollReceive f else s)

/-! ## Sight-line transport (R244-R248) -/

/-- The device's own SYNC (R246). -/
def syncFrame (s : State) : List Byte :=
  sightFrame 0 0 0 0 0 0 (s.macOf 3 ++ le 1 (b2n s.pair.pairId) ++ zeros 1 ++ le 4 s.host.bootCount
    ++ zeros 4)

/-- SYNC goes out every 1 ms until the transport is ready (R245, R246). -/
def State.syncSend (s : State) : State :=
  if (s.port 3).link && !s.isReady Rdy.sight then
    s.sightMod fun x => if x.frozen then x else { x with out := x.out ++ [syncFrame s] }
  else s

/-- SIGHT_SYNC_SEND (R245, R246). -/
def execSightSyncSend (s : State) : Host.Outcome State Fault Refusal := goOn s s.syncSend

/-- The line acknowledges what it has received in order. -/
def Sight.sendAck (x : Sight) : Sight := x.emit (sightFrame 1 0 0 0 0 x.lastRx [])

/-- SIGHT is set once each side has received the other's SYNC and an ACK of its own (R245). -/
def State.sightReadyNow (s : State) : State :=
  let x := s.net.sight
  if x.peerSync && x.ackSeen && (s.port 3).link then s.setReady Rdy.sight true else s

/-- A SYNC is learned, repeats, or restarts the transport (R246). -/
def State.syncReceive (s : State) (f : List Byte) : State :=
  let x := s.net.sight
  let p := f.drop 32
  let sa := slice p 0 6
  let boot := u32 p 8
  if x.frozen || u8 f 0 != 1 || u8 f 1 != 0 || u16 f 20 != 16 then s
  else
    let s := if x.peerSync && x.peerAddr == sa && x.peerBoot == boot then s
      else if x.peerSync then (s.sightMod Sight.restart).setReady Rdy.sight false else s
    let s := s.sightMod fun x => { x with
      peerSync := true, peerAddr := sa, peerBoot := boot, peerId := u8 p 6 == 1 }
    let s := { s with pair := { s.pair with heard := true } }
    (s.sightMod Sight.sendAck).sightReadyNow

/-- Move frames that wait into the 64 places (R247). -/
def Sight.refill (x : Sight) (now : Nat) : Nat → Sight
  | 0 => x
  | fuel + 1 =>
    match x.backlog with
    | [] => x
    | f :: rest =>
      if x.unacked.length < 64 then ({ x with backlog := rest }.send f now).refill now fuel else x

/-- An ACKSEQ from the peer (R247). -/
def Sight.ackTo (x : Sight) (n now : Nat) : Sight :=
  let left := x.unacked.filter fun u => decide (n < u.1)
  if left.length < x.unacked.length then
    { x with unacked := left, resends := 0, progress := now }.refill now 64
  else x

/-- An ACK, or the ACKSEQ of any frame, from the peer (R245, R247). -/
def State.ackReceive (s : State) (f : List Byte) : State :=
  if s.net.sight.frozen || u8 f 0 != 1 then s
  else
    (s.sightMod fun x => { x.ackTo (u32 f 24) s.time.elapsed with
      ackSeen := x.ackSeen || u8 f 1 == 1 }).sightReadyNow

/-- With no own frame within 10 us of a received one, an ACK is sent (R247). -/
def State.ackTimer (s : State) : State :=
  match s.net.sight.ackDue with
  | some t => if t + 10 * micro ≤ s.time.elapsed then s.sightMod Sight.sendAck else s
  | none => s

/-- SIGHT_ACK_TIMER (R247). -/
def execSightAckTimer (s : State) : Host.Outcome State Fault Refusal := goOn s s.ackTimer

/-- The same frame flagged as a retransmission (Table 5-12). -/
def asResend (f : List Byte) : List Byte := f.take 2 ++ [1] ++ f.drop 3

/-- The transport fails: SIGHT clears and it starts again from SYNC (R247). -/
def State.sightFails (s : State) : State :=
  let oldest := match s.net.sight.unacked with
    | u :: _ => u.1
    | [] => 0
  ((s.setReady Rdy.sight false).sightMod Sight.restart).event 0x090C Sev.error 0x09 0x0000
    (le 1 3 ++ zeros 3 ++ le 4 oldest) |>.sightLost

/-- ACKSEQ stalled for 50 us: resend from the oldest, or after 8 resends fail (R247). -/
def State.retransmit (s : State) : State :=
  let x := s.net.sight
  if x.unacked ≠ [] ∧ x.progress + 50 * micro ≤ s.time.elapsed then
    if 8 ≤ x.resends then s.sightFails
    else
      (s.sightMod fun x => x.unacked.foldl (fun y u => y.emit (asResend u.2))
        { x with resends := x.resends + 1, progress := s.time.elapsed }).countPort 3 Ctr.sightRetrans 1
  else s

/-- SIGHT_RETRANSMIT (R247). -/
def execSightRetransmit (s : State) : Host.Outcome State Fault Refusal := goOn s s.retransmit

/-- A sequenced frame arrives: what its consumer takes of it, none where it is out of order, stale
or the line is frozen (R247, R248). -/
def State.sequenced (s : State) (f : List Byte) : State × Bool :=
  let x := s.net.sight
  if x.frozen || u8 f 0 != 1 then (s, false)
  else
    let s := s.ackReceive f
    if u32 f 4 ≠ x.lastRx + 1 then (s.countPort 3 Ctr.sightOoo 1, false)
    else
      let s := s.sightMod fun x => { x with
        lastRx := x.lastRx + 1
        ackDue := some (x.ackDue.getD s.time.elapsed) }
      let u := u16 f 16
      let g := u16 f 18
      if u ≠ 0 ∧ g ≠ 0 ∧ g ≠ s.genField u then
        ((s.countPort 3 Ctr.staleGen 1).countStale, false)
      else (s, true)

/-- Payload of a sight-line frame. -/
def sightPayload (f : List Byte) : List Byte := slice f 32 (u16 f 20)

end Sys2Proof.Machine
end

