-- ==== Sys2Proof/Machine/Samples.lean ====
section
/-!
DEFINITION. Sys2Proof/Machine/Samples.lean: the arithmetic of samples: Q1.31 values, gains, 40-bit
accumulators, rounding (R17, R252, R381), gain codes as linear values (R18, R381) and fades.
-/
namespace Sys2Proof.Machine

/-! ## Rounding and saturation -/

/-- `n / d` to nearest, ties away from zero. -/
def roundDiv (n : Int) (d : Nat) : Int :=
  if 0 ≤ n then (2 * n + d) / (2 * d : Nat) else -((2 * (-n) + d) / (2 * d : Nat))

/-- Saturate to a 40-bit Q9.31 accumulator (R17, R381). -/
def sat40 (v : Int) : Int := clampI (-549755813888) 549755813887 v

/-- A Q1.31 sample times an unsigned Q4.28 gain, rounded to Q9.31 (R381). -/
def mulGain (x : Int) (g : Nat) : Int := roundDiv (x * g) 268435456

/-- Sum a vector into an accumulator, sample by sample. -/
def vadd (a b : List Int) : List Int := List.zipWith (fun x y => sat40 (x + y)) a b

/-- The vector at length `n`: missing samples are zero. -/
def padTo (n : Nat) (v : List Int) : List Int := v.take n ++ List.replicate (n - v.length) 0

/-- Q1.31 from a wire word of `w` bits (R252, R301). -/
def fromWire (w v : Nat) : Int := signed 32 (v * 2 ^ (32 - w))

/-- The wire word of `w` bits of a Q1.31 sample: nearest, ties away, saturated (R252, R301). -/
def toWire (w : Nat) (v : Int) : Nat :=
  unsigned w (clampI (-(2 ^ (w - 1) : Nat)) ((2 ^ (w - 1) : Nat) - 1) (roundDiv v (2 ^ (32 - w))))

/-! ## Gain codes as linear values -/

/-- The largest `v` in [lo, lo + 2^bits) for which the monotone condition holds, `lo` if none. -/
def bsearch (p : Nat → Bool) (lo : Nat) : Nat → Nat
  | 0 => lo
  | b + 1 => if p (lo + 2 ^ b) then bsearch p (lo + 2 ^ b) b else bsearch p lo b

/-- round(10^(g / 2560) × 2^28): `n` is right when (2n - 1)^2560 lies at or below
10^g × 2^(29 × 2560) and (2n + 1)^2560 above it (R381). -/
def gainAtMost (g : Int) (n : Nat) : Bool :=
  if 0 ≤ g then decide ((2 * n - 1) ^ 2560 ≤ 10 ^ g.toNat * 2 ^ 74240)
  else decide ((2 * n - 1) ^ 2560 * 10 ^ (-g).toNat ≤ 2 ^ 74240)

/-- The linear value of a gain code; mute is 0 (R381). -/
def gainLin (g : Int) : Nat := if g ≤ -16128 then 0 else if g = 0 then 268435456 else bsearch (gainAtMost g) 0 33

/-- A gain code as step arithmetic counts it: mute is -16,128 (R388). -/
def stepCode (g : Int) : Int := if g = -32768 then -16128 else g

/-- The code that step arithmetic reaches: -16,128 is mute (R388). -/
def unstepCode (g : Int) : Int := if g ≤ -16128 then -32768 else g

/-- Move at most `by_` from `c` towards `t`. -/
def moveTowards (c t by_ : Int) : Int := c + clampI (-by_) by_ (t - c)

/-! ## Fades -/

/-- The factor of a linear fade after `pos` of `len` samples, as a Q4.28 gain. -/
def fadeGain (f : Fade) : Nat :=
  let up := if f.len ≤ f.pos then 268435456 else f.pos * 268435456 / f.len
  if f.up then up else 268435456 - up

/-- One sample of a fade. -/
def Fade.step (f : Fade) : Fade := { f with pos := min f.len (f.pos + 1) }

/-- The fade has reached its end. -/
def Fade.ended (f : Fade) : Bool := decide (f.len ≤ f.pos)

/-- Apply a fade to a vector: at the k-th sample the fade has come k of its samples (DEDUCED from R446). -/
def Fade.apply (f : Fade) : List Int → List Int × Fade
  | [] => ([], f)
  | x :: xs =>
    let r := f.step.apply xs
    (mulGain x (fadeGain f.step) :: r.1, r.2)

/-- The fade `n` samples on. -/
def Fade.after (f : Fade) (n : Nat) : Fade := { f with pos := min f.len (f.pos + n) }

/-- `n` samples of a fade from a last sample towards zero, `pos` of 16 done (R270, R359). -/
def fallSample (last : Int) (pos : Nat) : Int := roundDiv (last * (16 - min 16 (pos + 1) : Nat)) 16

end Sys2Proof.Machine
end

