-- ==== Sys2Proof/Machine/StreamTable.lean ====
section
/-!
DEFINITION. Sys2Proof/Machine/StreamTable.lean: the stream tables, channel maps and ASRC groups, what a
binding must satisfy, and the opcodes of Table 6-9 (R251-R260, R266-R268, R276-R291, R295-R297).
-/
namespace Sys2Proof.Machine

def State.strMod (s : State) (f : StrPart → StrPart) : State := { s with str := f s.str }
def State.serMod (s : State) (f : SerPart → SerPart) : State := { s with ser := f s.ser }

def State.rx (s : State) (i : Nat) : RxStream := tget RxStream.reset s.str.rx i
def State.tx (s : State) (i : Nat) : TxStream := tget TxStream.reset s.str.tx i
def State.group (s : State) (g : Nat) : AsrcGroup := tget AsrcGroup.reset s.str.group g
def State.ser_ (s : State) (k : Nat) : SerPort := tget SerPort.reset s.ser.port k

def State.setRx (s : State) (i : Nat) (x : RxStream) : State :=
  s.strMod fun t => { t with rx := tput RxStream.reset t.rx i x }
def State.setTx (s : State) (i : Nat) (x : TxStream) : State :=
  s.strMod fun t => { t with tx := tput TxStream.reset t.tx i x }
def State.modRx (s : State) (i : Nat) (f : RxStream → RxStream) : State := s.setRx i (f (s.rx i))
def State.modTx (s : State) (i : Nat) (f : TxStream → TxStream) : State := s.setTx i (f (s.tx i))
def State.setGroup (s : State) (g : Nat) (x : AsrcGroup) : State :=
  s.strMod fun t => { t with group := tput AsrcGroup.reset t.group g x }
def State.setSer (s : State) (k : Nat) (x : SerPort) : State :=
  s.serMod fun t => { t with port := tput SerPort.reset t.port k x }
def State.modSer (s : State) (k : Nat) (f : SerPort → SerPort) : State := s.setSer k (f (s.ser_ k))

/-! ## Fields of an entry (Tables 6-3, 6-4) -/

namespace Ent
def flag (e : List Byte) (i : Nat) : Bool := bitOf (u8 e 0) i
def valid (e : List Byte) : Bool := flag e 0
def enabled (e : List Byte) : Bool := flag e 0 && flag e 1
def island (e : List Byte) : Bool := flag e 7
def format (e : List Byte) : Nat := u8 e 1
def ch (e : List Byte) : Nat := u8 e 2
def fs (e : List Byte) : Nat := u8 e 3
def spp (e : List Byte) : Nat := u16 e 4
def base (e : List Byte) : Nat := u16 e 6
def onPort (e : List Byte) (p : Nat) : Bool := bitOf (u8 e 8) p
def vid (e : List Byte) (p : Nat) : Nat := u16 e (12 + 2 * p)
def aes67 (e : List Byte) : Bool := format e == 1 || format e == 2
def crf (e : List Byte) : Bool := format e == 0x21
def aaf (e : List Byte) : Bool := format e == 0x11 || format e == 0x12 || format e == 0x13
end Ent

/-- Rate of an FS code in Hz (Table 6-2). -/
def fsHz (c : Nat) : Nat :=
  match c with
  | 0 => 48000 | 1 => 96000 | 2 => 44100 | _ => 88200

/-- Bytes of a sample word on the wire (Table 6-1). -/
def wordBytes (fmt : Nat) : Nat :=
  match fmt with
  | 0x01 | 0x11 => 2 | 0x02 | 0x12 => 3 | 0x13 => 4 | _ => 0

/-- FS and SPP are a pair of Table 6-2 (R253). -/
def sppOk (fs spp : Nat) : Bool :=
  match fs with
  | 0 | 2 => [6, 12, 16, 48].contains spp
  | 1 | 3 => [12, 24, 32, 96].contains spp
  | _ => false

/-- The largest frame of an entry (R254); a CRF PDU is its 20-byte header and 8 bytes a timestamp
behind an Ethernet header with a tag. -/
def frameMost (e : List Byte) (ipv6 : Bool) : Nat :=
  let payload := Ent.ch e * Ent.spp e * wordBytes (Ent.format e)
  if Ent.crf e then 42 + 8 * Ent.spp e
  else if Ent.aaf e then payload + 46
  else payload + (if ipv6 then 82 else 62)

/-- Ports an entry names. -/
def entPorts (e : List Byte) : List Nat := [0, 1].filter fun p => Ent.onPort e p

/-- Fields that all audio and CRF entries of either direction share. -/
def commonBad (e : List Byte) : Bool :=
  let audio := Ent.aes67 e || Ent.aaf e
  !(audio || Ent.crf e) || decide (3 < Ent.fs e) ||
    (if audio then Ent.ch e == 0 || decide (64 < Ent.ch e) || !sppOk (Ent.fs e) (Ent.spp e) ||
        decide (2048 < Ent.base e + Ent.ch e)
      else Ent.ch e != 0 || Ent.spp e == 0 || decide (8 < Ent.spp e) || Ent.base e != 0) ||
    decide (4 ≤ u8 e 8) || decide (4096 ≤ Ent.vid e 0) || decide (4096 ≤ Ent.vid e 1)

/-- An IP address field: IPv4 leaves its last 12 bytes zero. -/
def addrBad (e : List Byte) (o : Nat) (ipv6 : Bool) : Bool := !ipv6 && !zeroAt e (o + 4) 12

/-- A receive entry out of range, or a field its format does not use set (R251-R259, Table 6-3). -/
def rxEntryBad (e : List Byte) : Bool :=
  let dual := Ent.flag e 2
  let sync := Ent.flag e 3
  let v6 := Ent.flag e 4
  commonBad e || (if dual then u8 e 8 != 3 else u8 e 8 != 1 && u8 e 8 != 2) ||
    decide (127 < u8 e 9) || (sync && u8 e 9 != 0) ||
    u16 e 10 == 0 || decide (1000 < u16 e 10) || decide (20000000 < u32 e 16) ||
    u8 e 27 != 0 || !zeroAt e 118 10 ||
    (if Ent.aes67 e then
      (u8 e 26 != 0xFF && (decide (u8 e 26 < 96) || decide (127 < u8 e 26))) ||
        addrBad e 32 v6 || addrBad e 48 v6 || addrBad e 64 v6 || addrBad e 80 v6 ||
        !zeroAt e 96 22
     else
      v6 || !zeroAt e 20 12 || !zeroAt e 32 64 ||
        (if Ent.crf e then u16 e 116 == 0 || u8 e 9 != 0 else u16 e 116 != 0))

/-- A transmit entry out of range (R251-R259, Table 6-4). -/
def txEntryBad (e : List Byte) (rate : Nat) : Bool :=
  let v6 := Ent.flag e 2
  commonBad e || fsHz (Ent.fs e) != rate || Ent.flag e 6 || u8 e 8 == 0 || decide (7 < u8 e 9) ||
    decide (u32 e 16 < 5000) || decide (250000 < u32 e 16) || !zeroAt e 29 3 || !zeroAt e 94 34 ||
    (if Ent.aes67 e then
      decide (63 < u8 e 10) || u8 e 11 == 0 || decide (u8 e 28 < 96) || decide (127 < u8 e 28) ||
        addrBad e 40 v6 || addrBad e 56 v6 || !zeroAt e 36 4 || !zeroAt e 72 22
     else
      v6 || Ent.flag e 3 || u8 e 10 != 0 || u8 e 11 != 0 || !zeroAt e 20 9 || !zeroAt e 32 4 ||
        decide (20000000 < u32 e 36) || !zeroAt e 40 32 ||
        (if Ent.crf e then u16 e 92 == 0 else u16 e 92 != 0))

/-! ## Maps (R255, R256) -/

def State.mapEntry (s : State) (tx : Bool) (i : Nat) : Nat :=
  tget 0x8000 (if tx then s.str.txmap else s.str.rxmap) i

/-- A map entry: an index in [11:0] below 2,048 or NONE; bits [14:12] zero. -/
def mapWordOk (v : Nat) : Bool := bitsOf v 14 12 == 0 && (bitOf v 15 || decide (v < 2048))

def mapNone (v : Nat) : Bool := bitOf v 15

/-- The map run that an entry's fields name. -/
def State.runOf (s : State) (tx : Bool) (e : List Byte) : List Nat :=
  (List.range (Ent.ch e)).map fun c => s.mapEntry tx (Ent.base e + c)

/-- Write map entries from `first` on. -/
def State.putMap (s : State) (tx : Bool) (first : Nat) : List Nat → State
  | [] => s
  | v :: vs =>
    let s := s.strMod fun t =>
      if tx then { t with txmap := tput 0x8000 t.txmap first v }
      else { t with rxmap := tput 0x8000 t.rxmap first v }
    s.putMap tx (first + 1) vs

/-- Entries of the main maps in one direction: valid, not claimed by the island. -/
def State.mainEntries (s : State) (tx : Bool) : List (Nat × List Byte × List Nat) :=
  let l := if tx then s.str.tx.map fun x => (x.1, x.2.entry, x.2.run)
    else s.str.rx.map fun x => (x.1, x.2.entry, x.2.run)
  l.filter fun x => Ent.valid x.2.1 && !Ent.island x.2.1

/-- Two runs overlap in the map. -/
def runsOverlap (a b : List Byte) : Bool :=
  decide (Ent.base a < Ent.base b + Ent.ch b) && decide (Ent.base b < Ent.base a + Ent.ch a)

/-- Receive channel indices named more than once. -/
def hasRepeat : List Nat → Bool
  | [] => false
  | v :: vs => (!mapNone v && vs.contains v) || hasRepeat vs

/-- A run of entry `i` breaks R256 beside the other valid entries. -/
def State.runBad (s : State) (tx : Bool) (i : Nat) (e : List Byte) (run : List Nat) : Bool :=
  let others := (s.mainEntries tx).filter fun x => x.1 != i
  others.any (fun x => runsOverlap e x.2.1) ||
    (!tx && (hasRepeat run ||
      others.any fun x => run.any fun v => !mapNone v && x.2.2.contains v))

/-! ## Match keys (R261) -/

/-- The match key of a receive entry on a port, without the source filter. -/
def matchKey (e : List Byte) (p : Nat) : List Byte :=
  le 2 (Ent.vid e p) ++
    (if Ent.aes67 e then 0 :: (slice e (32 + 16 * p) 16 ++ slice e 24 2)
     else le 1 (if Ent.crf e then 2 else 1) ++ slice e 96 8 ++ slice e (104 + 6 * p) 6)

def srcFilter (e : List Byte) (p : Nat) : List Byte := slice e (64 + 16 * p) 16

/-- Two entries share a match key on some port; of AES67 entries, one with and one without a source
filter may. -/
def sharesKey (a b : List Byte) : Bool :=
  [0, 1].any fun p => Ent.onPort a p && Ent.onPort b p && matchKey a p == matchKey b p &&
    (!Ent.aes67 a || srcFilter a p == srcFilter b p)

/-! ## Groups, depth and bandwidth -/

/-- Whether the sample side puts an entry through a group. -/
def Ent.grouped (e : List Byte) : Bool := Ent.valid e && !Ent.flag e 3 && !Ent.crf e

/-- A serial port's ASRC group, its rate and channels, if it is a member: TDM ports and receivers in
modes 1 and 2 (Table 7-3). `k`: TDM port 0-15, or selector 0x10-0x13. -/
def serMember (k : Nat) (x : SerPort) : Option (Nat × Nat × Nat) :=
  if k < 16 then
    if bitOf (u8 x.set 0) 3 && u8 x.set 4 != 0 && u8 x.set 4 != 3 then
      some (u8 x.set 5, [48000, 96000, 44100, 88200].getD (u8 x.set 6) 0, u8 x.set 1)
    else none
  else if k < 0x20 then
    if bitOf (u8 x.set 1) 0 && u8 x.set 2 != 0 then some (u8 x.set 3, x.measured, 2) else none
  else none

/-- Members of group `g`: their rates in Hz and channels. -/
def State.members (s : State) (g : Nat) : List (Nat × Nat) :=
  (s.str.rx.filterMap fun x =>
    if Ent.grouped x.2.entry && u8 x.2.entry 9 == g then
      some (fsHz (Ent.fs x.2.entry), Ent.ch x.2.entry) else none) ++
  (s.ser.port.filterMap fun x =>
    match serMember x.1 x.2 with
    | some (h, hz, n) => if h = g then some (hz, n) else none
    | none => none)

/-- FS of a group in Hz: that of a member with a known rate (R279, R326). -/
def State.groupHz (s : State) (g : Nat) : Option Nat :=
  match (s.group g).autoHz with
  | some hz => some hz
  | none => (((s.members g).map (·.1)).filter (· != 0)).head?

/-- Channels a member counts against its engine (R311). -/
def engineLoad (rate hz n : Nat) : Nat := n * ((hz + rate - 1) / rate)

/-- Channels a group needs of its engine. -/
def State.groupLoad (s : State) (rate g : Nat) : Nat :=
  ((s.members g).map fun m => engineLoad rate m.1 m.2).foldl (· + ·) 0

/-- Channels an engine converts (R282). -/
def engineCap (rate : Nat) : Nat := if rate = 96000 then 64 else 128

/-- Groups with members, lowest first. -/
def State.groupsInUse (s : State) : List Nat :=
  (List.range 128).filter fun g => decide (s.members g ≠ [])

/-- Place groups on engines, first fit in index order; the engine loads after each, and the groups
that found no room. -/
def placeGroups (cap : Nat) : List Nat → List (Nat × Nat) → List Nat × List (Nat × Nat)
  | _, [] => ([], [])
  | loads, (g, n) :: rest =>
    match (List.range loads.length).find? fun i => decide (loads.getD i 0 + n ≤ cap) with
    | some i =>
      let r := placeGroups cap (loads.set i (loads.getD i 0 + n)) rest
      (r.1, (g, i) :: r.2)
    | none =>
      let r := placeGroups cap loads rest
      (g :: r.1, r.2)

/-- The groups that do not fit a profile's engines, and the engine of each that does (R282). -/
def State.enginePlan (s : State) (p : Nat) : List Nat × List (Nat × Nat) :=
  placeGroups (engineCap (profRate p)) (List.replicate (profAsrc p) 0)
    (s.groupsInUse.map fun g => (g, s.groupLoad (profRate p) g))

/-- Every group fits in the active profile. -/
def State.enginesFit (s : State) : Bool := decide ((s.enginePlan s.fab.active).1 = [])

/-- CAP of R267 in samples. -/
def bufferCap (rate : Nat) : Nat := 1024 * rate / 48000

/-- DEPTH of R268, in the stream's own samples. -/
def streamDepth (p : Nat) (e : List Byte) : Nat :=
  let fs := fsHz (Ent.fs e)
  let lfs := (profLen p * fs + profRate p - 1) / profRate p
  (u32 e 16 * fs + second - 1) / second + 2 * Ent.spp e + 2 * lfs + (if Ent.flag e 3 then 0 else 64)

/-- Samples of buffer that a channel of an entry has. -/
def entryCap (rate : Nat) (e : List Byte) : Nat :=
  if Ent.flag e 6 then 4 * bufferCap rate else bufferCap rate

/-- Bytes of reserve banks assigned to jitter-buffer depth (R44, Table 13-3 use 2). -/
def State.deepReserve (s : State) : Nat :=
  (s.dat.reserve.filter fun r => r.2.2 == 2).foldl (fun n r => n + r.2.1 * 131072) 0

/-- Bytes that DEEP entries draw, entry `i` standing as `e` (R267). -/
def State.deepDemand (s : State) (i : Nat) (e : List Byte) : Nat :=
  let one := fun e : List Byte =>
    if Ent.valid e && Ent.flag e 6 then 16 * bufferCap s.rate * Ent.ch e else 0
  (s.str.rx.filter fun x => x.1 != i).foldl (fun n x => n + one x.2.entry) (one e)

/-- Reserved bandwidth of a transmit entry in bits per second (R288). -/
def reservedBps (e : List Byte) (rate : Nat) : Nat :=
  let period := if Ent.crf e then Ent.spp e * u16 e 92 else Ent.spp e
  if period = 0 then 0 else (frameMost e (Ent.flag e 2) + 20) * 8 * rate / period

/-- Reserved bandwidth of a port's enabled streams of one class, stream `i` standing as `e`. -/
def State.classBps (s : State) (p : Nat) (classB : Bool) (i : Nat) (e : List Byte) : Nat :=
  let one := fun e : List Byte =>
    if Ent.enabled e && Ent.onPort e p && Ent.flag e 5 == classB then reservedBps e s.rate else 0
  (s.str.tx.filter fun x => x.1 != i).foldl (fun n x => n + one x.2.entry) (one e)

/-- Idle slope of a class on a port (R225, R288). -/
def State.idleSlope (s : State) (p : Nat) (classB : Bool) : Nat := s.classBps p classB 512 []

/-- A queue's head waits, and not for its launch time alone. -/
def waitsNow (now : Nat) (q : List TxFrame) : Bool :=
  match q with
  | [] => false
  | f :: _ => f.replay || (f.launch.elim true fun l => decide (l.1 * second + l.2 ≤ now))

/-- A class's credit after `dt` ns at its idle slope: up to the limit of IEEE 802.1Q while a frame waits,
else up to zero (R225). -/
def grownCredit (c : Int) (slope dt : Nat) (waits : Bool) (top : Int) : Int :=
  let n := c + ((slope * dt : Nat) : Int)
  if waits then min n (max top c) else min n 0

/-- Credits of classes A and B of a port as they stand now. -/
def State.settleCredit (s : State) (p : Nat) : State :=
  let x := s.port p
  let dt := s.time.elapsed - x.creditAt
  let now := s.time.now.nanos
  let rate := modeMbps p x.mode * 1000000
  let grow := fun (k : Nat) (b : Bool) (c : Int) =>
    let slope := s.idleSlope p b
    let top : Nat := (s.maxFrame p + 20) * 8 * slope * second / rate
    grownCredit c slope dt (waitsNow now (tget [] x.tx k)) top
  let a := grow 2 false x.creditA
  let b := grow 3 true x.creditB
  s.modPort p fun y => { y with creditA := a, creditB := b, creditAt := s.time.elapsed }

/-- Classes A and B would exceed 75% of a port the entry names (R288). -/
def State.overBandwidth (s : State) (i : Nat) (e : List Byte) : Bool :=
  (entPorts e).any fun p =>
    decide (modeMbps p (s.port p).mode * 750000 < s.classBps p false i e + s.classBps p true i e)

/-! ## Checks of a binding -/

/-- Entry bytes as a binding leaves them: ISLAND is read-only. -/
def maskIsland (old new : List Byte) : List Byte :=
  le 1 (u8 new 0 % 128 + 128 * b2n (Ent.island old)) ++ (slice new 1 127)

/-- Map entries that a STR_BIND carries after the entry. -/
def bindRun (p : List Byte) : List Nat :=
  (List.range ((p.length - 128) / 2)).map fun i => u16 p (128 + 2 * i)

/-- Channel indices beyond the active profile's capacity (R257). -/
def overCapacity (p : Nat) (run : List Nat) : Bool :=
  run.any fun v => !mapNone v && decide (profChannels p ≤ v)

/-- Statuses of a receive binding, in the order of their rules. -/
def State.rxBindCheck (s : State) (i : Nat) (e : List Byte) (run : List Nat) : Option Nat :=
  let others := (s.str.rx.filter fun x => x.1 != i).map (·.2.entry)
  let g := u8 e 9
  let s' := s.modRx i fun x => { x with entry := e }
  let hz := fsHz (Ent.fs e)
  firstFail
    [ (rxEntryBad e || run.any (!mapWordOk ·) || (!Ent.crf e && s.runBad false i e run) ||
        others.any (fun o => Ent.valid o && sharesKey e o), Status.badParam),
      (Ent.grouped e && (s'.members g).any fun m => m.1 != 0 && m.1 != hz, Status.coupling),
      (overCapacity s.fab.active run, Status.budget),
      (decide (entryCap s.rate e < streamDepth s.fab.active e) && !Ent.crf e, Status.noSpace),
      (decide (s.deepReserve < s.deepDemand i e), Status.noSpace),
      (!s'.enginesFit, Status.noSpace),
      ((entPorts e).any fun p => decide (s.maxFrame p < frameMost e (Ent.flag e 4)),
        Status.frameTooLong) ]

/-- Statuses of a transmit binding. -/
def State.txBindCheck (s : State) (i : Nat) (e : List Byte) (run : List Nat) : Option Nat :=
  firstFail
    [ (txEntryBad e s.rate || run.any (!mapWordOk ·) || (!Ent.crf e && s.runBad true i e run),
        Status.badParam),
      (overCapacity s.fab.active run, Status.budget),
      (s.overBandwidth i e, Status.noSpace),
      ((entPorts e).any fun p => decide (s.maxFrame p < frameMost e (Ent.flag e 2)),
        Status.frameTooLong) ]

/-- The entry of a stream unit. -/
def State.streamEntry (s : State) (u : Nat) : List Byte :=
  if unitClass u = 1 then (s.rx (unitIndex u)).entry else (s.tx (unitIndex u)).entry

def State.claimedStream (s : State) (u : Nat) : Bool := Ent.island (s.streamEntry u)

/-- Statuses of STR_BIND. An entry with VALID clear unbinds, and its other bytes are not judged. -/
def bindStreamCheck (r : Req) (s : State) : Option Nat :=
  let e := maskIsland (s.streamEntry r.target) (slice r.params 0 128)
  let run := bindRun r.params
  firstFail
    [ (r.params.length != 128 + 2 * Ent.ch e, Status.badLength),
      (s.claimedStream r.target || s.locked r, Status.safetyLock) ] <|>
  (if Ent.valid e then
    (if unitClass r.target = 1 then s.rxBindCheck r.index e run else s.txBindCheck r.index e run)
   else none)

/-! ## States (Table 6-5) -/

def rxEvent (s : State) (code sev i : Nat) (detail : List Byte) : State :=
  s.event code sev 0x03 (0x1000 + i) (le 2 (0x1000 + i) ++ detail)

/-- Causes that suspend a receive entry: 1 capacity, 2 rate or clock, 3 depth, 4 engines. -/
def State.rxCauses (s : State) (x : RxStream) : Nat :=
  let e := x.entry
  let p := s.fab.active
  if Ent.valid e && !Ent.crf e then
    b2n (!Ent.island e && overCapacity p x.run) +
      2 * b2n (Ent.flag e 3 && (fsHz (Ent.fs e) != s.rate ||
        (s.loop s.time.render).cfg.ref != 1)) +
      4 * b2n (decide (entryCap s.rate e < streamDepth p e)) +
      8 * b2n (Ent.grouped e && (s.group (u8 e 9)).suspended)
  else 0

/-- Number of the lowest cause in a mask, from 1. -/
def firstCause (m : Nat) : Nat := (((List.range 4).find? fun i => bitOf m i).getD 0) + 1

/-- The state that an entry's settings, causes and group give it; PRESENT, WAITING and ABSENT are
kept where none of them acts. -/
def State.rxTarget (s : State) (x : RxStream) : Nat :=
  if !Ent.enabled x.entry then 0
  else if x.causes ≠ 0 then 4
  else if Ent.grouped x.entry && !(s.group (u8 x.entry 9)).locked then 5
  else if x.state = 2 ∨ x.state = 3 then x.state
  else if 4 ≤ x.state ∧ 2 ≤ x.former then x.former
  else 1

/-- Clear the merge window and the anchors (R277). -/
def RxStream.release (x : RxStream) : RxStream :=
  { x with
    high := none, seen := 0, lostKeys := 0, stale := 0, anchor := none
    oldSsrc := if x.ssrc.isSome then x.ssrc else x.oldSsrc, ssrc := none }

/-- An entry's state is judged afresh (R257, R266, R268, R276, R278, R282). Leaving PRESENT for any
state but ABSENT fades out over 64 samples; a return from UNLOCKED fades in. -/
def State.judgeRx (s : State) (i : Nat) : State :=
  let x := s.rx i
  let causes := s.rxCauses x
  let x' := { x with causes := causes }
  let t := s.rxTarget x'
  let leaves := x.state == 2 && t != 2
  let x' := { x' with
    state := t
    former := if 4 ≤ t && decide (x.state < 4) then x.state else x.former
    fade := if leaves then Fade.out 64 else if x.state != 2 && t == 2 then Fade.start 64 else x.fade
    accepted := if t = 0 then 0 else x.accepted }
  let x' := if t = 0 ∨ (t = 1 ∧ x.state ≠ 1) then x'.release else x'
  let s := s.setRx i x'
  if x.causes = 0 ∧ causes ≠ 0 then
    rxEvent s 0x0306 Sev.warning i (le 1 (firstCause causes))
  else s

/-- Causes that suspend a transmit entry: 1 capacity, 2 rate. -/
def State.txCauses (s : State) (x : TxStream) : Nat :=
  if Ent.valid x.entry then
    b2n (!Ent.island x.entry && overCapacity s.fab.active x.run) +
      2 * b2n (fsHz (Ent.fs x.entry) != s.rate)
  else 0

/-! ## Continuity (R290, R291) -/

/-- Samples between packets of a transmit entry. -/
def packetStep (e : List Byte) : Nat :=
  if Ent.crf e then Ent.spp e * u16 e 92 else Ent.spp e

/-- Re-anchor at boundary `b`: each base becomes the number after the last packet formed; a
render-index step inverts mr (R291). -/
def TxStream.anchor (x : TxStream) (b : Nat) (step : Bool) : TxStream :=
  { x with
    rtpBase := (x.rtpBase + x.formed) % 65536
    avtpBase := (x.avtpBase + x.formed) % 256
    riBase := b, formed := 0, mr := x.mr != step }

/-- The continuity record (Table 6-7). -/
def continuityData (s : State) (i : Nat) : List Byte :=
  let x := s.tx i
  le 2 (0x2000 + i) ++ le 2 x.rtpBase ++ le 1 x.avtpBase ++ le 1 (b2n x.mr) ++ zeros 2
    ++ le 8 x.riBase ++ le 4 x.ssrc ++ le 4 x.mco

/-- Send continuity records in STREAM_STATE messages of at most 256 records (R589, R595). -/
def State.sendRecords (s : State) (is : List Nat) : Nat → State
  | 0 => s
  | fuel + 1 =>
    if is = [] then s
    else
      let now := is.take 256
      let s := s.sightSend 0x04 0 0 0 (le 2 now.length ++ zeros 2 ++ now.flatMap (continuityData s))
      s.sendRecords (is.drop 256) fuel

/-- A Foresight sends the record of a transmit entry that it has re-anchored (R595). -/
def State.sendContinuity (s : State) (i : Nat) : State := if s.pair.mirroring then s.sendRecords [i] 1 else s

/-- A transmit entry's suspension is judged afresh; a return re-anchors (R284, R291). -/
def State.judgeTx (s : State) (i : Nat) : State :=
  let x := s.tx i
  let c := s.txCauses x
  let x' := if x.causes ≠ 0 ∧ c = 0 then x.anchor s.time.ri false else x
  let s := s.setTx i { x' with causes := c }
  let s := if x.causes ≠ 0 ∧ c = 0 then s.sendContinuity i else s
  if x.causes = 0 ∧ c ≠ 0 then
    s.event 0x0306 Sev.warning 0x03 (0x2000 + i) (le 2 (0x2000 + i) ++ le 1 (firstCause c))
  else s

def State.judgeStreams (s : State) : State :=
  let s := (s.str.rx.map (·.1)).foldl State.judgeRx s
  (s.str.tx.map (·.1)).foldl State.judgeTx s

/-! ## Binding -/

/-- Bytes of a receive entry that name its source, and of a transmit entry that name its source and
destination (Table 2-9, R296). -/
def sourceOf (rx : Bool) (e : List Byte) : List Byte :=
  if rx then slice e 12 4 ++ slice e 24 2 ++ slice e 28 88 else slice e 12 4 ++ slice e 24 4 ++ slice e 40 52

/-- Receive channels of entry `i` whose stream channel changes fade across (R296). -/
def State.moveChannels (s : State) (i : Nat) (old new : List Nat) : State :=
  let moved := new.filter fun v => !mapNone v && (old.idxOf? v != new.idxOf? v)
  s.strMod fun t => { t with
    moves := moved.foldl (fun c v =>
      tput ChMove.reset c v { oldRx := i, oldCh := old.idxOf? v, pos := 0 }) t.moves }

/-- A receive entry takes a value and a run (R276, R296). -/
def State.adoptRx (s : State) (i : Nat) (e : List Byte) (run : List Nat) : State :=
  let x := s.rx i
  let moved := sourceOf true x.entry != sourceOf true e
  let s := if moved then s.bumpGen (0x1000 + i) else s.moveChannels i x.run run
  let x' := { x with entry := e, run := run }
  let x' := if moved && x.state == 2 then { x'.release with state := 1, fade := Fade.out 64 } else x'
  (s.setRx i x').judgeRx i

/-- A value the device draws from its random source (R291). -/
def State.drawN (s : State) (w : Nat) : Nat × State := s.draw w

/-- A transmit entry takes a value and a run (R291): its first binding draws sequence bases, and an
SSRC of 0 draws one unless neither source nor destination changes. -/
def State.adoptTx (s : State) (i : Nat) (e : List Byte) (run : List Nat) : State :=
  let x := s.tx i
  let old := x.entry
  let moved := sourceOf false old != sourceOf false e
  let s := if moved then s.bumpGen (0x2000 + i) else s
  let d1 := s.draw 16
  let d2 := d1.2.draw 8
  let d3 := d2.2.draw 32
  let reanchor := Ent.format old != Ent.format e || Ent.spp old != Ent.spp e ||
    Ent.fs old != Ent.fs e || (Ent.enabled e && !Ent.enabled old)
  let x' := { x with
    entry := e, run := run, bound := true, mco := u32 e 20
    rtpBase := if x.bound then x.rtpBase else d1.1
    avtpBase := if x.bound then x.avtpBase else d2.1
    ssrc := if u32 e 32 ≠ 0 then u32 e 32
      else if x.bound && !moved then x.ssrc else d3.1 }
  let x' := if reanchor then x'.anchor s.time.ri false else x'
  let s := if x.bound then s else d2.2
  let s := if u32 e 32 = 0 ∧ ¬ (x.bound = true ∧ moved = false) then { s with freeCtr := d3.2.freeCtr } else s
  let s := (s.setTx i x').judgeTx i
  if reanchor then s.sendContinuity i else s

/-- The entry and run of a stream unit change. -/
def State.adoptStream (s : State) (u : Nat) (e : List Byte) (run : List Nat) : State :=
  let s := s.strMod fun t => { t with pendc := t.pendc.filter (· != u) }
  if unitClass u = 1 then s.adoptRx (unitIndex u) e run else s.adoptTx (unitIndex u) e run

/-! ## Records (R567, R570, R295) -/

/-- The record of a stream entry or of its ENABLE bit. -/
def streamRecord (k : RecKey) (s : State) : List Byte :=
  let e := padBytes 128 (s.streamEntry k.unit)
  if k.kind = Rec.strEnable then enableByte (u8 e 0) 1
  else (s.heldOf k).getD e
where
  /-- A record at its full length; bytes never written are zero. -/
  padBytes (n : Nat) (b : List Byte) : List Byte := slice (b ++ zeros n) 0 n

/-- Set ENABLE in an entry. -/
def withEnable (e : List Byte) (on : Bool) : List Byte :=
  let b := u8 e 0
  le 1 (b - 2 * b2n (bitOf b 1) + 2 * b2n on) ++ slice e 1 127

/-- A set of entry and run is consistent and could be bound (R256, R295). -/
def State.streamSetOk (s : State) (u : Nat) (e : List Byte) (run : List Nat) : Bool :=
  !Ent.valid e ||
    (run.length == Ent.ch e && run.all mapWordOk &&
      (if unitClass u = 1 then !rxEntryBad e && (Ent.crf e || !s.runBad false (unitIndex u) e run)
       else !txEntryBad e s.rate && (Ent.crf e || !s.runBad true (unitIndex u) e run)))

/-- PENDING_COUPLE of a stream, reported once (R570). -/
def State.pendStream (s : State) (u : Nat) : State :=
  if s.str.pendc.contains u then s
  else
    (s.strMod fun t => { t with pendc := t.pendc ++ [u] }).event 0x0206 Sev.warning 0x02 u (le 2 u)

/-- A record of a stream takes a value; a whole entry keeps the ENABLE bit in effect. -/
def writeStream (k : RecKey) (r : List Byte) (s : State) : State :=
  let old := streamRecord.padBytes 128 (s.streamEntry k.unit)
  let run := if unitClass k.unit = 1 then (s.rx (unitIndex k.unit)).run else (s.tx (unitIndex k.unit)).run
  if k.kind = Rec.strEnable then s.adoptStream k.unit (withEnable old (u8 r 0 == 1)) run
  else
    let e := maskIsland old (withEnable r (bitOf (u8 old 0) 1))
    let run := s.runOf (unitClass k.unit == 2) e
    if s.streamSetOk k.unit e run then (s.setHeld k none).adoptStream k.unit e run
    else (s.setHeld k (some r)).pendStream k.unit

/-- An entry's set is judged at a boundary: a held record, or a map run that has changed (R295). -/
def State.judgeSet (s : State) (u : Nat) : State :=
  let k : RecKey := { kind := Rec.stream, unit := u, sub := 0 }
  match s.heldOf k with
  | some r => writeStream k r s
  | none =>
    let e := s.streamEntry u
    let inEffect := if unitClass u = 1 then (s.rx (unitIndex u)).run else (s.tx (unitIndex u)).run
    let run := s.runOf (unitClass u == 2) e
    if !Ent.valid e || Ent.island e || run = inEffect then s
    else if s.streamSetOk u e run then s.adoptStream u e run
    else s.pendStream u

/-- Units whose sets a boundary judges. -/
def State.boundStreams (s : State) : List Nat :=
  (s.str.rx.map fun x => 0x1000 + x.1) ++ (s.str.tx.map fun x => 0x2000 + x.1)

def State.judgeSets (s : State) : State := s.boundStreams.foldl State.judgeSet s

/-! ## Opcodes -/

/-- STR_BIND: the map run, then the whole entry (R295). -/
def bindStream (r : Req) (s : State) : State :=
  let e := slice r.params 0 128
  let s := if Ent.valid e then s.putMap (unitClass r.target == 2) (Ent.base e) (bindRun r.params) else s
  s.putAll streamRecord writeStream r

def strBindBody : Body := atBoundary bindStreamCheck bindStream

/-- STR_BIND (R251-R261, R267, R268, R288, R291, R295, R296). -/
def execStrBind (q : Nat) (s : State) : Host.Outcome State Fault Refusal :=
  commandRow "STR_BIND" 0x0301 strBindBody q s

/-- Reply data of STR_GET. -/
def strGetData (r : Req) (s : State) : List Byte :=
  let e := streamRecord.padBytes 128 (s.streamEntry r.target)
  e ++ ((s.runOf (unitClass r.target == 2) e).map fun v => le 2 v).flatten

def strGetBody : Body := query strGetData

/-- STR_GET (R258). -/
def execStrGet (q : Nat) (s : State) : Host.Outcome State Fault Refusal :=
  commandRow "STR_GET" 0x0300 strGetBody q s

def enableStreamCheck (r : Req) (s : State) : Option Nat :=
  let on := u8 r.params 0 == 1
  let e := s.streamEntry r.target
  firstFail
    [ (decide (1 < u8 r.params 0) || !zeroAt r.params 1 3, Status.badParam),
      (s.claimedStream r.target || s.locked r, Status.safetyLock),
      (on && unitClass r.target == 2 && Ent.valid e && s.overBandwidth r.index (withEnable e true),
        Status.noSpace) ]

/-- What STR_ENABLE does once its check passes. -/
def strEnableEffect (r : Req) (s : State) : State := s.putAll streamRecord writeStream r

def strEnableBody : Body := atBoundary enableStreamCheck strEnableEffect

/-- STR_ENABLE (R276, R278, R288, R291). -/
def execStrEnable (q : Nat) (s : State) : Host.Outcome State Fault Refusal :=
  commandRow "STR_ENABLE" 0x0302 strEnableBody q s

/-- Map entries that a STR_SET_MAP carries. -/
def mapWords (p : List Byte) : List Nat := (List.range (u16 p 4)).map fun i => u16 p (8 + 2 * i)

def setMapCheck (r : Req) (_s : State) : Option Nat :=
  let p := r.params
  firstFail
    [ (decide (1 < u8 p 0) || u8 p 1 != 0 || u16 p 4 == 0 || decide (1024 < u16 p 4) ||
        !zeroAt p 6 2 || decide (2048 < u16 p 2 + u16 p 4) || (mapWords p).any (!mapWordOk ·),
        Status.badParam),
      (p.length != 8 + 2 * u16 p 4, Status.badLength) ]

/-- What STR_SET_MAP does once its check passes. -/
def strSetMapEffect (r : Req) (s : State) : State :=
  (s.putMap (u8 r.params 0 == 1) (u16 r.params 2) (mapWords r.params)).judgeSets

def strSetMapBody : Body := atBoundary setMapCheck strSetMapEffect

/-- STR_SET_MAP (R255, R295, R296). -/
def execStrSetMap (q : Nat) (s : State) : Host.Outcome State Fault Refusal :=
  commandRow "STR_SET_MAP" 0x0303 strSetMapBody q s

/-! ## ASRC groups (R279-R282) -/

/-- A LOOP group is locked while its loop is LOCKED or in COAST (R281). -/
def State.loopGroupLocked (s : State) (x : AsrcGroup) : Bool :=
  (s.loop x.loop).state == .locked || (s.loop x.loop).state == .coast

/-- Whether a group is LOCKED by its mode alone; a TRACK group keeps its state. -/
def State.groupLock (s : State) (x : AsrcGroup) : Bool :=
  match x.mode with
  | 0 => true
  | 2 => s.loopGroupLocked x
  | _ => x.locked

/-- A group's lock changes: the event, and its members (R281). A TRACK group that unlocks is
reported; leaving LOOP or NOMINAL lock changes members only. -/
def State.setLock (s : State) (g : Nat) (on : Bool) : State :=
  let x := s.group g
  if x.locked = on then s
  else
    let s := s.setGroup g { x with locked := on }
    let s := s.event (if on then 0x0308 else 0x0309) (if on then Sev.notice else Sev.warning) 0x03 0x0000
      (le 2 g ++ zeros 2 ++ leI 4 (sat32 x.ppb))
    (s.str.rx.filter fun y => Ent.grouped y.2.entry && u8 y.2.entry 9 == g).foldl
      (fun s y =>
        let s := s.judgeRx y.1
        if on then s.modRx y.1 fun z => { z with fade := Fade.start 64 } else s) s

/-- The groups that follow a media loop are judged when it changes state. -/
def State.judgeLoopGroups (s : State) : State :=
  (s.str.group.filter fun x => x.2.mode == 2).foldl
    (fun s x => s.setLock x.1 (s.loopGroupLocked (s.group x.1))) s

def asrcCheck (r : Req) (s : State) : Option Nat :=
  let p := r.params
  firstFail
    [ (decide (127 < u8 p 0) || decide (2 < u8 p 1) || u8 p 3 != 0 ||
        (if u8 p 1 = 2 then u8 p 2 != 1 && u8 p 2 != 2 else u8 p 2 != 0), Status.badParam),
      (!s.enginesFit, Status.noSpace) ]

/-- STR_ASRC_CONFIG: a change of mode unlocks the group, and its members follow R281 (R297). -/
def configGroup (r : Req) (s : State) : State :=
  let g := u8 r.params 0
  let x := s.group g
  let changed := x.mode != u8 r.params 1
  let s := if changed then s.setLock g false else s
  let y := { s.group g with mode := u8 r.params 1, loop := u8 r.params 2 }
  let s := s.setGroup g y
  s.setLock g (s.groupLock y)

def strAsrcConfigBody : Body := atBoundary asrcCheck configGroup

/-- STR_ASRC_CONFIG (R279, R281, R282, R297). -/
def execStrAsrcConfig (q : Nat) (s : State) : Host.Outcome State Fault Refusal :=
  commandRow "STR_ASRC_CONFIG" 0x0305 strAsrcConfigBody q s

/-! ## Queries -/

/-- State byte of a stream (Table 6-5); a transmit entry shows DISABLED, SUSPENDED or PRESENT. -/
def State.streamState (s : State) (u : Nat) : Nat :=
  if unitClass u = 1 then (s.rx (unitIndex u)).state
  else
    let x := s.tx (unitIndex u)
    if !Ent.enabled x.entry then 0 else if x.causes ≠ 0 then 4 else 2

/-- The group's state: 1 LOCKED, 0 unlocked. -/
def State.groupByte (s : State) (u : Nat) : Nat :=
  if unitClass u = 1 && Ent.grouped (s.rx (unitIndex u)).entry then
    b2n (s.group (u8 (s.rx (unitIndex u)).entry 9)).locked
  else 0

/-- The sample side's position in the stream's own samples (R269). -/
def State.streamPos (s : State) (e : List Byte) : Nat :=
  if Ent.grouped e then (s.group (u8 e 9)).pos / 4294967296 else s.posRi

/-- Mean residency: filled positions ahead of the sample side. -/
def State.residency (s : State) (x : RxStream) : Nat :=
  (x.buf.filter fun b => decide (s.streamPos x.entry < b.1)).length

def State.streamCounters (s : State) (u : Nat) : Tab Nat :=
  if unitClass u = 1 then (s.rx (unitIndex u)).counters else (s.tx (unitIndex u)).counters

/-- STR_STATUS reply (Table 6-9). -/
def streamStatusData (s : State) (u : Nat) : List Byte :=
  let c := s.streamCounters u
  let rx := unitClass u == 1
  let e := s.streamEntry u
  le 1 (s.streamState u) ++ le 1 (s.groupByte u) ++ zeros 2
    ++ le 2 (if rx && Ent.valid e then streamDepth s.fab.active e else 0)
    ++ le 2 (if rx then s.residency (s.rx (unitIndex u)) else 0)
    ++ ((List.range 15).map fun i => le 4 (tget 0 c i)).flatten

def State.clearStream (s : State) (u : Nat) : State :=
  if unitClass u = 1 then s.modRx (unitIndex u) fun x => { x with counters := [], lateMark := 0, missMark := 0 }
  else s.modTx (unitIndex u) fun x => { x with counters := [] }

def strStatusBody : Body := fun _ r s =>
  let c := u8 r.params 0
  if 1 < c ∨ zeroAt r.params 1 3 = false then .bad Status.badParam
  else if c = 1 ∧ r.hasLevel s 2 = false then .deny
  else .done (if c = 1 then s.clearStream r.target else s) (streamStatusData s r.target)

/-- STR_STATUS (R276, R297). -/
def execStrStatus (q : Nat) (s : State) : Host.Outcome State Fault Refusal :=
  commandRow "STR_STATUS" 0x0304 strStatusBody q s

/-- Reply data of STR_CONTINUITY. -/
def strContinuityData (r : Req) (s : State) : List Byte := continuityData s r.index

def strContinuityBody : Body := query strContinuityData

/-- STR_CONTINUITY (R290). -/
def execStrContinuity (q : Nat) (s : State) : Host.Outcome State Fault Refusal :=
  commandRow "STR_CONTINUITY" 0x0306 strContinuityBody q s

/-- One session of STR_SDP_LIST's reply. -/
def SdpSession.bytes (x : SdpSession) : List Byte :=
  slice (x.origin ++ zeros 16) 0 16 ++ le 8 x.session ++ le 2 x.text.length ++ zeros 2 ++ x.text

/-- As many sessions as fit in the room left. -/
def sdpFit (room : Nat) : List SdpSession → List SdpSession
  | [] => []
  | x :: xs => if x.bytes.length ≤ room then x :: sdpFit (room - x.bytes.length) xs else []

def strSdpListBody : Body := fun _ r s =>
  if zeroAt r.params 2 2 = false then .bad Status.badParam
  else
    let l := sdpFit 4072 (s.str.sdp.drop (u16 r.params 0))
    .done s (le 2 l.length ++ zeros 2 ++ (l.map SdpSession.bytes).flatten)

/-- STR_SDP_LIST (R293). -/
def execStrSdpList (q : Nat) (s : State) : Host.Outcome State Fault Refusal :=
  commandRow "STR_SDP_LIST" 0x0307 strSdpListBody q s

end Sys2Proof.Machine
end

