-- ==== Sys2Proof/Machine/StreamIn.lean ====
section
/-!
DEFINITION. Sys2Proof/Machine/StreamIn.lean: Ethernet, IP and UDP fields of a received frame, how a stream
packet is matched, judged and written into the jitter buffer, and what receive channels present
(R252, R261-R265, R269-R281).
-/
namespace Sys2Proof.Machine

/-! ## Frames -/

/-- An Ethernet frame without its FCS: addresses, tag control information, EtherType and the rest. -/
structure Fr where
  bytes : List Byte
  dst   : List Byte
  src   : List Byte
  tci   : Option Nat
  etype : Nat
  body  : List Byte
  deriving DecidableEq, Repr

def parseFr (f : List Byte) : Fr :=
  let tagged := ub 2 f 12 == 0x8100
  let o := if tagged then 16 else 12
  { bytes := f, dst := slice f 0 6, src := slice f 6 6
    tci := if tagged then some (ub 2 f 14) else none
    etype := ub 2 f o, body := f.drop (o + 2) }

/-- VLAN ID, 0 for an untagged frame. -/
def Fr.vid (x : Fr) : Nat := x.tci.getD 0 % 4096

/-- A UDP datagram inside a frame; addresses as 16 bytes, IPv4 in the first four. -/
structure Udp where
  v6      : Bool
  src     : List Byte
  dst     : List Byte
  sport   : Nat
  dport   : Nat
  csum    : Nat
  /-- one's complement sum over the pseudo-header and the datagram -/
  sumOk   : Bool
  frag    : Bool
  payload : List Byte
  deriving DecidableEq, Repr

/-- One's complement sum of 16-bit big-endian words. -/
def onesSum : List Byte → Nat
  | [] => 0
  | [a] => a.toNat * 256
  | a :: b :: rest => let n := a.toNat * 256 + b.toNat + onesSum rest; n % 65536 + n / 65536

/-- The Internet checksum. -/
def inetSum (b : List Byte) : Nat := 65535 - (let n := onesSum b; n % 65536 + n / 65536)

/-- The pseudo-header of a UDP datagram. -/
def pseudo (v6 : Bool) (src dst : List Byte) (len : Nat) : List Byte :=
  if v6 then src ++ dst ++ be 4 len ++ be 4 17
  else src.take 4 ++ dst.take 4 ++ be 2 17 ++ be 2 len

def pad16 (b : List Byte) : List Byte := slice (b ++ zeros 16) 0 16

/-- The UDP datagram of a frame, if it carries one. -/
def Fr.udp (x : Fr) : Option Udp :=
  let b := x.body
  let v6 := x.etype == 0x86DD
  let ihl := if v6 then 40 else u8 b 0 % 16 * 4
  let isUdp := if v6 then u8 b 0 / 16 == 6 && u8 b 6 == 17
    else x.etype == 0x0800 && u8 b 0 / 16 == 4 && u8 b 9 == 17
  let len := ub 2 b (ihl + 4)
  let src := if v6 then slice b 8 16 else pad16 (slice b 12 4)
  let dst := if v6 then slice b 24 16 else pad16 (slice b 16 4)
  let frag := !v6 && ub 2 b 6 % 16384 != 0
  if isUdp && decide (8 ≤ len) && decide (ihl + len ≤ b.length) && decide (20 ≤ ihl) then
    some { v6 := v6, src := src, dst := dst, sport := ub 2 b ihl, dport := ub 2 b (ihl + 2)
           csum := ub 2 b (ihl + 6)
           sumOk := inetSum (pseudo v6 src dst len ++ slice b ihl len) == 0
           frag := frag, payload := slice b (ihl + 8) (len - 8) }
  else none

/-! ## Matching (R261) -/

/-- AVTP subtype of a format. -/
def avtpSubtype (e : List Byte) : Nat := if Ent.crf e then 4 else 2

/-- A frame matches a valid, enabled entry on a port; `any`: entries without a source filter. -/
def matchesRx (p : Nat) (x : Fr) (e : List Byte) (filtered : Bool) : Bool :=
  Ent.enabled e && Ent.onPort e p && x.vid == Ent.vid e p &&
    (if Ent.aes67 e then
      match x.udp with
      | some u =>
        !u.frag && (u.v6 == Ent.flag e 4) && u.dst == slice e (32 + 16 * p) 16 &&
          u.dport == u16 e 24 &&
          (if filtered then srcFilter e p == u.src && srcFilter e p != zeros 16
           else srcFilter e p == zeros 16)
      | none => false
     else
      !filtered && x.etype == 0x22F0 && u8 x.body 0 == avtpSubtype e &&
        slice x.body 4 8 == slice e 96 8 && x.dst == slice e (104 + 6 * p) 6)

/-- The entry a frame matches: one with a source filter before one without. -/
def State.matchStream (s : State) (p : Nat) (x : Fr) : Option Nat :=
  match s.str.rx.find? fun i => matchesRx p x i.2.entry true with
  | some i => some i.1
  | none => (s.str.rx.find? fun i => matchesRx p x i.2.entry false).map (·.1)

/-! ## A packet's content (R262) -/

/-- What a packet that passes R262 carries. -/
structure StrPacket where
  key     : Nat
  ssrc    : Nat
  /-- RTP timestamp, or avtp_timestamp -/
  ts      : Nat
  /-- an AVTP timestamp is valid -/
  tv      : Bool
  samples : List Byte
  deriving DecidableEq, Repr

/-- The RTP payload after CSRC list, extension and padding. -/
def rtpPayload (b : List Byte) : List Byte :=
  let cc := u8 b 0 % 16
  let o := 12 + 4 * cc
  let o := if bitOf (u8 b 0) 4 then o + 4 + 4 * ub 2 b (o + 2) else o
  let pad := if bitOf (u8 b 0) 5 then u8 b (b.length - 1) else 0
  slice b o (b.length - o - pad)

/-- AAF format code and nominal sample rate code of IEEE 1722. -/
def aafFormat (fmt : Nat) : Nat := match fmt with | 0x11 => 4 | 0x12 => 3 | _ => 2
def aafNsr (fs : Nat) : Nat := match fs with | 0 => 5 | 1 => 7 | 2 => 4 | _ => 6

/-- Read a matched frame's packet; none where it disagrees with the entry (R262). -/
def readPacket (e : List Byte) (x : Fr) : Option StrPacket :=
  let need := Ent.ch e * Ent.spp e * wordBytes (Ent.format e)
  if Ent.aes67 e then
    match x.udp with
    | none => none
    | some u =>
      let b := u.payload
      let pay := rtpPayload b
      let sumBad := if u.v6 then !u.sumOk else u.csum != 0 && !u.sumOk
      if u8 b 0 / 64 ≠ 2 ∨ (u8 e 26 ≠ 0xFF ∧ u8 b 1 % 128 ≠ u8 e 26) ∨ pay.length ≠ need ∨
          sumBad = true ∨ b.length < 12 then none
      else some { key := ub 2 b 2, ssrc := ub 4 b 8, ts := ub 4 b 4, tv := true, samples := pay }
  else
    let b := x.body
    if Ent.crf e then
      if u8 b 3 ≠ 1 ∨ u8 b 12 / 32 ≠ 0 ∨ ub 4 b 12 % 2 ^ 29 ≠ fsHz (Ent.fs e) ∨
          ub 2 b 16 ≠ 8 * Ent.spp e ∨ ub 2 b 18 ≠ u16 e 116 then none
      else some { key := u8 b 2, ssrc := 0, ts := 0, tv := false, samples := [] }
    else if u8 b 16 ≠ aafFormat (Ent.format e) ∨ u8 b 17 / 16 ≠ aafNsr (Ent.fs e) ∨
        ub 2 b 17 % 1024 ≠ Ent.ch e ∨ u8 b 19 ≠ 8 * wordBytes (Ent.format e) ∨
        ub 2 b 20 ≠ need ∨ b.length < 24 + need then none
    else some { key := u8 b 2, ssrc := 0, ts := ub 4 b 12, tv := bitOf (u8 b 1) 0,
                samples := slice b 24 need }

/-! ## The merge window (R271, R272) -/

/-- Add to a counter of a receive entry (Table 6-10). -/
def RxStream.count (x : RxStream) (c n : Nat) : RxStream :=
  { x with counters := tmod 0 x.counters c fun v => satAdd 0xFFFFFFFF v n }

namespace Sc
def lost : Nat := 2
def dup : Nat := 3
def stale : Nat := 4
def tsJump : Nat := 5
def late : Nat := 6
def early : Nat := 7
def overlap : Nat := 8
def missing : Nat := 9
def formatErr : Nat := 10
def unplaced : Nat := 11
def ssrcMismatch : Nat := 12
def held : Nat := 13
def unresolved : Nat := 14
end Sc

/-- How the window judges a key. -/
inductive KeyVerdict where
  | accepted | dup | stale
  deriving DecidableEq, Repr

def mask64 (n : Nat) : Nat := n % 2 ^ 64

/-- Judge a key of width `w` against the window, and the window after (R271, R272). -/
def RxStream.judgeKey (x : RxStream) (w key : Nat) : KeyVerdict × RxStream :=
  match x.high with
  | none => (.accepted, { x with high := some key, seen := 1, lostKeys := 0, stale := 0 })
  | some h =>
    let ahead := (key + w - h) % w
    let back := (h + w - key) % w
    if 1 ≤ ahead ∧ ahead ≤ w / 2 - 1 then
      let y := { x with
        high := some key
        seen := mask64 (x.seen * 2 ^ min ahead 64 + 1)
        lostKeys := mask64 (x.lostKeys * 2 ^ min ahead 64 + (2 ^ min ahead 64 - 2))
        stale := 0 }
      (.accepted, y.count Sc.lost (ahead - 1))
    else if back ≤ 63 then
      if bitOf x.seen back then (.dup, { x.count Sc.dup 1 with stale := 0 })
      else
        let wasLost := bitOf x.lostKeys back
        let y := { x with
          seen := x.seen + 2 ^ back
          lostKeys := if wasLost then x.lostKeys - 2 ^ back else x.lostKeys
          stale := 0
          counters := if wasLost then tmod 0 x.counters Sc.lost (· - 1) else x.counters }
        (.accepted, y)
    else if x.stale + 1 = 8 then
      (.accepted, ({ x with high := some key, seen := 1, lostKeys := 0, stale := 0 }).count Sc.tsJump 1)
    else (.stale, ({ x with stale := x.stale + 1 }).count Sc.stale 1)

/-! ## Placing samples (R264, R265, R269) -/

/-- The value congruent to `v` modulo 2^32 nearest to `near`. -/
def nearest32 (near v : Nat) : Nat :=
  ((near : Int) + signed 32 ((v + 4294967296 - near % 4294967296) % 4294967296)).toNat

/-- The receive stamp of a frame on a port in nanoseconds (R172, R173). -/
def State.rxStampNs (s : State) (p : Nat) : Nat :=
  let d := tget PortDelay.reset s.time.delays p
  s.time.now.nanos - d.inNs

/-- Position of a packet's first sample in the stream's own samples, and the anchor after it; none
where the packet cannot be placed (R264, R265). -/
def State.place (s : State) (p : Nat) (x : RxStream) (k : StrPacket) : Option (Nat × Option (Nat × Nat)) :=
  let e := x.entry
  let fs := fsHz (Ent.fs e)
  let t := s.rxStampNs p
  let off := u32 e 16
  let posOf := fun ns : Nat => (ns * fs + second - 1) / second
  if Ent.aes67 e then
    let c := nearest32 (t * fs / second) ((k.ts + 4294967296 - u32 e 20) % 4294967296)
    some (c + posOf off, x.anchor)
  else if k.tv then
    let ns := nearest32 t k.ts
    some (posOf (ns + off), some (k.key, ns))
  else
    match x.anchor with
    | some (q, ns) =>
      let steps := signed 8 ((k.key + 256 - q) % 256)
      some ((((posOf (ns + off) : Nat) : Int) + steps * (Ent.spp e : Nat)).toNat, x.anchor)
    | none => none

/-- The samples of frame `j` of a packet, one per channel (R252). -/
def frameSamples (e b : List Byte) (j : Nat) : List Int :=
  let w := wordBytes (Ent.format e)
  (List.range (Ent.ch e)).map fun c => fromWire (8 * w) (ub w b (w * (j * Ent.ch e + c)))

/-- Write a packet's frames at free positions from `first` on. -/
def writeFrames (e b : List Byte) (first : Nat) (buf : Tab (List Int)) : Tab (List Int) :=
  (List.range (Ent.spp e)).foldl (fun t j =>
    if tget [] t (first + j) = [] then tput [] t (first + j) (frameSamples e b j) else t) buf

/-- The positions of a packet that are already written. -/
def overlaps (e : List Byte) (first : Nat) (buf : Tab (List Int)) : Bool :=
  (List.range (Ent.spp e)).any fun j => tget [] buf (first + j) != []

/-- Judge a placed packet against the sample side (R269). -/
def State.judgePosition (s : State) (x : RxStream) (k : StrPacket) (first : Nat) : RxStream :=
  let e := x.entry
  let here := s.streamPos e
  if first ≤ here then x.count Sc.late 1
  else if here + entryCap s.rate e ≤ first + Ent.spp e - 1 then x.count Sc.early 1
  else
    let x := if overlaps e first x.buf then x.count Sc.overlap 1 else x
    { x with buf := writeFrames e k.samples first x.buf }

/-! ## A matched packet -/

/-- A path of a DUAL entry hears a packet (R274). -/
def State.pathHeard (s : State) (i p : Nat) : State :=
  let x := s.rx i
  let was := x.down.getD p false
  let s := s.setRx i { x with lastPath := x.lastPath.set p s.time.elapsed, down := x.down.set p false }
  if was && Ent.flag x.entry 2 then rxEvent s 0x0304 Sev.notice i (le 1 p) else s

/-- An accepted packet makes the entry PRESENT from WAITING or ABSENT (R276-R278). -/
def State.becomePresent (s : State) (i : Nat) (k : StrPacket) : State :=
  let x := s.rx i
  if x.state = 1 ∨ x.state = 3 then
    let changed := Ent.aes67 x.entry && x.oldSsrc.isSome && x.oldSsrc != some k.ssrc
    let s := s.setRx i { x with
      state := 2, accepted := 0, fade := Fade.start 64, begun := false, gap := 0, rise := 16
      ssrc := if Ent.aes67 x.entry then some k.ssrc else none }
    let s := rxEvent s 0x0301 Sev.notice i (zeros 2 ++ le 4 k.ssrc)
    if changed then rxEvent s 0x0305 Sev.notice i (zeros 2 ++ le 4 k.ssrc) else s
  else s

/-- A TRACK group without a read position takes it from its first packet (R280). -/
def State.trackStart (s : State) (e : List Byte) (first : Nat) : State :=
  let g := u8 e 9
  let x := s.group g
  let off := (u32 e 16 * fsHz (Ent.fs e) + second - 1) / second
  if Ent.grouped e && x.mode == 1 && x.pos == 0 then
    s.setGroup g { x with pos := (first - off) * 4294967296 }
  else s

/-- An accepted packet is counted, makes the entry present and is placed. -/
def State.acceptPacket (s : State) (i p : Nat) (k : StrPacket) : State :=
  let s := s.becomePresent i k
  let s := s.modRx i fun x =>
    { x.count p 1 with lastAny := s.time.elapsed, accepted := x.accepted + 1 }
  let x := s.rx i
  if Ent.crf x.entry ∨ x.state ≠ 2 then s
  else
    match s.place p x k with
    | none => s.setRx i (x.count Sc.unplaced 1)
    | some (first, a) =>
      let s := s.trackStart x.entry first
      s.setRx i (s.judgePosition { x with anchor := a } k first)

/-- The SSRC of a packet is not the one the entry keeps or requires (R277). -/
def ssrcBad (x : RxStream) (k : StrPacket) : Bool :=
  Ent.aes67 x.entry && ((u32 x.entry 28 != 0 && u32 x.entry 28 != k.ssrc) ||
    (x.state == 2 && x.ssrc.isSome && x.ssrc != some k.ssrc))

/-- A frame that matched entry `i` on port `p` (R262, R271, R277). -/
def State.streamPacket (s : State) (i p : Nat) (f : Fr) : State :=
  let x := s.rx i
  match readPacket x.entry f with
  | none => s.setRx i (x.count Sc.formatErr 1)
  | some k =>
    if ssrcBad x k then s.setRx i (x.count Sc.ssrcMismatch 1)
    else
      let v := x.judgeKey (if Ent.aes67 x.entry then 65536 else 256) k.key
      let s := s.setRx i v.2
      match v.1 with
      | .stale => s
      | .dup => s.pathHeard i p
      | .accepted => (s.pathHeard i p).acceptPacket i p k

/-! ## Absence (R274, R275, R277) -/

/-- ABSENT_PKTS packet times in nanoseconds. -/
def absentNs (e : List Byte) : Nat := u16 e 10 * packetStep' e * second / fsHz (Ent.fs e)
where
  /-- Samples between packets of a receive entry. -/
  packetStep' (e : List Byte) : Nat := if Ent.crf e then Ent.spp e * u16 e 116 else Ent.spp e

/-- No packet has been accepted for the absence time: the entry becomes ABSENT. -/
def State.streamAbsent (s : State) (i : Nat) : State :=
  let x := s.rx i
  if x.state = 2 ∧ x.lastAny + absentNs x.entry ≤ s.time.elapsed then
    let s := s.setRx i { x.release with state := 3 }
    rxEvent s 0x0302 Sev.warning i (zeros 2 ++ le 4 x.accepted)
  else s

/-- STREAM_ABSENT (R275-R278). -/
def execStreamAbsent (si : Nat) (s : State) : Host.Outcome State Fault Refusal :=
  ran (decide (si < 512)) "STREAM_ABSENT" s (s.streamAbsent si)

/-- A path of a DUAL entry is absent (R274). -/
def State.pathAbsent (s : State) (i p : Nat) : State :=
  let x := s.rx i
  if Ent.flag x.entry 2 ∧ x.state = 2 ∧ x.down.getD p false = false ∧
      x.lastPath.getD p 0 + absentNs x.entry ≤ s.time.elapsed then
    rxEvent (s.setRx i { x with down := x.down.set p true }) 0x0303 Sev.warning i (le 1 p)
  else s

/-- PATH_ABSENT (R274, R275). -/
def execPathAbsent (si path : Nat) (s : State) : Host.Outcome State Fault Refusal :=
  ran (decide (si < 512) && decide (path < 2)) "PATH_ABSENT" s (s.pathAbsent si path)

/-! ## TRACK groups (R280, R281) -/

/-- The servo's estimate of a TRACK group has held within 1 ppm for 200 ms; one beyond ±1,000 ppm
unlocks the group. -/
def State.trackEstimate (s : State) (g : Nat) (ppb : Int) : State :=
  let x := s.group g
  if x.mode ≠ 1 ∨ x.suspended = true then s
  else
    let s := s.setGroup g { x with ppb := ppb }
    s.setLock g (decide (-1000000 ≤ ppb) && decide (ppb ≤ 1000000))

/-- ASRC_LOCK (R280, R281). -/
def execAsrcLock (g : Nat) (ppb : Int) (s : State) : Host.Outcome State Fault Refusal :=
  ran (decide (g < 128)) "ASRC_LOCK" s (s.trackEstimate g ppb)

/-! ## Non-audio mutes of stream pairs (R332-R334) -/

/-- Key of a pair in the mute table: an interface key times 32 and the pair. Interfaces: streams
0-511, TDM ports 512-527, receivers 528-531. -/
def naKey (iface pair : Nat) : Nat := iface * 32 + pair

def State.naPair (s : State) (iface pair : Nat) : NaPair := tget NaPair.reset s.str.na (naKey iface pair)

def State.setNa (s : State) (iface pair : Nat) (x : NaPair) : State :=
  s.strMod fun t => { t with na := tput NaPair.reset t.na (naKey iface pair) x }

/-- Channel `c` of an interface is muted, or fading in: apply it to a block. -/
def State.naApply (s : State) (iface chans c : Nat) (v : List Int) : List Int :=
  if chans % 2 = 1 ∧ c = chans - 1 then v
  else
    let x := s.naPair iface (c / 2)
    if x.muted then v.map fun _ => 0 else (x.fade.apply v).1

/-- The fades of all pairs that are not muted move on by a block. -/
def State.naAdvance (s : State) (n : Nat) : State :=
  s.strMod fun t => { t with
    na := t.na.filterMap fun x =>
      let y := if x.2.muted then x.2 else { x.2 with fade := x.2.fade.after n }
      if y.muted = false ∧ y.fade.ended = true then none else some (x.1, y) }

/-! ## What a receive entry presents (R266, R270, R278, R280) -/

/-- The group's step in stream samples per internal sample, in units of 2^-32 (Table 6-6). -/
def State.groupStep (s : State) (g fs : Nat) : Nat :=
  let x := s.group g
  let nominal := fs * 4294967296 / s.rate
  let ppb : Int := match x.mode with
    | 0 => 0
    | 1 => x.ppb
    | _ => (s.loop x.loop).freqPpb - (s.loop s.time.render).freqPpb
  ((nominal : Int) + (nominal : Int) * ppb / 1000000000).toNat

/-- Input positions that internal samples 0 to n - 1 of a block fall on. -/
def State.positions (s : State) (e : List Byte) (base n : Nat) : List Nat :=
  if Ent.grouped e then
    let g := u8 e 9
    let st := s.groupStep g (fsHz (Ent.fs e))
    (List.range n).map fun j => ((s.group g).pos + j * st) / 4294967296
  else (List.range n).map (base + ·)

/-- The value of a filled position: the samples themselves, or the converter's (R279, R283). -/
def State.valueAt (s : State) (x : RxStream) (p j : Nat) : List Int :=
  let v := tget [] x.buf p
  if Ent.grouped x.entry then
    let g := u8 x.entry 9
    (List.range v.length).map fun c =>
      clampI (-2147483648) 2147483647 (Config.asrcSample g (s.group g).ppb
        ((List.range 64).map fun i => (tget [] x.buf (p + i - 32)).getD c 0) j)
  else v

/-- One sample of an entry: `x` moves on and the frame it presents (R270, R278). -/
def State.rxSample (s : State) (x : RxStream) (p j : Nat) : RxStream × List Int :=
  let filled := tget [] x.buf p != []
  if filled then
    let v := s.valueAt x p j
    let x := if x.gap = 0 then x else { x with gap := 0, rise := if x.begun then 0 else 16 }
    let x := { x with begun := true }
    let v := if x.rise < 16 then v.map fun y => roundDiv (y * (x.rise + 1 : Nat)) 16 else v
    let out := v.map fun y => mulGain y (fadeGain x.fade.step)
    ({ x with rise := min 16 (x.rise + 1), fade := x.fade.step, last := out }, out)
  else if x.begun then
    let out := x.last.map fun y => fallSample y x.gap
    let x := if x.state = 2 then x.count Sc.missing 1 else x
    ({ x with gap := min 16 (x.gap + 1), fade := x.fade.step }, out)
  else (x, [])

/-- A block of an entry, oldest frame first. -/
def State.rxFrames (s : State) (x : RxStream) (j : Nat) : List Nat → RxStream × List (List Int)
  | [] => (x, [])
  | p :: ps =>
    let r := s.rxSample x p j
    let t := s.rxFrames r.1 (j + 1) ps
    (t.1, r.2 :: t.2)

/-- An entry sounds: it is PRESENT, or it has left PRESENT and is still fading out (R278). -/
def RxStream.sounds (x : RxStream) : Bool :=
  x.state == 2 || (x.state != 3 && !x.fade.up && !x.fade.ended)

/-- Positions behind the sample side are forgotten, 64 of them kept for the converter. -/
def pruneBuf (here : Nat) (b : Tab (List Int)) : Tab (List Int) :=
  b.filter fun x => decide (here ≤ x.1 + 64)

/-- Channel `c` of a block of frames. -/
def channelOf (frames : List (List Int)) (c : Nat) : List Int := frames.map fun f => f.getD c 0

/-- The blocks of every sounding entry from render index `base` on: entry and frames. -/
def State.rxBlocks (s : State) (base n : Nat) : List Nat → State × Tab (List (List Int))
  | [] => (s, [])
  | i :: is =>
    let x := s.rx i
    let ps := s.positions x.entry base n
    let r := if x.sounds && !Ent.crf x.entry then s.rxFrames x 0 ps else (x, [])
    let here := ps.getLast?.getD base
    let y := { r.1 with buf := pruneBuf here r.1.buf }
    let t := (s.setRx i y).rxBlocks base n is
    (t.1, if r.2 = [] then t.2 else (i, r.2) :: t.2)

/-- A receive channel on its way from one stream channel to another (R296). -/
def moveBlock (m : ChMove) (old new : List Int) : List Int :=
  (List.range new.length).map fun j =>
    let q := m.pos + j
    if q < 64 then roundDiv (old.getD j 0 * (64 - q : Nat)) 64
    else if q < 128 then roundDiv (new.getD j 0 * (q - 64 : Nat)) 64
    else new.getD j 0

/-- Receive channel nodes of an entry's block. -/
def State.channelNodes (s : State) (i : Nat) (frames : List (List Int))
    (all : Tab (List (List Int))) (t : Tab (List Int)) : Tab (List Int) :=
  let x := s.rx i
  if Ent.island x.entry then t
  else
    x.run.zipIdx.foldl (fun t vc =>
      if mapNone vc.1 || decide (profChannels s.fab.active ≤ vc.1) then t
      else
        let v := s.naApply i (Ent.ch x.entry) vc.2 (channelOf frames vc.2)
        let m := tget ChMove.reset s.str.moves vc.1
        let old := match m.oldCh with
          | some c => channelOf (tget [] all m.oldRx) c
          | none => []
        tput [] t vc.1 (if m.pos < 128 then moveBlock m old v else v)) t

/-- Group read positions move on by a block (R279, R280). -/
def State.advanceGroups (s : State) (ri n : Nat) : State :=
  s.groupsInUse.foldl (fun s g =>
    match s.groupHz g with
    | some hz =>
      let x := s.group g
      let pos := if x.mode = 0 then (ri + n) * hz * 4294967296 / s.rate
        else x.pos + n * s.groupStep g hz
      s.setGroup g { x with pos := pos }
    | none => s) s

/-- Report LATE and MISSING that have risen, once a second per stream (R298). -/
def State.reportLate (s : State) (i : Nat) : State :=
  let x := s.rx i
  let late := tget 0 x.counters Sc.late
  let miss := tget 0 x.counters Sc.missing
  if late ≤ x.lateMark ∧ miss ≤ x.missMark then s
  else
    s.oncePerSecond (0x30700 * 4096 + i) fun s =>
      rxEvent (s.setRx i { x with lateMark := late, missMark := miss }) 0x0307 Sev.warning i
        (zeros 2 ++ le 2 (min 65535 (late - x.lateMark)) ++ le 2 (min 65535 (miss - x.missMark)))

/-- Every receive channel's block of render indices `base` to `base + n - 1`, as source nodes, and
the blocks of each entry (Table 9-1, R266, R374). -/
def State.receiveNodes (s : State) (base n : Nat) :
    State × Tab (List Int) × Tab (List (List Int)) :=
  let r := s.rxBlocks base n (s.str.rx.map (·.1))
  let s := r.1
  let nodes := r.2.foldl (fun t x => s.channelNodes x.1 x.2 r.2 t) []
  let s := s.strMod fun t => { t with
    moves := t.moves.filterMap fun m =>
      if m.2.pos + n < 128 then some (m.1, { m.2 with pos := m.2.pos + n }) else none }
  let s := (s.str.rx.map (·.1)).foldl State.reportLate s
  (s, nodes, r.2)

end Sys2Proof.Machine
end

