-- ==== Sys2Proof/Machine/Serial.lean ====
section
/-!
DEFINITION. Sys2Proof/Machine/Serial.lean: TDM ports, AES3 receivers and transmitters, word clock and
non-audio detection: settings, clock faults, counters and input nodes (R299-R339).
-/
namespace Sys2Proof.Machine

/-! ## Interfaces: TDM ports 0-15, receivers 0x10-0x13, transmitters 0x20-0x23 -/

def serIsTdm (k : Nat) : Bool := decide (k < 16)
def serIsRx (k : Nat) : Bool := decide (16 ≤ k) && decide (k < 20)
def serIsTx (k : Nat) : Bool := decide (32 ≤ k) && decide (k < 36)

/-- DETAIL bytes 0-3 of a serial event: unit, byte 2, selector (R339). -/
def serDetail (k b2 : Nat) : List Byte :=
  if serIsTdm k then le 2 (0x3000 + k) ++ le 1 b2 ++ zeros 1 else le 2 0xF000 ++ le 1 b2 ++ le 1 k

def serUnit (k : Nat) : Nat := if serIsTdm k then 0x3000 + k else 0xF000

def State.serEvent (s : State) (code sev k b2 : Nat) (rest : List Byte) : State :=
  s.event code sev 0x03 (serUnit k) (serDetail k b2 ++ rest)

namespace Tdm
def format (b : List Byte) : Nat := u8 b 0 % 4
def master (b : List Byte) : Bool := bitOf (u8 b 0) 2
def enabled (b : List Byte) : Bool := bitOf (u8 b 0) 3
def slots (b : List Byte) : Nat := u8 b 1
def width (b : List Byte) : Nat := u8 b 2
def fsw (b : List Byte) : Nat := u8 b 3
def mode (b : List Byte) : Nat := u8 b 4
def group (b : List Byte) : Nat := u8 b 5
def rateHz (b : List Byte) : Nat := [48000, 96000, 44100, 88200].getD (u8 b 6) 0
def inMask (b : List Byte) : Nat := u32 b 8
def outMask (b : List Byte) : Nat := u32 b 12
/-- Bits of delay between the frame-sync edge and slot 0 (Table 7-1, R337). -/
def delay (b : List Byte) : Nat :=
  if format b = 0 then 1 else if format b = 1 then 0 else b2n (bitOf (u8 b 0) 6)
end Tdm

/-- The other media loop's FAMILY is 48 kHz (R309). -/
def State.otherFamilyOk (s : State) : Bool := (s.loop (3 - s.time.render)).cfg.family == 0

/-- The group's other members run at a rate (R279, R309). -/
def State.groupAgrees (s : State) (k g hz : Nat) : Bool :=
  let others := (s.modSer k fun x => { x with set := [] }).members g
  others.all fun m => m.1 == 0 || m.1 == hz

/-- A TDM set out of range: BAD_PARAM. -/
def tdmBad (b : List Byte) : Bool :=
  Tdm.format b == 3 || decide (Tdm.slots b < 2) || decide (32 < Tdm.slots b) ||
    decide (2 < Tdm.fsw b) || decide (2 < Tdm.mode b) || decide (127 < Tdm.group b) ||
    (Tdm.mode b == 0 && Tdm.group b != 0) || decide (3 < u8 b 6) || u8 b 7 != 0

/-- A TDM set is consistent (R303, R305, R309, R315, Table 7-3). -/
def State.tdmOk (s : State) (k : Nat) (b : List Byte) : Bool :=
  let n := Tdm.slots b
  let top := 2 ^ n
  !tdmBad b &&
    (if Tdm.format b < 2 then n == 2 && Tdm.fsw b == 2 else decide (Tdm.fsw b < 2)) &&
    [16, 24, 32].contains (Tdm.width b) &&
    decide (n * Tdm.width b * Tdm.rateHz b ≤ 49152000) &&
    (if Tdm.mode b = 2 then
      !Tdm.master b && Tdm.outMask b == 0 && s.groupAgrees k (Tdm.group b) (Tdm.rateHz b)
     else Tdm.rateHz b == s.rate && (Tdm.mode b == 0 || s.otherFamilyOk)) &&
    decide (Tdm.inMask b < top) && decide (Tdm.outMask b < top)

/-! ## Port states (Table 7-5) -/

/-- Why an interface is suspended: R302, R310. -/
def State.serSuspended (s : State) (k : Nat) (b : List Byte) : Bool :=
  if serIsTdm k then
    decide (profTdmSlots s.fab.active < Tdm.slots b) || (Tdm.mode b == 1 && !s.otherFamilyOk)
  else serIsRx k && u8 b 2 == 1 && !s.otherFamilyOk

def serEnabled (k : Nat) (b : List Byte) : Bool :=
  if serIsTdm k then Tdm.enabled b else bitOf (u8 b 1) 0

/-- An interface clocked by the device: a TDM master or a transmitter. -/
def serMaster (k : Nat) (b : List Byte) : Bool := if serIsTdm k then Tdm.master b else serIsTx k

/-- The device drives the interface's clock; a TDM master whose outputs are held takes the clock of the shared
lines, judged as a slave's (Table 14-7). -/
def State.serDrives (s : State) (k : Nat) (b : List Byte) : Bool := serMaster k b && !(serIsTdm k && s.outputsHeld)

/-- The interface's state is judged afresh. -/
def State.judgeSer (s : State) (k : Nat) : State :=
  s.modSer k fun x =>
    let st := if !serEnabled k x.set then 0
      else if s.serSuspended k x.set then 4
      else if s.serDrives k x.set then 2
      else if x.state = 2 ∨ x.state = 3 ∨ (x.state = 4 ∧ serIsRx k = true) then x.state else 1
    { x with
      state := st, cause := if st = 3 then x.cause else 0
      fade := if st = 2 && x.state != 2 then Fade.full else x.fade }

def State.judgeSerials (s : State) : State := (s.ser.port.map (·.1)).foldl State.judgeSer s

/-! ## TDM settings (R314-R319) -/

/-- A TDM port's set at its full length. -/
def tdmSet (x : SerPort) : List Byte := slice (x.set ++ zeros 16) 0 16

/-- The set as last written: a framing change that waits, with masks that wait. -/
def tdmWritten (x : SerPort) : List Byte :=
  match x.newSet with
  | some b => b
  | none => (tdmSet x).take 8 ++ x.masks.getD ((tdmSet x).drop 8)

/-- The record of a TDM port's settings or of its masks (R552). -/
def tdmRecord (k : RecKey) (s : State) : List Byte :=
  let b := tdmWritten (s.ser_ (unitIndex k.unit))
  if k.kind = Rec.tdmMask then b.drop 8 else (s.heldOf k).getD (b.take 8)

/-- Two sets differ in more than the masks, ENABLE and OUT_ZERO (R317). -/
def framingDiffers (a b : List Byte) : Bool :=
  let base := fun c : List Byte => u8 c 0 &&& 0x77
  base a != base b || slice a 1 7 != slice b 1 7

/-- A written set: a change of framing waits for its frame; anything else acts at once, its masks at
the next frame-sync edge (R317, R319). -/
def State.stageTdm (s : State) (p : Nat) (b : List Byte) : State :=
  let x := s.ser_ p
  if framingDiffers (tdmSet x) b then s.setSer p { x with newSet := some b }
  else
    (s.setSer p { x with
      set := b.take 8 ++ (tdmSet x).drop 8, newSet := none, masks := some (b.drop 8) }).judgeSer p

/-- PENDING_COUPLE of a TDM port, reported once (R318, R570). -/
def State.pendTdm (s : State) (p : Nat) : State :=
  let x := s.ser_ p
  if x.pendc then s
  else (s.setSer p { x with pendc := true }).event 0x0206 Sev.warning 0x02 (0x3000 + p) (le 2 (0x3000 + p))

/-- A record of a TDM port takes a value (R318). -/
def writeTdm (k : RecKey) (r : List Byte) (s : State) : State :=
  let p := unitIndex k.unit
  let x := s.ser_ p
  if k.kind = Rec.tdmMask then
    match x.newSet with
    | some b => s.setSer p { x with newSet := some (b.take 8 ++ r) }
    | none => s.setSer p { x with masks := some r }
  else
    let b := r ++ (tdmWritten x).drop 8
    if s.tdmOk p b then ((s.setHeld k none).modSer p fun x => { x with pendc := false }).stageTdm p b
    else (s.setHeld k (some r)).pendTdm p

def tdmConfigCheck (r : Req) (s : State) : Option Nat :=
  let b := r.params
  let s' := s.modSer r.index fun x => { x with set := b }
  firstFail
    [ (tdmBad b, Status.badParam), (s.locked r, Status.safetyLock),
      (!s.tdmOk r.index b, Status.coupling), (!s'.enginesFit, Status.noSpace) ]

/-- STR_TDM_CONFIG as a whole set: the records take their values and the set they give is staged. -/
def configTdm (r : Req) (s : State) : State :=
  let p := r.index
  let collect := fun (k : RecKey) (b : List Byte) (s : State) =>
    s.modSer p fun x =>
      let w := tdmWritten x
      { x with newSet := some (if k.kind = Rec.tdmMask then w.take 8 ++ b else b ++ w.drop 8) }
  let s := s.putAll tdmRecord collect r
  let s := s.setHeld { kind := Rec.tdm, unit := r.target, sub := 0 } none
  let s := s.modSer p fun x => { x with pendc := false }
  s.stageTdm p (tdmWritten (s.ser_ p))

def strTdmConfigBody : Body := atBoundary tdmConfigCheck configTdm

/-- STR_TDM_CONFIG (R303-R309, R314-R317). -/
def execStrTdmConfig (q : Nat) (s : State) : Host.Outcome State Fault Refusal :=
  commandRow "STR_TDM_CONFIG" 0x0320 strTdmConfigBody q s

def tdmMaskCheck (r : Req) (s : State) : Option Nat :=
  firstFail [(s.locked r, Status.safetyLock)]

/-- What STR_TDM_MASK does once its check passes. -/
def strTdmMaskEffect (r : Req) (s : State) : State := s.putAll tdmRecord writeTdm r

def strTdmMaskBody : Body := atBoundary tdmMaskCheck strTdmMaskEffect

/-- STR_TDM_MASK (R318). -/
def execStrTdmMask (q : Nat) (s : State) : Host.Outcome State Fault Refusal :=
  commandRow "STR_TDM_MASK" 0x0321 strTdmMaskBody q s

/-- A frame-sync edge: written masks latch if the set is consistent with them (R318, R319). -/
def State.latchMasks (s : State) (p : Nat) : State :=
  let x := s.ser_ p
  match x.masks with
  | none => s
  | some m =>
    let b := (tdmSet x).take 8 ++ m
    if s.tdmOk p b then s.setSer p { x with set := b, masks := none, pendc := false }
    else s.pendTdm p

/-- TDM_MASK_LATCH (R307, R318, R319). -/
def execTdmMaskLatch (p : Nat) (s : State) : Host.Outcome State Fault Refusal :=
  ran (decide (p < 16)) "TDM_MASK_LATCH" s (s.latchMasks p)

/-- The frame at which a new framing takes hold (R317). -/
def State.changeFraming (s : State) (p : Nat) : State :=
  let x := s.ser_ p
  match x.newSet with
  | none => s
  | some b =>
    (s.setSer p { x with
      set := b, newSet := none, masks := none, pendc := false, badRun := 0, last := [] }).judgeSer p

/-- TDM_FRAMING_CHANGE (R317). -/
def execTdmFramingChange (p : Nat) (s : State) : Host.Outcome State Fault Refusal :=
  ran (decide (p < 16)) "TDM_FRAMING_CHANGE" s (s.changeFraming p)

/-! ## AES3 settings (R329, R338) -/

def aesCheck (r : Req) (s : State) : Option Nat :=
  let p := r.params
  let k := u8 p 0
  let s' := s.modSer k fun x => { x with set := p }
  firstFail
    [ ((!serIsRx k && !serIsTx k) || decide (4 ≤ u8 p 1) || decide (2 < u8 p 2) ||
        (serIsTx k && (u8 p 2 == 2 || bitOf (u8 p 1) 1)) || decide (127 < u8 p 3) ||
        (u8 p 2 == 0 && u8 p 3 != 0) || (serIsRx k && !zeroAt p 4 24), Status.badParam),
      (u8 p 2 == 1 && !s.otherFamilyOk, Status.coupling),
      (!s'.enginesFit, Status.noSpace) ]

/-- What STR_AES_CONFIG does once its check passes. -/
def strAesConfigEffect (r : Req) (s : State) : State :=
  let k := u8 r.params 0
  (s.modSer k fun x => { x with set := r.params }).judgeSer k

def strAesConfigBody : Body := atBoundary aesCheck strAesConfigEffect

/-- STR_AES_CONFIG (R308, R325-R329, R338). -/
def execStrAesConfig (q : Nat) (s : State) : Host.Outcome State Fault Refusal :=
  commandRow "STR_AES_CONFIG" 0x0322 strAesConfigBody q s

/-- One bit of the AES3 channel-status CRC, polynomial x^8 + x^4 + x^3 + x^2 + 1, low bit first. -/
def csBit (c : Nat) : Nat := if c % 2 = 1 then c / 2 ^^^ 0xB8 else c / 2

/-- The CRC of channel-status bytes 0-22. -/
def csCrc (b : List Byte) : Nat :=
  (b.take 23).foldl (fun c x =>
    csBit (csBit (csBit (csBit (csBit (csBit (csBit (csBit (c ^^^ x.toNat))))))))) 0xFF

/-- The default block: professional, audio, no emphasis, the internal rate, 24-bit words (R329). -/
def defaultStatus (rate : Nat) : List Byte :=
  (if rate = 96000 then [0x05, 0, 0x2C, 0, 0x50] else [0x85, 0, 0x2C, 0, 0]) ++ zeros 19

/-- The channel-status block that transmitter `n` sends on both subframes (R329). -/
def State.sentStatus (s : State) (n : Nat) : List Byte :=
  let b := slice (s.ser_ (32 + n)).set 4 24
  let b := if b.all (· == 0) then defaultStatus s.rate else b
  if bitOf (u8 b 0) 0 then b.take 23 ++ le 1 (csCrc b) else b

/-! ## Word clock (R331) -/

def wclkCheck (r : Req) (_s : State) : Option Nat :=
  let p := r.params
  firstFail
    [ (decide (1 < u8 p 0) || decide (3 < u8 p 1) || decide (4 ≤ u8 p 2) || u8 p 3 != 0,
        Status.badParam) ]

/-- What STR_WCLK_CONFIG does once its check passes. -/
def strWclkConfigEffect (r : Req) (s : State) : State := s.serMod fun t =>
  { t with wcDomain := u8 r.params 0, wcMult := u8 r.params 1, wcFlags := u8 r.params 2 }

def strWclkConfigBody : Body := atBoundary wclkCheck strWclkConfigEffect

/-- STR_WCLK_CONFIG (R331). -/
def execStrWclkConfig (q : Nat) (s : State) : Host.Outcome State Fault Refusal :=
  commandRow "STR_WCLK_CONFIG" 0x0323 strWclkConfigBody q s

/-- The loop whose domain WCLK_OUT is taken from. -/
def State.wclkLoop (s : State) : Nat := if s.ser.wcDomain = 0 then s.time.render else 3 - s.time.render

/-- WCLK_OUT runs; with WQUIET only while its loop is LOCKED or in COAST (R331). -/
def State.wclkRuns (s : State) : Bool :=
  bitOf s.ser.wcFlags 0 &&
    (!bitOf s.ser.wcFlags 1 ||
      (s.loop s.wclkLoop).state == .locked || (s.loop s.wclkLoop).state == .coast)

/-! ## Status (Table 7-6) -/

/-- Non-audio pairs muted, a bit per pair. -/
def State.mutedPairs (s : State) (iface n : Nat) : Nat :=
  (List.range n).foldl (fun a i => a + 2 ^ i * b2n (s.naPair iface i).muted) 0

/-- The non-audio interface of a serial interface. -/
def naIface (k : Nat) : Nat := 512 + k

def serStatusData (s : State) (k : Nat) : List Byte :=
  let x := s.ser_ k
  le 1 x.state ++ le 1 x.cause ++ le 1 (b2n x.pendc) ++ zeros 1 ++ le 4 x.measured
    ++ le 4 (if k < 20 then s.mutedPairs (naIface k) 16 else 0)
    ++ ((List.range 8).map fun i => le 4 (tget 0 x.counters i)).flatten
    ++ (if serIsRx k then slice (x.cs ++ zeros 24) 0 24 else [])

/-- WCLK_OUT's frequency: the family rate of its domain, times 1/2, 1, 2 or 4 (R331). -/
def State.wclkHz (s : State) : Nat :=
  (if (s.loop s.wclkLoop).cfg.family = 0 then 48000 else 44100) * [1, 2, 4, 8].getD s.ser.wcMult 0 / 2

/-- Word-clock status: WCLK_IN reports a measured frequency that only its pin knows (R330). -/
def wclkStatusData (s : State) (input : Bool) : List Byte × State :=
  let d := s.draw 32
  if input then (le 1 2 ++ zeros 3 ++ le 4 d.1 ++ zeros 36, d.2)
  else (le 1 (if s.wclkRuns then 2 else 0) ++ zeros 3 ++ le 4 s.wclkHz ++ zeros 36, s)

def strSerialStatusBody : Body := fun _ r s =>
  let p := r.params
  let sel := u8 p 0
  let tdm := unitClass r.target == 3
  let k := if tdm then r.index else sel
  let wclk := !tdm && (sel == 0x30 || sel == 0x31)
  if 1 < u8 p 1 ∨ zeroAt p 2 2 = false ∨ (tdm = true ∧ sel ≠ 0) ∨
      (tdm = false ∧ serIsRx k = false ∧ serIsTx k = false ∧ wclk = false) then .bad Status.badParam
  else if u8 p 1 = 1 ∧ r.hasLevel s 2 = false then .deny
  else if wclk then
    let d := wclkStatusData s (sel == 0x30)
    .done d.2 d.1
  else
    .done (if u8 p 1 = 1 then s.modSer k fun x => { x with counters := [] } else s) (serStatusData s k)

/-- STR_SERIAL_STATUS (R330, R338). -/
def execStrSerialStatus (q : Nat) (s : State) : Host.Outcome State Fault Refusal :=
  commandRow "STR_SERIAL_STATUS" 0x0324 strSerialStatusBody q s

/-! ## Clock faults (R321-R326, Table 7-4) -/

def SerPort.count (x : SerPort) (c : Nat) : SerPort :=
  { x with counters := tmod 0 x.counters c fun v => satAdd 0xFFFFFFFF v 1 }

/-- A slave port or a receiver that runs. -/
def State.serRuns (s : State) (k : Nat) : Bool :=
  let x := s.ser_ k
  decide (k < 20) && x.state == 2 && !s.serDrives k x.set

/-- The clock is lost: inputs fade over 16 samples, outputs go to high impedance. -/
def State.clockLost (s : State) (k cause : Nat) : State :=
  s.modSer k fun x => { x with state := 3, cause := cause, fade := Fade.out 16, badRun := 0 }

/-- No valid edge within 1.5 periods. -/
def State.serStop (s : State) (k : Nat) : State :=
  if s.serRuns k then (s.clockLost k 1).serEvent 0x0320 Sev.warning k 1 [] else s

/-- SERIAL_CLOCK_STOP (R323). -/
def execSerialClockStop (k : Nat) (s : State) : Host.Outcome State Fault Refusal :=
  ran (decide (k < 36)) "SERIAL_CLOCK_STOP" s (s.serStop k)

/-- A measured rate lies within 0.5% of a nominal one. -/
def rateNear (hz nominal : Nat) : Bool :=
  decide (nominal * 995 ≤ hz * 1000) && decide (hz * 1000 ≤ nominal * 1005)

/-- The nominal AES3 rate a measured one belongs to (R325). -/
def aesNominal (hz : Nat) : Option Nat :=
  [32000, 44100, 48000, 88200, 96000, 176400, 192000].find? fun n => rateNear hz n

/-- The rate an interface expects. -/
def State.serNominal (s : State) (k : Nat) : Nat :=
  let x := s.ser_ k
  if serIsTdm k then Tdm.rateHz x.set
  else if u8 x.set 2 = 2 then (s.groupHz (u8 x.set 3)).getD x.measured else s.rate

/-- The receiver is the only member of its group (R326). -/
def State.aloneInGroup (s : State) (k : Nat) : Bool :=
  ((s.modSer k fun x => { x with set := [] }).members (u8 (s.ser_ k).set 3)) == []

/-- A receiver in mode 2 hears another nominal rate (R326). -/
def State.receiverRate (s : State) (k hz : Nat) : State :=
  match aesNominal hz with
  | none => ((s.clockLost k 4).modSer k fun x => { x with measured := hz }).serEvent 0x0320 Sev.warning k 4 []
  | some n =>
    let g := u8 (s.ser_ k).set 3
    let auto := bitOf (u8 (s.ser_ k).set 1) 1 && s.aloneInGroup k
    let same := s.groupHz g == some n
    let s := s.modSer k fun x => { x with measured := n }
    if auto then
      let s := s.setGroup g { s.group g with autoHz := some n }
      let s := s.setLock g false
      let s := s.setLock g (s.groupLock (s.group g))
      s.modSer k fun x => { x with state := 2, cause := 0, fade := Fade.start 64 }
    else if same then s.modSer k fun x => { x with state := 2, cause := 0, fade := Fade.start 64 }
    else s.modSer k fun x => { x with state := 4, fade := Fade.out 16 }

/-- The mean of 64 periods is off by more than 0.5% (Table 7-4). -/
def State.serRateChange (s : State) (k hz : Nat) : State :=
  if !s.serRuns k || rateNear hz (s.serNominal k) then s
  else if serIsRx k && u8 (s.ser_ k).set 2 == 2 then s.receiverRate k hz
  else
    ((s.clockLost k 2).modSer k fun x => { x with measured := hz }).serEvent 0x0323 Sev.warning k 0 (le 4 hz)

/-- SERIAL_RATE_CHANGE (R323, R326). -/
def execSerialRateChange (k hz : Nat) (s : State) : Host.Outcome State Fault Refusal :=
  ran (decide (k < 36)) "SERIAL_RATE_CHANGE" s (s.serRateChange k hz)

/-- The clock of a waiting or lost interface is valid again: the slip buffer is re-centred and the
inputs fade in over 64 samples. -/
def State.clockOk (s : State) (k hz : Nat) : State :=
  (s.modSer k fun x => { x with
    state := 2, cause := 0, measured := hz, slip := 0, slipFade := false, badRun := 0
    fade := Fade.start 64 }).serEvent 0x0321 Sev.notice k 0 (le 4 hz)

def State.serReturn (s : State) (k hz : Nat) : State :=
  let x := s.ser_ k
  if serIsTdm k && (x.state == 1 || x.state == 3) && !s.serDrives k x.set then
    if rateNear hz (s.serNominal k) then s.clockOk k hz
    else s.setSer k { x with state := 3, cause := 2, measured := hz }
  else if serIsRx k && x.state == 3 && rateNear hz (s.serNominal k) then s.clockOk k hz
  else s

/-- SERIAL_CLOCK_RETURN (R323). -/
def execSerialClockReturn (k hz : Nat) (s : State) : Host.Outcome State Fault Refusal :=
  ran (decide (k < 36)) "SERIAL_CLOCK_RETURN" s (s.serReturn k hz)

/-- SERIAL_FS_GLITCH (Table 7-4). -/
def execSerialFsGlitch (k : Nat) (s : State) : Host.Outcome State Fault Refusal :=
  ran (decide (k < 36)) "SERIAL_FS_GLITCH" s (if s.serRuns k then s.modSer k (·.count 0) else s)

/-- A frame whose bit count is wrong; `again`: the frame before it was too (R322). -/
def State.bitCount (s : State) (p : Nat) (again : Bool) : State :=
  if !s.serRuns p then s
  else
    let s := s.modSer p fun x => { x.count 1 with badRun := if again then x.badRun + 1 else 1 }
    if 16 ≤ (s.ser_ p).badRun then (s.clockLost p 3).serEvent 0x0320 Sev.warning p 3 [] else s

/-- BITCOUNT_ERROR (R322). -/
def execBitcountError (p : Nat) (again : Bool) (s : State) : Host.Outcome State Fault Refusal :=
  ran (decide (p < 16)) "BITCOUNT_ERROR" s (s.bitCount p again)

/-- The interface has a slip buffer: a slave in mode 0, or outputs in mode 1 (R313). -/
def hasSlip (k : Nat) (b : List Byte) : Bool :=
  if serIsTdm k then (Tdm.mode b == 0 && !Tdm.master b) || Tdm.mode b == 1
  else if serIsRx k then u8 b 2 == 0 else u8 b 2 == 1

/-- A slip (R313); `slow`: the port runs slow and L frames are repeated. -/
def State.slips (s : State) (k : Nat) (slow : Bool) : State :=
  let x := s.ser_ k
  if x.state ≠ 2 ∨ hasSlip k x.set = false then s
  else
    let s := s.setSer k { x.count 2 with slip := 0, slipFade := true, fade := Fade.out 16 }
    s.oncePerSecond (0x32200 * 4096 + k) fun s =>
      s.serEvent 0x0322 Sev.warning k (if slow then 1 else 2) (le 4 (tget 0 (s.ser_ k).counters 2))

/-- SERIAL_SLIP (R313). -/
def execSerialSlip (k : Nat) (slow : Bool) (s : State) : Host.Outcome State Fault Refusal :=
  ran (decide (k < 36)) "SERIAL_SLIP" s (s.slips k slow)

/-! ## AES3 receivers (R325-R328, R335) -/

/-- A receiver has seen 64 valid frames at one rate (R325). -/
def State.receiverLock (s : State) (n hz : Nat) : State :=
  let k := 16 + n
  let x := s.ser_ k
  if x.state = 0 ∨ x.state = 2 then s
  else
    match aesNominal hz with
    | none => s.setSer k { x with state := 3, cause := 4, measured := hz }
    | some m =>
      if u8 x.set 2 = 2 then
        let s := s.setSer k { x with measured := m }
        let s := s.receiverRate k m
        if (s.ser_ k).state = 2 then s.serEvent 0x0321 Sev.notice k 0 (le 4 hz) else s
      else if m = s.rate then s.clockOk k hz
      else s.setSer k { x with state := 3, cause := 2, measured := hz }

/-- AES_RECEIVER_LOCK (R325, R326). -/
def execAesReceiverLock (n hz : Nat) (s : State) : Host.Outcome State Fault Refusal :=
  ran (decide (n < 4)) "AES_RECEIVER_LOCK" s (s.receiverLock n hz)

/-- AES_SUBFRAME_ERROR: 0 parity, 1 biphase, 2 validity (R327). -/
def execAesSubframeError (n kind : Nat) (s : State) : Host.Outcome State Fault Refusal :=
  ran (decide (n < 4) && decide (kind < 3)) "AES_SUBFRAME_ERROR" s
    (if s.serRuns (16 + n) then s.modSer (16 + n) (·.count (3 + kind)) else s)

/-! ## Non-audio mutes (R332-R336) -/

/-- Frame rate of an interface's input. -/
def State.naRate (s : State) (iface : Nat) : Nat :=
  if iface < 512 then fsHz (Ent.fs (s.rx iface).entry)
  else let m := s.serNominal (iface - 512); if m = 0 then s.rate else m

/-- STR_NON_AUDIO's unit and bytes 0-3 (R336). -/
def naDetail (iface pair : Nat) : Nat × List Byte :=
  if iface < 512 then (0x1000 + iface, le 2 (0x1000 + iface) ++ le 1 (2 * pair) ++ zeros 1)
  else if iface < 528 then (0x3000 + (iface - 512), le 2 (0x3000 + (iface - 512)) ++ le 1 (2 * pair) ++ zeros 1)
  else (0xF000, le 2 0xF000 ++ zeros 1 ++ le 1 (iface - 512))

/-- A mute begins or goes on to the end of its hold (R334). -/
def State.naMute (s : State) (iface pair : Nat) (byCs : Bool) : State :=
  let x := s.naPair iface pair
  let hold := s.time.elapsed + 4096 * second / s.naRate iface
  let s := s.setNa iface pair { x with muted := true, until_ := hold, byCs := byCs || x.byCs }
  if x.muted then s
  else
    s.oncePerSecond (0x30B00 * 65536 + naKey iface pair) fun s =>
      s.event 0x030B Sev.notice 0x03 (naDetail iface pair).1 (naDetail iface pair).2

/-- The pair exists on the interface; the last channel of an odd stream has no partner. -/
def State.naPairOk (s : State) (iface pair : Nat) : Bool :=
  if iface < 512 then decide (2 * pair + 1 < Ent.ch (s.rx iface).entry)
  else if iface < 528 then decide (pair < 16) else decide (iface < 532) && pair == 0

/-- The two input words of a frame hold a burst preamble (R333). -/
def isPreamble (even odd : Nat) : Bool := even == 0xF8720000 && odd == 0x4E1F0000

def State.naDetect (s : State) (iface pair even odd : Nat) : State :=
  if s.naPairOk iface pair && isPreamble even odd then
    let s := if 512 ≤ iface then s.modSer (iface - 512) (·.count 7) else s
    s.naMute iface pair false
  else s

/-- NON_AUDIO_DETECT (R332-R334, R336). -/
def execNonAudioDetect (iface pair even odd : Nat) (s : State) : Host.Outcome State Fault Refusal :=
  ran (decide (iface < 532) && decide (pair < 32)) "NON_AUDIO_DETECT" s (s.naDetect iface pair even odd)

/-- The hold has passed: both channels fade in over 64 samples (R334, R335). -/
def State.naEnd (s : State) (iface pair : Nat) : State :=
  let x := s.naPair iface pair
  if x.muted = true ∧ x.byCs = false ∧ x.until_ ≤ s.time.elapsed then
    s.setNa iface pair { x with muted := false, fade := Fade.start 64 }
  else s

/-- NON_AUDIO_HOLD_END (R334, R335). -/
def execNonAudioHoldEnd (iface pair : Nat) (s : State) : Host.Outcome State Fault Refusal :=
  ran (decide (iface < 532) && decide (pair < 32)) "NON_AUDIO_HOLD_END" s (s.naEnd iface pair)

/-- A channel-status block of receiver `n` is complete (R328, R335). -/
def State.statusBlock (s : State) (n : Nat) (d : List Byte) : State :=
  let k := 16 + n
  let b := slice (d ++ zeros 24) 0 24
  if !s.serRuns k then s
  else if bitOf (u8 b 0) 0 && u8 b 23 != csCrc b then s.modSer k (·.count 6)
  else
    let s := s.modSer k fun x => { x with cs := b }
    let i := naIface k
    if bitOf (u8 b 0) 1 then s.naMute i 0 true
    else if (s.naPair i 0).byCs then
      s.setNa i 0 { s.naPair i 0 with byCs := false, until_ := s.time.elapsed + 4096 * second / s.naRate i }
    else s

/-- AES_CS_BLOCK (R328, R335). -/
def execAesCsBlock (n : Nat) (d : List Byte) (s : State) : Host.Outcome State Fault Refusal :=
  ran (decide (n < 4)) "AES_CS_BLOCK" s (s.statusBlock n d)

/-! ## Input nodes (R299-R301, R311, R323) -/

/-- Channels of an interface: node of its first, how many carry samples, and which are enabled. -/
def serChannels (k : Nat) (b : List Byte) : Nat × Nat × Nat :=
  if serIsTdm k then (0x0800 + 32 * k, Tdm.slots b, Tdm.inMask b) else (0x0A00 + 2 * (k - 16), 2, 3)

/-- The block an input channel brings: its samples, or the converter's for a group member. -/
def State.serInput (s : State) (k : Nat) (b : List Byte) (v : List Int) (n : Nat) : List Int :=
  match serMember k (s.ser_ k) with
  | some (g, _, _) =>
    if (s.group g).locked && !(s.group g).suspended then
      (List.range n).map fun j => clampI (-2147483648) 2147483647 (Config.asrcSample g (s.group g).ppb v j)
    else List.replicate n 0
  | none => if serEnabled k b then padTo n v else List.replicate n 0

/-- A running or fading interface's channels for a block, and what its fade leaves (R300, R323). -/
def State.serBlock (s : State) (k n : Nat) (ins : List (Nat × List Int)) : State × Tab (List Int) :=
  let x := s.ser_ k
  let c := serChannels k x.set
  let falling := !x.fade.up && !x.fade.ended
  if x.state ≠ 2 ∧ falling = false then (s, [])
  else
    let blocks := (List.range c.2.1).map fun i =>
      let v := if bitOf c.2.2 i then s.serInput k x.set (((ins.find? fun y => y.1 == c.1 + i).map (·.2)).getD []) n
        else List.replicate n 0
      if x.fade.up then (x.fade.apply v).1
      else (List.range n).map fun j => fallSample (x.last.getD i 0) (x.fade.pos + j)
    let f := x.fade.after n
    let back := x.slipFade && !x.fade.up && f.ended
    let s := s.setSer k { x with
      last := if x.fade.up then blocks.map fun v => v.getLast?.getD 0 else x.last
      fade := if back then Fade.start 16 else f
      slipFade := x.slipFade && !back }
    (s, blocks.zipIdx.foldl (fun t vc =>
      tput [] t (c.1 + vc.2) (s.naApply (naIface k) c.2.1 vc.2 vc.1)) [])

/-- Every serial input node's block. -/
def State.serialNodes (s : State) (n : Nat) (ins : List (Nat × List Int)) : List Nat → State × Tab (List Int)
  | [] => (s, [])
  | k :: ks =>
    let r := if k < 20 then s.serBlock k n ins else (s, [])
    let t := r.1.serialNodes n ins ks
    (t.1, t.2.foldl (fun t x => tput [] t x.1 x.2) r.2)

/-- The loop whose domain clocks an external sink (Table 7-3). -/
def State.sinkLoop (s : State) (node : Nat) : Nat :=
  let other := 3 - s.time.render
  if 0x8800 ≤ node ∧ node < 0x8A00 then
    if Tdm.mode (s.ser_ ((node - 0x8800) / 32)).set = 1 then other else s.time.render
  else if 0x8A00 ≤ node ∧ node < 0x8A08 then
    if u8 (s.ser_ (32 + (node - 0x8A00) / 2)).set 2 = 1 then other else s.time.render
  else s.time.render

end Sys2Proof.Machine
end

