-- ==== Sys2Proof/Machine/Presented.lean ====
section
/-!
DEFINITION. Sys2Proof/Machine/Presented.lean: what the sinks present: the block at the output edge, its fades of
level-0 content, its deadline-miss fade and the priority override over it, and the record of what has been
presented (R32, R33, R47, R200, R203, R359, R368, R403, R520).
-/
namespace Sys2Proof.Machine

/-! ## Node classes (Table 9-1) -/

namespace Node
def between (a lo hi : Nat) : Bool := decide (lo ≤ a) && decide (a ≤ hi)
def receive (a : Nat) : Bool := between a 0 0x7FF
def tdmIn (a : Nat) : Bool := between a 0x800 0x9FF
def aesIn (a : Nat) : Bool := between a 0xA00 0xA07
def player (a : Nat) : Bool := between a 0xB00 0xB3F
def generator (a : Nat) : Bool := between a 0xC00 0xC0F
def feedOut (a : Nat) : Bool := between a 0x1000 0x13FF
def busOut (a : Nat) : Bool := between a 0x2000 0x20FF
def scratch (a : Nat) : Bool := between a 0x3000 0x3FFF
def delayOut (a : Nat) : Bool := between a 0x4000 0x40FF
def transmit (a : Nat) : Bool := between a 0x8000 0x87FF
def tdmOut (a : Nat) : Bool := between a 0x8800 0x89FF
def aesOut (a : Nat) : Bool := between a 0x8A00 0x8A07
def objectIn (a : Nat) : Bool := between a 0x9000 0x91FF
def busIn (a : Nat) : Bool := between a 0xA000 0xA0FF
def delayIn (a : Nat) : Bool := between a 0xB000 0xB0FF
/-- External sinks. -/
def external (a : Nat) : Bool := transmit a || tdmOut a || aesOut a
/-- Sinks that a sink fade names (R396). -/
def sink (a : Nat) : Bool := external a || objectIn a
def readable (out : Bool) (a : Nat) : Bool :=
  receive a || tdmIn a || aesIn a || player a || generator a || (out && feedOut a) || busOut a ||
    scratch a || delayOut a
def storable (out : Bool) (a : Nat) : Bool :=
  external a || (!out && objectIn a) || scratch a || delayIn a
end Node

/-! ## Direct lanes (Table 9-11) -/

namespace Lane
def valid (e : List Byte) : Bool := bitOf (u8 e 0) 0
def inputs (e : List Byte) : Nat := u8 e 1
def sink (e : List Byte) : Nat := u16 e 2
def src (e : List Byte) (i : Nat) : Nat := u16 e (8 + 4 * i)
def gain (e : List Byte) (i : Nat) : Nat := u16 e (10 + 4 * i)
def gains (e : List Byte) : List Nat := (List.range (inputs e)).map (gain e)
end Lane

/-- The lane writes its sink: it is enabled, or still fading out. -/
def DirectLane.writes (x : DirectLane) : Bool := Lane.valid x.entry && (x.enabled || x.fade.len != 0)

/-- Lanes that write their sinks. -/
def State.lanesAtWork (s : State) : List (Nat × DirectLane) := s.alm.lane.filter fun x => x.2.writes

/-- Sinks of lanes at work. -/
def State.laneSinks (s : State) : List Nat := s.lanesAtWork.map fun x => Lane.sink x.2.entry

/-! ## Fades -/

/-- A fade turned round: it goes on from the factor it has. -/
def Fade.turn (f : Fade) (n : Nat) (up : Bool) : Fade :=
  if f.up == up then f
  else { pos := if f.ended then 0 else f.len - f.pos, len := n, up := up }

/-! ## Fade-outs that end at a coming boundary (R203, R368, Table 13-6 step 3) -/

/-- A full fade starts to fall so that it is silent at boundary `b`. -/
def Fade.fallBy (f : Fade) (ri b : Nat) : Fade :=
  if f.up && decide (ri < b) && decide (b ≤ ri + 64) then { pos := ri + 64 - b, len := 64, up := false } else f

/-- The boundary within 64 samples at which a pending change applies. -/
def State.changeNear (s : State) : Option Nat :=
  match s.fab.pend with
  | some p =>
    if changesShape s.fab.active p then
      ((List.range (64 / s.blockLen + 1)).map fun j => s.time.ri + j * s.blockLen).find? (s.changeAt p)
    else none
  | none => none

/-- Level-0 content starts to fall before a profile change, a datum's boundary or a realignment; where a
change has been withdrawn it comes back. -/
def State.startFades (s : State) : State :=
  let ri := s.time.ri
  let near := s.changeNear
  { s with
    fab := { s.fab with
      fade := match near with
        | some b => s.fab.fade.fallBy ri b
        | none => if s.fab.fade.up then s.fab.fade else s.fab.fade.turn 64 true }
    dat := { s.dat with
      fade := match s.dat.boundary with
        | some b => if s.dat.phase = 2 then s.dat.fade.fallBy ri b else s.dat.fade
        | none => s.dat.fade }
    time := { s.time with
      loops := s.time.loops.map fun x =>
        (x.1, { x.2 with
          fade := match x.2.realign with
            | some (b, _) => x.2.fade.fallBy ri b
            | none => x.2.fade }) } }

/-! ## Fades of level-0 content (R200, R359, R368, Table 13-6) -/

/-- The profile's fade, the datum's and those of the loops, for the block at the output edge. -/
def State.fadesNow (s : State) : List Fade :=
  let s := s.startFades
  s.fab.fade :: s.dat.fade :: (List.range 6).map fun l => (tget Loop.reset s.time.loops l).fade

/-- The fades that act on a sink clocked by a loop. -/
def sinkFades (fs : List Fade) (loop : Nat) : List Fade :=
  [fs.getD 0 Fade.full, fs.getD 1 Fade.full, fs.getD (2 + loop) Fade.full]

/-- A vector through fades, `q` samples after they were noted. -/
def fadeThrough (fs : List Fade) (q : Nat) (v : List Int) : List Int :=
  fs.foldl (fun v f => ((f.after q).apply v).1) v

/-- The fades move on by a block. -/
def State.moveFades (s : State) (n : Nat) : State :=
  { s with
    fab := { s.fab with fade := s.fab.fade.after n }
    dat := { s.dat with fade := s.dat.fade.after n }
    time := { s.time with loops := s.time.loops.map fun x => (x.1, { x.2 with fade := x.2.fade.after n }) } }

/-- The deadline-miss fade over samples that are finished or not (R359): 16 samples down from the last one
presented, silence, and 16 samples up in the first complete block that begins after the fall. -/
def MissFade.run (m : MissFade) (bad : Bool) (last : Int) (v : List Int) : MissFade × List Int :=
  let n := v.length
  let m : MissFade :=
    if bad && (m.phase == 0 || m.phase == 3) then { phase := 1, pos := 0, last := last }
    else if !bad && m.phase == 2 then { phase := 3, pos := 0, last := 0 }
    else m
  let pos := m.pos + n
  if m.phase = 1 then
    ((if 16 ≤ pos then { phase := 2, pos := 0, last := 0 } else { m with pos := pos }),
      (List.range n).map fun j => fallSample m.last (m.pos + j))
  else if m.phase = 2 then (m, List.replicate n 0)
  else if m.phase = 3 then
    ((if 16 ≤ pos then MissFade.reset else { m with pos := pos }),
      v.zipIdx.map fun x => roundDiv (x.1 * (min 16 (m.pos + x.2 + 1) : Nat)) 16)
  else (m, v)

/-- A crossfade from one block to another, `pos` of 32 samples done (R520). -/
def crossBlock (pos : Nat) : List Int → List Int → List Int
  | x :: xs, y :: ys =>
    (if 32 ≤ pos then y else roundDiv (x * (32 - (pos + 1) : Nat) + y * (pos + 1 : Nat)) 32)
      :: crossBlock (pos + 1) xs ys
  | _, _ => []

/-! ## The record of what sinks presented -/

/-- Samples kept per sink. -/
def histKept : Nat := 256

/-- A record that ends at `was` brought to end at `now`: zeros for what was skipped, and nothing past it. -/
def alignHist (was now : Nat) (h : List Int) : List Int :=
  if was ≤ now then h ++ List.replicate (min histKept (now - was)) 0 else h.take (h.length - (was - now))

/-- The newest `k` samples of a vector. -/
def newest (k : Nat) (v : List Int) : List Int := v.drop (v.length - k)

/-- The newest samples of a record; one of zeros only is not kept. -/
def keepHist (h : List Int) : List Int :=
  let l := newest histKept (List.replicate histKept 0 ++ h)
  if l.all (· == 0) then [] else l

/-- The last sample a sink presented. -/
def State.lastPresented (s : State) (a : Nat) : Int := ((tget [] s.alm.hist a).getLast?).getD 0

/-! ## The block at the output edge -/

/-- Level-0 content of an external sink for the `n` samples of the block at the output edge: a direct lane's
quarters, or the released block through the fades and the deadline-miss fade. A sink of the island's own map
has none. -/
def State.levelNow (s : State) (a n : Nat) : MissFade × List Int :=
  let m := tget MissFade.reset s.alm.missFade a
  if !Node.external a then (MissFade.reset, [])
  else if s.laneSinks.contains a then (m, padTo n (tget [] s.alm.laneOut a))
  else
    m.run (s.alm.edge.bad.contains a) (s.lastPresented a)
      (fadeThrough (sinkFades s.fadesNow (s.sinkLoop a)) 0 (padTo n (tget [] s.alm.edge.sinks a)))

/-- What a sink presents for the `n` samples of that block: its level-0 content with the priority override
over it (R47, R48, R520). -/
def State.edgeBlock (s : State) (a n : Nat) : List Int :=
  let z := padTo n (s.levelNow a n).2
  let o := tget SinkOver.reset s.alm.cover a
  crossBlock o.pos (if o.oldOwn then z else padTo n o.old) (if o.nowOwn then z else padTo n o.now)

/-- Sinks that may present anything other than zeros, or have a record. -/
def State.edgeSinks (s : State) : List Nat :=
  let a := s.alm
  ((a.edge.sinks.map (·.1) ++ a.laneOut.map (·.1) ++ a.cover.map (·.1) ++ a.missFade.map (·.1)
    ++ a.hist.map (·.1)).eraseDups).filter fun k => Node.external k || decide (0xC000 ≤ k)

/-- The block at the output edge, from render index `base`, has been presented: it joins the record, and the
fades have moved on. -/
def State.finishBlock (s : State) (base n : Nat) : State :=
  let sinks := s.edgeSinks
  let hist := sinks.foldl (fun t k =>
    tput [] t k (keepHist (alignHist s.alm.histEnd base (tget [] s.alm.hist k) ++ s.edgeBlock k n))) []
  let miss := sinks.foldl (fun t k => tput MissFade.reset t k (s.levelNow k n).1) []
  ({ s with
    alm := { s.alm with hist := hist, histEnd := base + n, missFade := miss, laneOut := [] } }.startFades).moveFades n

/-- The sample that sink `a` presents at render index `n`; zero where neither the record nor the block at the
output edge holds it. -/
def State.presented (s : State) (a n : Nat) : Int :=
  let h := tget [] s.alm.hist a
  let z := s.alm.histEnd
  if n < z then (if z ≤ n + h.length then h.getD (n + h.length - z) 0 else 0)
  else (s.edgeBlock a s.blockLen).getD (n - z) 0

/-- The last sample of the block at the output edge, before a change at a boundary. -/
def State.edgeLast (s : State) (a : Nat) : Int := ((s.edgeBlock a s.blockLen).getLast?).getD 0

end Sys2Proof.Machine
end

