-- ==== Sys2Proof/Machine/StreamOut.lean ====
section
/-!
DEFINITION. Sys2Proof/Machine/StreamOut.lean: how transmit packets are formed, addressed and stamped
(R284-R292), address resolution, and the discovery that firmware runs (R263, R289, R293, R294).
-/
namespace Sys2Proof.Machine

/-! ## Samples -/

/-- A packet whose first sample is `n` is held: a voluntary handover divides the packets at H (R605). -/
def State.packetHeld (s : State) (n : Nat) : Bool :=
  match s.pair.switchRi with
  | some h => if n < h then !s.outputsHeld else s.outputsHeld
  | none => s.outputsHeld

/-- The packet carries a sample of a block that the Foresight has not finished (R603). -/
def State.carriesUnfinished (s : State) (last : Nat) : Bool :=
  s.pair.state == .foresight && (s.pair.unfinished.map fun m => decide (m < last)).getD false

/-- Node of channel `c` of a claimed entry SO508-SO511, in the island's own map. -/
def islandNode (i c : Nat) : Nat := 0xC000 + 64 * (i - 508) + c

/-- Channel `c` of transmit entry `i` at render index `n` (R255, R260, R285). -/
def State.txSample (s : State) (i : Nat) (x : TxStream) (c n : Nat) : Int :=
  if Ent.island x.entry then s.presented (islandNode i c) n
  else
    let v := x.run.getD c 0x8000
    if mapNone v then 0 else s.presented (0x8000 + v) n

/-- Device time in nanoseconds at which render index `n` is presented (R183, R285). -/
def State.riTime (s : State) (n : Nat) : Nat :=
  if (s.loop s.time.render).cfg.ref = 1 then n * second / s.rate
  else ((s.time.now.nanos : Int) + ((n : Int) - (s.posRi : Int)) * (second : Int) / (s.rate : Int)).toNat

/-! ## Addresses (R287, R289) -/

/-- Unicast IP address of a port (Table 13-3, DAT_NETWORK). -/
def State.portIp (s : State) (p : Nat) (v6 : Bool) : List Byte :=
  let r := tget [] s.dat.network p
  if v6 then (if u8 r 2 = 1 then slice r 16 16 else pad16 (Config.portAddress true p))
  else if u8 r 1 = 0 ∧ r ≠ [] then slice r 4 4
  else slice (Config.portAddress false p ++ zeros 4) 0 4

/-- Source MAC of transmit streams: a pair's shared address on Ports A and B (R597, Table 14-1). -/
def State.streamMac (s : State) (p : Nat) : List Byte :=
  if s.pair.enabled && decide (p < 2) then slice s.pair.record (24 + 6 * p) 6 else s.macOf p

/-- Source IP address of transmit streams: a pair's shared address where it has one (R597). -/
def State.streamIp (s : State) (p : Nat) (v6 : Bool) : List Byte :=
  let vip := if v6 then slice s.pair.record 40 16 else slice s.pair.record 36 4
  if s.pair.enabled && vip.any (· != 0) then vip else s.portIp p v6

def ipMulticast (v6 : Bool) (a : List Byte) : Bool :=
  if v6 then u8 a 0 == 0xFF else u8 a 0 / 16 == 14

/-- The MAC of a multicast address. -/
def multicastMac (v6 : Bool) (a : List Byte) : List Byte :=
  if v6 then [0x33, 0x33] ++ slice a 12 4
  else [0x01, 0x00, 0x5E] ++ [BitVec.ofNat 8 (u8 a 1 % 128)] ++ slice a 2 2

/-- MAC that a destination address resolves to, if it does (R289). -/
def State.resolve (s : State) (p : Nat) (v6 : Bool) (a : List Byte) : Option (List Byte) :=
  let a := if v6 then a else a.take 4
  if ipMulticast v6 a then some (multicastMac v6 a)
  else (s.str.arp.find? fun x => x.1 == p && x.2.1 == a).map (·.2.2)

/-- An Ethernet frame with an optional tag. -/
def ether (dst src : List Byte) (vid pcp etype : Nat) (body : List Byte) : List Byte :=
  dst ++ src ++ (if vid = 0 then [] else be 2 0x8100 ++ be 2 (pcp * 8192 + vid)) ++ be 2 etype ++ body

/-- A UDP datagram with its checksum; over IPv4 a sender may leave it zero, and which it does is
open. -/
def udpBytes (v6 csum : Bool) (src dst : List Byte) (sport dport : Nat) (d : List Byte) : List Byte :=
  let len := d.length + 8
  let head := be 2 sport ++ be 2 dport ++ be 2 len
  let c := inetSum (pseudo v6 src dst len ++ head ++ zeros 2 ++ d)
  head ++ be 2 (if v6 || csum then (if c = 0 then 65535 else c) else 0) ++ d

/-- An IP packet of protocol `proto`; the IPv4 identification is open. -/
def ipBytes (v6 : Bool) (src dst : List Byte) (dscp ttl ident proto : Nat) (d : List Byte) : List Byte :=
  if v6 then be 4 (6 * 268435456 + dscp * 4 * 1048576) ++ be 2 d.length ++ [BitVec.ofNat 8 proto]
    ++ [BitVec.ofNat 8 ttl] ++ src ++ dst ++ d
  else
    let head := fun c : Nat => [0x45] ++ [BitVec.ofNat 8 (4 * dscp)] ++ be 2 (20 + d.length)
      ++ be 2 ident ++ be 2 0x4000 ++ [BitVec.ofNat 8 ttl] ++ [BitVec.ofNat 8 proto] ++ be 2 c
      ++ src.take 4 ++ dst.take 4
    head (inetSum (head 0)) ++ d

/-- Queue a frame of firmware's own on a port: queue k (R226). -/
def State.fwFrame (s : State) (p k : Nat) (b : List Byte) : State :=
  s.queueTx p (if k = 0 then 1 else 3 + k) (plainFrame b)

/-- Ask for the MAC of an address, at most once a second (R289). -/
def State.askMac (s : State) (p : Nat) (v6 : Bool) (a : List Byte) : State :=
  s.oncePerSecond (0x28900 * 65536 * 65536 + 256 * leNat a + p) fun s =>
    let mac := s.macOf p
    if v6 then
      let dst := [0xFF, 0x02] ++ zeros 9 ++ [1, 0xFF] ++ slice a 13 3
      let icmp := fun c : Nat => [135, 0] ++ be 2 c ++ zeros 4 ++ a ++ [1, 1] ++ mac
      let src := s.portIp p true
      let c := inetSum (src ++ dst ++ be 4 32 ++ be 4 58 ++ icmp 0)
      s.fwFrame p 2 (ether (multicastMac true dst) mac 0 0 0x86DD (ipBytes true src dst 0 255 0 58 (icmp c)))
    else
      s.fwFrame p 2 (ether broadcast mac 0 0 0x0806
        (be 2 1 ++ be 2 0x0800 ++ [6, 4] ++ be 2 1 ++ mac ++ s.portIp p false ++ zeros 6 ++ a.take 4))

/-- A resolution heard on a port: an ARP reply or a neighbour advertisement. -/
def State.learnMac (s : State) (p : Nat) (a mac : List Byte) : State :=
  s.strMod fun t => { t with arp := (t.arp.filter fun x => !(x.1 == p && x.2.1 == a)) ++ [(p, a, mac)] }

/-- ARP and neighbour discovery in a received frame (Table 5-3 stage 11, R289). -/
def State.hearResolution (s : State) (p : Nat) (x : Fr) : State :=
  let b := x.body
  if x.etype = 0x0806 ∧ ub 2 b 6 = 2 then s.learnMac p (slice b 14 4) (slice b 8 6)
  else if x.etype = 0x86DD ∧ u8 b 6 = 58 ∧ u8 b 40 = 136 then
    s.learnMac p (slice b 48 16) (if u8 b 64 = 2 then slice b 66 6 else x.src)
  else s

/-! ## Group membership (R263) -/

/-- One group record of an IGMPv3 or MLDv2 report. -/
def groupRecord (v6 : Bool) (kind : Nat) (g src : List Byte) : List Byte :=
  let any := src.all (· == 0)
  let n := if v6 then 16 else 4
  [BitVec.ofNat 8 kind, 0] ++ be 2 (if any then 0 else 1) ++ g.take n ++ (if any then [] else src.take n)

/-- Report a join or a leave on a port: a change to exclude or include nothing for any source, an
allow or a block of one source. -/
def State.reportGroup (s : State) (p : Nat) (v6 join : Bool) (g src : List Byte) : State :=
  let any := src.all (· == 0)
  let kind := if any then (if join then 4 else 3) else (if join then 5 else 6)
  let mac := s.macOf p
  if v6 then
    let dst := [0xFF, 0x02] ++ zeros 13 ++ [0x16]
    let my := s.portIp p true
    let icmp := fun c : Nat => [143, 0] ++ be 2 c ++ be 2 0 ++ be 2 1 ++ groupRecord true kind g src
    let c := inetSum (my ++ dst ++ be 4 (icmp 0).length ++ be 4 58 ++ icmp 0)
    s.fwFrame p 2 (ether (multicastMac true dst) mac 0 0 0x86DD (ipBytes true my dst 0 1 0 58 (icmp c)))
  else
    let dst := [224, 0, 0, 22]
    let body := fun c : Nat => [0x22, 0] ++ be 2 c ++ be 2 0 ++ be 2 1 ++ groupRecord false kind g src
    s.fwFrame p 2 (ether (multicastMac false dst) mac 0 0 0x0800
      (ipBytes false (s.portIp p false) dst 0 1 0 2 (body (inetSum (body 0)))))

/-- Groups that enabled AES67 receive entries name: port, version, address and source filter. -/
def State.wantedGroups (s : State) : List (Nat × Bool × List Byte × List Byte) :=
  ((s.str.rx.map fun x =>
    let e := x.2.entry
    [0, 1].filterMap fun p =>
      let g := slice e (32 + 16 * p) 16
      if Ent.enabled e && Ent.aes67 e && Ent.onPort e p && ipMulticast (Ent.flag e 4) g then
        some (p, Ent.flag e 4, g, srcFilter e p)
      else none).flatten).eraseDups

/-- Firmware joins what is newly named and leaves what no entry names any more (R263). -/
def State.followGroups (s : State) : State :=
  if !s.sys.running then s
  else
    let a := s.str.joined
    let b := s.wantedGroups
    let say := fun (join : Bool) (s : State) (g : Nat × Bool × List Byte × List Byte) =>
      s.reportGroup g.1 g.2.1 join g.2.2.1 g.2.2.2
    let s := (b.filter fun g => !a.contains g).foldl (say true) s
    let s := (a.filter fun g => !b.contains g).foldl (say false) s
    s.strMod fun t => { t with joined := b }

/-! ## Packets (R285-R292) -/

/-- Samples `n` to `n + SPP - 1` of an entry as wire words. -/
def State.payload (s : State) (i : Nat) (x : TxStream) (n : Nat) : List Byte :=
  let e := x.entry
  let w := wordBytes (Ent.format e)
  ((List.range (Ent.spp e)).map fun j =>
    ((List.range (Ent.ch e)).map fun c => be w (toWire (8 * w) (s.txSample i x c (n + j)))).flatten).flatten

/-- AVTP stream ID; zero lets the device form it (Table 6-4). -/
def State.streamId (s : State) (i : Nat) (e : List Byte) : List Byte :=
  if zeroAt e 72 8 then s.streamMac 0 ++ be 2 i else slice e 72 8

/-- The transport payload of packet `j` (R286, R290). -/
def State.transport (s : State) (i : Nat) (x : TxStream) (j : Nat) : List Byte :=
  let e := x.entry
  let n := x.riBase + j * packetStep e
  let stamp := fun m : Nat => s.riTime m + u32 e 36
  if Ent.aes67 e then
    [0x80] ++ [BitVec.ofNat 8 (u8 e 28)] ++ be 2 (x.rtpBase + j) ++ be 4 (n + x.mco) ++ be 4 x.ssrc
      ++ s.payload i x n
  else if Ent.crf e then
    [4] ++ [BitVec.ofNat 8 (0x80 + 8 * b2n x.mr)] ++ be 1 (x.avtpBase + j) ++ [1] ++ s.streamId i e
      ++ be 4 (fsHz (Ent.fs e)) ++ be 2 (8 * Ent.spp e) ++ be 2 (u16 e 92)
      ++ ((List.range (Ent.spp e)).map fun t => be 8 (stamp (n + t * u16 e 92))).flatten
  else
    let pay := s.payload i x n
    [2] ++ [BitVec.ofNat 8 (0x81 + 8 * b2n x.mr)] ++ be 1 (x.avtpBase + j) ++ [0] ++ s.streamId i e
      ++ be 4 (stamp n) ++ be 1 (aafFormat (Ent.format e))
      ++ be 2 (aafNsr (Ent.fs e) * 4096 + Ent.ch e) ++ be 1 (8 * wordBytes (Ent.format e))
      ++ be 2 pay.length ++ zeros 2 ++ pay

/-- The frame of a packet on one port; none while its destination does not resolve (R287, R289). -/
def State.txFrame (s : State) (e : List Byte) (p ident : Nat) (d : List Byte) : Option (List Byte) :=
  let mac := s.streamMac p
  if Ent.aes67 e then
    let v6 := Ent.flag e 2
    let dst := slice e (40 + 16 * p) (if v6 then 16 else 4)
    let src := s.streamIp p v6
    (s.resolve p v6 dst).map fun m =>
      ether m mac (Ent.vid e p) (u8 e 9) (if v6 then 0x86DD else 0x0800)
        (ipBytes v6 src dst (u8 e 10) (u8 e 11) ident 17
          (udpBytes v6 (bitOf ident 16) src dst (u16 e 26) (u16 e 24) d))
  else some (ether (slice e (80 + 6 * p) 6) mac (Ent.vid e p) (u8 e 9) 0x22F0 d)

def TxStream.count (x : TxStream) (c : Nat) : TxStream :=
  { x with counters := tmod 0 x.counters c fun v => satAdd 0xFFFFFFFF v 1 }

/-- Keep a formed frame of a Backsight for the replay of R602 (R596). -/
def State.keepReplay (s : State) (i last p : Nat) (f : List Byte) : State :=
  s.pairMod fun x => { x with replay := x.replay ++ [(last, i, p, f)] }

/-- One port's frame of a packet: held, unresolved, or queued with its launch time. -/
def State.sendStream (s : State) (i p first last : Nat) (launch : Nat) (f : Option (List Byte)) : State :=
  let x := s.tx i
  match f with
  | none =>
    let e := x.entry
    (s.setTx i (x.count Sc.unresolved)).askMac p (Ent.flag e 2)
      (slice e (40 + 16 * p) (if Ent.flag e 2 then 16 else 4))
  | some b =>
    if s.packetHeld first && s.pair.state.isBack then s.keepReplay i last p b
    else if s.packetHeld first || s.carriesUnfinished last then s.setTx i (x.count Sc.held)
    else
      let s := s.setTx i (x.count p)
      let k := if Ent.island x.entry then 0 else if Ent.flag x.entry 5 then 3 else 2
      (s.settleCredit p).queueTx p k { plainFrame b with
        launch := some (launch / second, launch % second), lastRi := some last }

/-- The next packet of an enabled entry is formed once the output edge has presented its samples; it
consumes its numbers whether or not it is sent (R285, R290, R292). -/
def State.formPacket (s : State) (i : Nat) : State :=
  let x := s.tx i
  let e := x.entry
  let last := x.riBase + (x.formed + 1) * packetStep e
  if !Ent.enabled e || x.causes != 0 || decide (s.posRi < last) || packetStep e == 0 then s
  else
    let d := s.draw 17
    let s := d.2
    let body := s.transport i x x.formed
    let launch := s.riTime last + u32 e 16
    let s := s.setTx i { x with formed := x.formed + 1 }
    let first := x.riBase + x.formed * packetStep e
    (entPorts e).foldl (fun s p => s.sendStream i p first last launch (s.txFrame e p d.1 body)) s

/-- STREAM_PACKET_FORM (R285-R292). -/
def execStreamPacketForm (so : Nat) (s : State) : Host.Outcome State Fault Refusal :=
  ran (decide (so < 512)) "STREAM_PACKET_FORM" s (s.formPacket so)

/-! ## Discovery (R293, R294) -/

def ascii (t : String) : List Byte := t.toList.map fun c => BitVec.ofNat 8 c.toNat

def dec (n : Nat) : List Byte := ascii (toString n)

def hexDigit (n : Nat) : Byte := if n < 10 then BitVec.ofNat 8 (48 + n) else BitVec.ofNat 8 (55 + n)

def hexBytes (b : List Byte) : List Byte :=
  (b.map fun x => [hexDigit (x.toNat / 16), hexDigit (x.toNat % 16)]).flatten

/-- An address as SDP writes it: dotted IPv4, or eight groups of hexadecimal. -/
def ipText (v6 : Bool) (a : List Byte) : List Byte :=
  if v6 then
    ((List.range 8).map fun i => (if i = 0 then [] else ascii ":") ++ hexBytes (slice a (2 * i) 2)).flatten
  else ((List.range 4).map fun i => (if i = 0 then [] else ascii ".") ++ dec (u8 a i)).flatten

/-- Text up to its first zero byte. -/
def untilZero : List Byte → List Byte
  | [] => []
  | b :: bs => if b = 0 then [] else b :: untilZero bs

/-- The SDP of a transmit entry on a port (R294); the grandmaster and domain are the PTP servo's,
which firmware learns and the block does not hold. -/
def State.sdpText (s : State) (i p gm domain : Nat) : List Byte :=
  let x := s.tx i
  let e := x.entry
  let v6 := Ent.flag e 2
  let net := if v6 then "IN IP6 " else "IN IP4 "
  let dst := ipText v6 (slice e (40 + 16 * p) (if v6 then 16 else 4))
  let src := ipText v6 (s.streamIp p v6)
  let nl := [0x0D, 0x0A]
  let us := Ent.spp e * 1000000 / fsHz (Ent.fs e)
  ascii "v=0" ++ nl ++ ascii "o=- " ++ dec x.ssrc ++ ascii " 1 " ++ ascii net ++ src ++ nl
    ++ ascii "s=" ++ untilZero (slice s.dat.name 0 32) ++ nl
    ++ ascii "c=" ++ ascii net ++ dst ++ (if v6 then [] else ascii "/" ++ dec (u8 e 11)) ++ nl
    ++ ascii "t=0 0" ++ nl
    ++ ascii "m=audio " ++ dec (u16 e 24) ++ ascii " RTP/AVP " ++ dec (u8 e 28) ++ nl
    ++ ascii "a=rtpmap:" ++ dec (u8 e 28) ++ ascii (if Ent.format e = 1 then " L16/" else " L24/")
    ++ dec (fsHz (Ent.fs e)) ++ ascii "/" ++ dec (Ent.ch e) ++ nl
    ++ ascii "a=ptime:" ++ dec (us / 1000) ++ ascii "." ++ dec (us / 100 % 10) ++ dec (us / 10 % 10)
    ++ dec (us % 10) ++ nl
    ++ ascii "a=ts-refclk:ptp=IEEE1588-2008:" ++ hexBytes (be 8 gm) ++ ascii ":" ++ dec domain ++ nl
    ++ ascii "a=mediaclk:direct=" ++ dec x.mco ++ nl
    ++ ascii "a=source-filter: incl " ++ ascii net ++ dst ++ ascii " " ++ src ++ nl

/-- One SAP message for an entry on a port. -/
def State.sapFrame (s : State) (i p : Nat) (delete : Bool) : State :=
  let e := (s.tx i).entry
  let v6 := Ent.flag e 2
  let g := s.draw 64
  let h := g.2.draw 8
  let ident := h.2.draw 16
  let s := ident.2
  let src := s.portIp p v6
  let dst := if v6 then [0xFF, 0x0E] ++ zeros 9 ++ [2] ++ zeros 2 ++ [0x7F, 0xFE] else [239, 255, 255, 255]
  let sap := [BitVec.ofNat 8 (0x20 + 16 * b2n v6 + 4 * b2n delete), 0] ++ be 2 i ++ src
    ++ ascii "application/sdp" ++ [0] ++ s.sdpText i p g.1 h.1
  s.fwFrame p 2 (ether (multicastMac v6 dst) (s.macOf p) 0 0 (if v6 then 0x86DD else 0x0800)
    (ipBytes v6 src dst 0 255 ident.1 17 (udpBytes v6 true src dst 9875 9875 sap)))

/-- Every 30 s firmware announces an enabled AES67 entry with ANNOUNCE; one announced and since
disabled is deleted (Table 6-8). -/
def State.sapAnnounce (s : State) (i : Nat) : State :=
  let x := s.tx i
  let e := x.entry
  if !s.sys.running || s.outputsHeld then s
  else if Ent.enabled e && Ent.flag e 3 && Ent.aes67 e then
    if x.sapAt = 0 ∨ x.sapAt - 1 + 30 * second ≤ s.time.elapsed then
      let s := s.setTx i { x with sapAt := s.time.elapsed + 1 }
      (entPorts e).foldl (fun s p => s.sapFrame i p false) s
    else s
  else if x.sapAt ≠ 0 then
    (entPorts e).foldl (fun s p => s.sapFrame i p true) (s.setTx i { x with sapAt := 0 })
  else s

/-- SAP_ANNOUNCE (R293, R294). -/
def execSapAnnounce (so : Nat) (s : State) : Host.Outcome State Fault Refusal :=
  ran (decide (so < 512)) "SAP_ANNOUNCE" s (s.sapAnnounce so)

/-- The entity ID: the Port A address with 0xFFFE after its third octet (Table 6-8); in a pair PAIR_ENTITY
(R597). -/
def State.entityId (s : State) : List Byte :=
  if s.pair.enabled then slice s.pair.record 16 8
  else (s.macOf 0).take 3 ++ [0xFF, 0xFE] ++ (s.macOf 0).drop 3

/-- Entries of a direction that discovery manages: one stream descriptor each. -/
def State.managedCount (s : State) (tx : Bool) : Nat :=
  if tx then (s.str.tx.filter fun x => Ent.valid x.2.entry && Ent.flag x.2.entry 4).length
  else (s.str.rx.filter fun x => Ent.valid x.2.entry && Ent.flag x.2.entry 5).length

/-- ENTITY_AVAILABLE every 5 s on Ports A and B, valid_time 31; the model ID and the capability words
are firmware's. -/
def State.adpAvailable (s : State) : State :=
  if !s.sys.running || s.outputsHeld || (s.str.adpAt != 0 && decide (s.time.elapsed < s.str.adpAt - 1 + 5 * second)) then s
  else
    let m := s.draw 64
    let c := m.2.draw 32
    let g := c.2.draw 64
    let s := g.2.strMod fun t => { t with adpAt := s.time.elapsed + 1, adpIdx := (t.adpIdx + 1) % 4294967296 }
    let pdu := fun p : Nat =>
      [0xFA, 0] ++ be 2 (31 * 2048 + 56) ++ s.entityId ++ be 8 m.1 ++ be 4 c.1
        ++ be 2 (s.managedCount true) ++ be 2 0x4001 ++ be 2 (s.managedCount false) ++ be 2 0x4001
        ++ zeros 4 ++ be 4 s.str.adpIdx ++ be 8 g.1 ++ zeros 4 ++ be 2 p ++ zeros 14
    [0, 1].foldl (fun s p =>
      s.fwFrame p 1 (ether [0x91, 0xE0, 0xF0, 1, 0, 0] (s.macOf p) 0 0 0x22F0 (pdu p))) s

/-- ADP_ENTITY_AVAILABLE (R293). -/
def execAdpEntityAvailable (s : State) : Host.Outcome State Fault Refusal := goOn s s.adpAvailable

/-- A session not announced for 300 s leaves the cache (Table 6-8). -/
def State.sessionExpires (s : State) (i : Nat) : State :=
  match s.str.sdp[i]? with
  | some x =>
    if x.last + 300 * second ≤ s.time.elapsed then s.strMod fun t => { t with sdp := t.sdp.eraseIdx i } else s
  | none => s

/-- SDP_SESSION_EXPIRE (R293). -/
def execSdpSessionExpire (i : Nat) (s : State) : Host.Outcome State Fault Refusal :=
  ran (decide (i < 1024)) "SDP_SESSION_EXPIRE" s (s.sessionExpires i)

/-- The number at the front of a text. -/
def leadingNat (acc : Nat) : List Byte → Nat
  | [] => acc
  | b :: bs => if 48 ≤ b.toNat ∧ b.toNat < 58 then leadingNat (acc * 10 + (b.toNat - 48)) bs else acc

/-- What follows the first space. -/
def afterSpace : List Byte → List Byte
  | [] => []
  | b :: bs => if b = 0x20 then bs else afterSpace bs

/-- The rest of the line that begins with "o=". -/
def originLine : List Byte → List Byte
  | [] => []
  | b :: bs => if b = 0x6F ∧ bs.head? = some 0x3D then bs.drop 1 else originLine bs

/-- A SAP message heard: the session enters or refreshes the cache, or leaves it on deletion. -/
def State.hearSap (s : State) (d : List Byte) : State :=
  let v6 := bitOf (u8 d 0) 4
  let n := if v6 then 16 else 4
  let body := d.drop (4 + n + 4 * u8 d 1)
  let text := if body.take 3 = ascii "v=0" then body else body.drop ((untilZero body).length + 1)
  let session := leadingNat 0 (afterSpace (originLine text))
  let origin := pad16 (slice d 4 n)
  let rest := s.str.sdp.filter fun x => !(x.origin == origin && x.session == session)
  if bitOf (u8 d 0) 2 then s.strMod fun t => { t with sdp := rest }
  else if 1024 ≤ rest.length ∨ 1024 < text.length then s
  else s.strMod fun t => { t with
    sdp := rest ++ [{ origin := origin, session := session, text := text, last := s.time.elapsed }] }

/-- An entry is bound or unbound through ACMP: a receive entry takes the talker's stream ID, address
and VID; a transmit entry counts up to 16 listeners (R293, Table 6-8). Only DISC_MANAGED entries
act; the generation increments and every slot hears STR_BOUND. -/
def State.acmp (s : State) (tx : Bool) (i : Nat) (on : Bool) (id dmac : List Byte) (vid : Nat) : State :=
  let u := (if tx then 0x2000 else 0x1000) + i
  let e := streamRecord.padBytes 128 (s.streamEntry u)
  let managed := Ent.valid e && Ent.flag e (if tx then 4 else 5) && !Ent.aes67 e && !Ent.island e
  let n := (s.tx i).listeners
  if !managed || !s.sys.running || (tx && (if on then n == 16 else n == 0)) then s
  else
    let bound := fun (s : State) =>
      s.event 0x030A Sev.notice 0x03 u (le 2 u ++ le 1 (b2n on) ++ zeros 1 ++ le 2 (s.genOf u))
    if tx then
      let m := if on then n + 1 else n - 1
      let s := s.modTx i fun x => { x with listeners := m }
      let s := (s.bumpGen u).adoptStream u (withEnable e (decide (0 < m))) (s.tx i).run
      bound s
    else
      let stream := slice (if on then id ++ zeros 8 else zeros 8) 0 8
      let mac := slice (if on then dmac ++ zeros 6 else zeros 6) 0 6
      let v := le 2 (if on then vid else 0)
      let e' := e.take 12 ++ v ++ v ++ slice e 16 80 ++ stream ++ mac ++ mac ++ e.drop 116
      let same := sourceOf true e == sourceOf true e'
      let s := s.adoptStream u (withEnable e' on) (s.rx i).run
      bound (if same then s.bumpGen u else s)

/-- ACMP_CONNECT: a connection made or broken (R293). -/
def execAcmpConnect (tx : Bool) (i : Nat) (on : Bool) (id dmac : List Byte) (vid : Nat) (s : State) :
    Host.Outcome State Fault Refusal :=
  ran (decide (i < 512) && decide (vid < 4096)) "ACMP_CONNECT" s (s.acmp tx i on id dmac vid)

end Sys2Proof.Machine
end

