-- ==== Sys2Proof/Machine/Fabric.lean ====
section
/-!
DEFINITION. Sys2Proof/Machine/Fabric.lean: the margin gauge, the voltage loop, shedding and the operating
profiles (R340-R372). What a profile change does to audio stands in Machine/BlockTick.lean.
-/
namespace Sys2Proof.Machine

def State.fabMod (s : State) (f : FabPart → FabPart) : State := { s with fab := f s.fab }

/-! ## Voltage (R350-R354) -/

/-- CEIL under R354, where no regulator fault holds it (R353). -/
def FabPart.ceilNow (f : FabPart) : Nat :=
  if f.active = 0 ∧ f.hotCeil = true then 50 else bandCeil (profBand f.active)

/-- Write a setpoint; its read-back is due 1 ms later (R353). -/
def State.setVcode (s : State) (v : Nat) : State :=
  if s.fab.vfrozen || v == s.fab.vcode then s
  else s.fabMod fun f => { f with vcode := v, readback := some s.time.elapsed }

/-- VCODE lies within a band. -/
def inBand (b v : Nat) : Bool := decide (bandFloor b ≤ v) && decide (v ≤ bandCeil b)

/-- The nearer bound of a band. -/
def nearerBound (b v : Nat) : Nat := if v < bandFloor b then bandFloor b else min v (bandCeil b)

/-- Where VCODE has to move: into a pending profile's band, or down to a lowered ceiling. -/
def State.aimVcode (s : State) : State :=
  s.fabMod fun f =>
    let want := match f.pend with
      | some p => nearerBound (profBand p) f.vcode
      | none => if f.ceil < f.vcode then f.ceil else f.vcode
    { f with vtarget := if want = f.vcode then none else some want }

/-- The regulator failed: the event, VCODE frozen, CEIL at VCODE (R353). -/
def State.vddFault (s : State) (cause mv : Nat) : State :=
  let s := (s.markFabric 1).event 0x0143 Sev.error 0x01 0x0000
    (le 1 cause ++ le 1 s.fab.vcode ++ zeros 2 ++ le 2 mv)
  s.fabMod fun f => { f with vfrozen := true, ceil := f.vcode, vtarget := none, readback := none }

/-- The regulator is tried again (R353). -/
def State.retryVdd (s : State) : State :=
  s.fabMod fun f => if f.vfrozen then { f with vfrozen := false, ceil := f.ceilNow } else f

/-- A read-back differs from the setpoint by more than 15 mV. -/
def mvOff (code mv : Nat) : Bool :=
  let want := 600 + 5 * code
  decide (want + 15 < mv) || decide (mv + 15 < want)

/-- The read-back 1 ms after a setpoint write, or its missing acknowledgement (R353). -/
def State.judgeReadback (s : State) (ack : Bool) (mv : Nat) : State :=
  match s.fab.readback with
  | none => s
  | some t =>
    if !ack then s.vddFault 1 mv
    else if s.time.elapsed < t + milli then s
    else if mvOff s.fab.vcode mv then s.vddFault 2 mv
    else s.fabMod fun f => { f with readback := none }

/-- VDD_READBACK_CHECK (R353). -/
def execVddReadbackCheck (ack : Bool) (mv : Nat) (s : State) : Host.Outcome State Fault Refusal :=
  goOn s (s.judgeReadback ack mv)

/-- PM_ALERT_N low: the read-back is judged as R353 does; one that agrees clears the regulator's fault,
which is outside the device (R649). -/
def State.pmAlert (s : State) (mv : Nat) : State :=
  if mvOff s.fab.vcode mv then s.vddFault 2 mv else s

/-- PM_ALERT (R649). -/
def execPmAlert (mv : Nat) (s : State) : Host.Outcome State Fault Refusal := goOn s (s.pmAlert mv)

/-- The sensors as read: TSENSE, TJ_MAX and the Summit ceiling, whose change is reported (R354). -/
def State.readSensors (s : State) (t : List Int) : State :=
  let ts := (List.range 12).map fun i => t.getD i 0
  let top := ts.foldl max (ts.getD 0 0)
  let hot := if 380 < top then true else if top < 368 then false else s.fab.hotCeil
  let was := s.fab.ceilNow
  let s := s.fabMod fun f => { f with tsense := ts, tjMax := top, hotCeil := hot }
  let now := s.fab.ceilNow
  if now = was ∨ s.fab.vfrozen = true then s
  else
    let s := s.fabMod fun f => { f with ceil := now }
    let s := if now < was then s.markFabric 3 else s
    (s.event 0x0144 Sev.warning 0x01 0x0000 (le 1 now ++ zeros 1 ++ leI 2 top)).aimVcode

/-! ## Profile changes: what a request needs (R364-R367, R479) -/

/-- N_INSTR of the running program (Table 9-2); 0 without one. -/
def State.programLength (s : State) : Nat :=
  if s.alm.active then u32 (tget AlmBank.reset s.alm.bank s.alm.running).image 20 else 0

/-- The failing items of R365 with their demand and limit, as Table 8-7 numbers them. -/
def State.budgetItems (s : State) (p : Nat) : List (Nat × Nat × Nat) :=
  let newP := profPart p != profPart s.fab.active
  let pool := 32 * s.runningSlots p
  let long : Nat := (s.feedsIn p).foldl (fun (n : Nat) x => max n (32 * (x.2.bankAfter newP).nslot)) 0
  let absent := ((s.feedsIn p).filter fun x =>
    newP && x.2.running.nslot != 0 && x.2.standby.ps != profPart p).length
  let engines := (s.enginePlan p).1.length
  let broken := (BitVec.ofNat 32 (profPowered p) &&& s.fab.failed).toNat
  (if profInstr p < s.programLength then [(1, s.programLength, profInstr p)] else [])
    ++ (if profPool p < pool then [(2, pool, profPool p)] else [])
    ++ (if 16384 < long then [(3, long, 16384)] else [])
    ++ (if 0 < absent then [(4, absent, 0)] else [])
    ++ (if 0 < engines then [(5, profAsrc p + engines, profAsrc p)] else [])
    ++ (if broken ≠ 0 then [(6, broken, 0)] else [])

/-- The first failing item of R365. -/
def State.budgetFail (s : State) (p : Nat) : Option (Nat × Nat × Nat) := (s.budgetItems p).head?

/-- A change of the partition size meets a feed that is armed, pending or crossfading (Table 11-4). -/
def State.partitionBusy (s : State) (p : Nat) : Bool :=
  profPart p != profPart s.fab.active && (s.cor.feed.any fun x => x.2.busy)

/-- The prerequisites of R367 hold: partitions usable, VCODE in band. -/
def State.profileReady (s : State) (p : Nat) : Bool :=
  BitVec.ofNat 32 (profPowered p) &&& ~~~ s.fab.usable == 0 && inBand (profBand p) s.fab.vcode

/-- Note where the prerequisites came to be met. -/
def State.noteReady (s : State) : State :=
  match s.fab.pend with
  | none => s.fabMod fun f => { f with readyRi := none }
  | some p =>
    if s.profileReady p then
      (if s.fab.readyRi.isSome then s else s.fabMod fun f => { f with readyRi := some s.posRi })
    else s.fabMod fun f => { f with readyRi := none }

/-- A request that passed R365 becomes pending, and replaces an earlier one (R366). -/
def State.requestProfile (s : State) (p : Nat) : State :=
  let s := s.retryVdd.fabMod fun f => { f with pend := some p, readyRi := none }
  (s.powerParts (BitVec.ofNat 32 (profPowered p))).aimVcode.noteReady

/-- VCODE moves one code towards its target (R354, R367). -/
def State.rampVcode (s : State) : State :=
  match s.fab.vtarget with
  | none => s
  | some t =>
    let v := s.fab.vcode
    (s.setVcode (if v < t then v + 1 else v - 1)).aimVcode.noteReady

/-- VCODE_RAMP_STEP (R354, R367). -/
def execVcodeRampStep (s : State) : Host.Outcome State Fault Refusal := goOn s s.rampVcode

/-- A powered-up partition is usable (R222, R367). -/
def State.partUsable (s : State) (n : Nat) : State :=
  if s.fab.powered.getLsbD n then
    (s.fabMod fun f => { f with usable := setBit f.usable n true }).noteReady
  else s

/-- PARTITION_USABLE (R222, R367). -/
def execPartitionUsable (n : Nat) (s : State) : Host.Outcome State Fault Refusal :=
  ran (decide (n < 16)) "PARTITION_USABLE" s (s.partUsable n)

/-- One block after a change, partitions the new profile does not power are gated (R369). -/
def State.gateAfterChange (s : State) : State :=
  match s.fab.gateDue with
  | some (r, _) => if r ≤ s.time.ri then (s.fabMod fun f => { f with gateDue := none }).gateParts else s
  | none => s

/-- PARTITION_GATE (R369). -/
def execPartitionGate (s : State) : Host.Outcome State Fault Refusal := goOn s s.gateAfterChange

/-! ## The margin gauge (R346-R348, R351, R356, R360) -/

/-- Slack in per mille of the block period (R347). -/
def perMille (rate len : Nat) (slack : Int) : Int :=
  1000 * slack * (rate : Int) / ((len * second : Nat) : Int)

/-- Classes that abandoned stage-A work of the block after the one released, which only a depth of 2 has
(R341). -/
def State.earlyMissed (s : State) (t : TickIn) : List Nat :=
  if profDepth s.fab.active = 2 then t.early.filter fun c => c == 1 || c == 3 || c == 4 else []

/-- Classes with a miss at this tick. -/
def State.lostClasses (s : State) (t : TickIn) : List Nat := (t.missed ++ s.earlyMissed t).eraseDups

/-- Per-mille slack of classes 1 to 5 (R347). -/
def State.slackPm (s : State) (t : TickIn) : List Int :=
  (List.range 5).map fun c =>
    if (s.lostClasses t).contains (c + 1) then -1000 else perMille s.rate s.blockLen (t.slack.getD c 0)

/-- The block slack S (R347). -/
def blockSlack (pm : List Int) : Int := pm.foldl min (pm.getD 0 0)

/-- The gauge's registers after a judged block (Table 8-2). -/
def FabPart.gauge (f : FabPart) (t : TickIn) (lost : List Nat) (pm : List Int) : FabPart :=
  { f with
    slackLast := (List.range 5).map fun c =>
      if lost.contains (c + 1) then -2147483648 else sat32 (t.slack.getD c 0)
    slackLow := (List.range 5).map fun c =>
      min (f.slackLow.getD c 0x7FFF) (clampI (-32768) 32767 (pm.getD c 0)) }

/-- Class-4 taps that the survey allocates, A of R355. -/
def State.classFour (s : State) : Nat := (s.obj.tap.filter fun x => !x.2.safe && (x.2.fade != 2 || x.2.shed)).length

/-- SHED_LEVEL rises by 1, never beyond SHED_MAX (R356). -/
def State.shedRise (s : State) : State :=
  if s.fab.shed < s.fab.shedMax then
    let s := s.fabMod fun f => { f with shed := f.shed + 1, short := 0 }
    s.event 0x0141 Sev.warning 0x01 0x0000
      (le 1 s.fab.shed ++ zeros 3 ++ le 4 (s.fab.shed * s.classFour / 16))
  else s.fabMod fun f => { f with short := 0 }

/-- SHED_RISE: after 8 short blocks (R356). -/
def execShedRise (s : State) : Host.Outcome State Fault Refusal :=
  goOn s (if 8 ≤ s.fab.short then s.shedRise else s)

/-- SHED_FALL: after 256 blocks at ample slack (R357). -/
def execShedFall (s : State) : Host.Outcome State Fault Refusal :=
  goOn s (if 256 ≤ s.fab.shedAmple then
    s.fabMod fun f => { f with shed := f.shed - 1, shedAmple := 0 } else s)

/-- VCODE_FALL: after 64 blocks at ample slack (R351). -/
def State.vcodeFall (s : State) : State :=
  if 64 ≤ s.fab.ample ∧ s.fab.shed = 0 then
    (s.setVcode (max s.fab.floor (s.fab.vcode - 1))).fabMod fun f => { f with ample := 0 }
  else s

def execVcodeFall (s : State) : Host.Outcome State Fault Refusal := goOn s s.vcodeFall

/-- The voltage loop and the counts towards a fall and towards shedding, after a judged block of slack
`sl` (R351, R356, R357). -/
def State.voltageLoop (s : State) (sl : Int) : State :=
  let f := s.fab
  let aim : Nat := if f.shed = 0 then f.target else f.target + f.hyst
  let ample := decide ((f.target + f.hyst : Nat) ≤ sl)
  let short := decide (sl < f.target) && f.vcode == f.ceil
  let v := if sl < (aim / 3 : Nat) then f.vcode + 4 else if sl < aim then f.vcode + 1 else f.vcode
  let s := s.fabMod fun f => { f with
    ample := if ample then f.ample + 1 else 0
    shedAmple := if ample && f.shed != 0 then f.shedAmple + 1 else 0
    short := if short then f.short + 1 else 0 }
  (if f.vcode < v then s.setVcode (max f.vcode (min f.ceil v)) else s).aimVcode

/-- Work of the classes in `missed` was abandoned (R360): `ri` is the index of its block's first sample. -/
def State.countMiss (s : State) (missed : List Nat) (ri : Nat) : State :=
  let classes := (List.range 5).filter fun c => missed.contains (c + 1)
  if classes = [] then s
  else
    let s := (s.markFabric 0).fabMod fun f => { f with
      missTotal := satAdd 0xFFFFFFFF f.missTotal 1
      missCt := (List.range 5).map fun c =>
        if classes.contains c then satAdd 0xFFFF (f.missCt.getD c 0) 1 else f.missCt.getD c 0
      lastMissRi := ri
      missClasses := f.missClasses ||| classes.foldl (fun a c => a + 2 ^ c) 0
      missBlocks := f.missBlocks + 1 }
    s.oncePerSecond 0x14200 fun s =>
      (s.event 0x0142 Sev.error 0x01 0x0000
        (le 1 s.fab.missClasses ++ zeros 3 ++ le 4 s.fab.missBlocks)).fabMod fun f =>
          { f with missClasses := 0, missBlocks := 0 }

/-- A miss in a judged block that ran at the voltage ceiling sheds at once (R360). -/
def State.missSheds (s : State) (atCeil : Bool) (missed : List Nat) : State :=
  if (missed.any fun c => decide (1 ≤ c) && decide (c ≤ 5)) && atCeil then s.shedRise else s

/-- The gauge judges the stages that end at a tick (R345-R348, R360, R370); misses of direct lanes have been
counted at their own ticks (R403). -/
def State.judgeBlock (s : State) (t : TickIn) (ri : Nat) : State :=
  if !s.isReady Rdy.fabric then s.fabMod fun f => { f with beat := false }
  else
    let judged := !s.fab.exempt
    let pm := s.slackPm t
    let atCeil := s.fab.vcode == s.fab.ceil
    let lost := s.lostClasses t
    let early := s.earlyMissed t
    let s := s.fabMod fun f => { f with beat := !lost.contains 1 }
    let s := if judged then
        (s.fabMod fun f => { f.gauge t lost pm with
          shedBlocks := if f.shed = 0 then f.shedBlocks else satAdd 0xFFFFFFFF f.shedBlocks 1 }).voltageLoop
          (blockSlack pm)
      else s
    let s := (s.countMiss (t.missed.filter (· != 2)) ri).countMiss early (ri + s.blockLen)
    (if judged then s.missSheds atCeil lost else s).fabMod fun f => { f with exempt := false }

/-! ## Commands (Table 8-7) -/

def fabStatusData (s : State) : List Byte :=
  ([0x3000, 0x3004, 0x3008, 0x300C].map fun o => le 4 (fabReg s o)).flatten ++ leI 2 s.fab.tjMax ++ zeros 2
    ++ ((List.range 5).map fun c => leI 4 (s.fab.slackLast.getD c 0)).flatten ++ le 8 s.fab.lastMissRi

def sysFabStatusBody : Body := query fun _ s => fabStatusData s

/-- SYS_FAB_STATUS (R349). -/
def execSysFabStatus (q : Nat) (s : State) : Host.Outcome State Fault Refusal :=
  commandRow "SYS_FAB_STATUS" 0x0140 sysFabStatusBody q s

def marginCheck (r : Req) (_s : State) : Option Nat :=
  let target := u16 r.params 0
  let hyst := u16 r.params 2
  if target < 50 ∨ 500 < target ∨ hyst < 20 ∨ 300 < hyst ∨ 800 < target + hyst ∨
      16 < u8 r.params 4 ∨ zeroAt r.params 5 3 = false then some Status.badParam
  else none

/-- New margins: SHED_LEVEL falls within a lower SHED_MAX at once, and the regulator is tried again
(R353, R371). -/
def setMargin (r : Req) (s : State) : State :=
  s.retryVdd.fabMod fun f => { f with
    target := u16 r.params 0, hyst := u16 r.params 2, shedMax := u8 r.params 4
    shed := min f.shed (u8 r.params 4) }

def sysFabSetMarginBody : Body := atBoundary marginCheck setMargin

/-- SYS_FAB_SET_MARGIN (R371). -/
def execSysFabSetMargin (q : Nat) (s : State) : Host.Outcome State Fault Refusal :=
  commandRow "SYS_FAB_SET_MARGIN" 0x0141 sysFabSetMarginBody q s

def sysFabBudgetBody : Body := fun _ r s =>
  if 4 < u8 r.params 0 ∨ zeroAt r.params 1 3 = false then .bad Status.badParam
  else
    let x := s.budgetFail (u8 r.params 0)
    let y := x.getD (0, 0, 0)
    .done s (le 1 (b2n x.isSome) ++ le 1 y.1 ++ zeros 2 ++ le 4 y.2.1 ++ le 4 y.2.2)

/-- SYS_FAB_BUDGET (R365, R371). -/
def execSysFabBudget (q : Nat) (s : State) : Host.Outcome State Fault Refusal :=
  commandRow "SYS_FAB_BUDGET" 0x0142 sysFabBudgetBody q s

end Sys2Proof.Machine
end

