-- ==== Sys2Proof/Machine/Fixed.lean ====
section
/-!
DEFINITION. Sys2Proof/Machine/Fixed.lean: real functions in fixed point. A real number stands as an
integer count of 2^-80; every function here is right to better than 2^-64, far below the
precisions that the spec states (R414, R430-R437, R486-R488).
-/
namespace Sys2Proof.Machine.Fx

/-- 1.0. -/
def one : Int := 1208925819614629174706176
def ln2 : Int := 837963523372001241319908
def ln10 : Int := 2783654570780253816072539
def pi : Int := 3797952473636338580787994

def ofInt (v : Int) : Int := v * one

/-- `n / d`. -/
def ofRat (n : Int) (d : Nat) : Int := n * one / (d : Int)

def mul (a b : Int) : Int := a * b / one
def div (a b : Int) : Int := a * one / b

/-- Nearest integer, halves away from zero. -/
def round (v : Int) : Int := roundDiv v 1208925819614629174706176

/-- Integer square root. -/
def isqrt (n : Nat) : Nat := bsearch (fun m => decide (m * m ≤ n)) 0 (Nat.log2 n / 2 + 1)

def sqrt (v : Int) : Int := isqrt (v.toNat * 1208925819614629174706176)

/-! ## Exponential and logarithm -/

/-- 1 + (x/k)(1 + (x/(k+1))(...)), `n` factors. -/
def expTail (x : Int) (k : Nat) : Nat → Int
  | 0 => one
  | n + 1 => one + mul x (expTail x (k + 1) n) / (k : Int)

/-- e^x. -/
def exp (x : Int) : Int :=
  let k := roundDiv x 837963523372001241319908
  let v := expTail (x - k * ln2) 1 28
  if 0 ≤ k then v * 2 ^ k.toNat else v / 2 ^ (-k).toNat

/-- z/k + z^3/(k+2) + ..., `n` terms, with z² given. -/
def oddTail (z z2 : Int) (k : Nat) : Nat → Int
  | 0 => 0
  | n + 1 => z / (k : Int) + oddTail (mul z z2) z2 (k + 2) n

/-- ln x for x > 0. -/
def ln (x : Int) : Int :=
  let e := Nat.log2 x.toNat
  let m := x * one / (2 ^ e : Nat)
  let z := div (m - one) (m + one)
  2 * oddTail z (mul z z) 1 28 + ((e : Int) - 80) * ln2

def log10 (x : Int) : Int := div (ln x) ln10

/-- 10^x. -/
def pow10 (x : Int) : Int := exp (mul x ln10)

/-- Q4.28 value of a non-negative fixed-point gain. -/
def toGain (v : Int) : Nat := (roundDiv v 4503599627370496).toNat

/-- e^(-1 / n) with n = a / b samples. -/
def decay (a b : Nat) : Int := exp (-(ofRat b a))

/-! ## Circular functions -/

/-- x - x³/(k(k+1)) ...: one alternating tail, `n` factors. -/
def sinTail (x2 : Int) (k : Nat) : Nat → Int
  | 0 => one
  | n + 1 => one - mul x2 (sinTail x2 (k + 2) n) / ((k * (k + 1) : Nat) : Int)

/-- sin x for 0 ≤ x ≤ π/2. -/
def sinRad (x : Int) : Int := mul x (sinTail (mul x x) 2 20)

/-- cos x for 0 ≤ x ≤ π/2. -/
def cosRad (x : Int) : Int := sinTail (mul x x) 1 20

/-- sin of an angle in milligon (R21). -/
def sinMgon (a : Int) : Int :=
  let r := a % 400000
  let q := r % 100000
  let x := q * pi / 200000
  if r < 100000 then sinRad x
  else if r < 200000 then cosRad x
  else if r < 300000 then -sinRad x
  else -cosRad x

def cosMgon (a : Int) : Int := sinMgon (a + 100000)

/-- cos x for 0 ≤ x ≤ π. -/
def cosHalf (x : Int) : Int := if 2 * x ≤ pi then cosRad x else -cosRad (pi - x)

/-- Odd alternating series t - t³/3 + ..., `n` terms. -/
def atanTail (t t2 : Int) (k : Nat) : Nat → Int
  | 0 => 0
  | n + 1 => t / (k : Int) - atanTail (mul t t2) t2 (k + 2) n

/-- tan(x/2) from tan x. -/
def halfTan (t : Int) : Int := div t (one + sqrt (one + mul t t))

/-- atan t for 0 ≤ t ≤ 1. -/
def atanUnit (t : Int) : Int :=
  let u := halfTan (halfTan t)
  4 * atanTail u (mul u u) 1 20

/-- The angle in [0, π/2] of (x, y) with x, y ≥ 0, not both zero. -/
def angleQ (y x : Int) : Int :=
  if y ≤ x then atanUnit (div y x) else pi / 2 - atanUnit (div x y)

/-- atan2(y, x) in (-π, π]; 0 at the origin. -/
def atan2 (y x : Int) : Int :=
  if x = 0 ∧ y = 0 then 0
  else
    let a := angleQ (max y (-y)) (max x (-x))
    let a := if x < 0 then pi - a else a
    if y < 0 then -a else a

/-- An angle in radians as milligon, still in fixed point. -/
def mgon (a : Int) : Int := a * 200000 * one / pi

end Sys2Proof.Machine.Fx
end

