-- ==== Sys2Proof/Machine/Filters.lean ====
section
/-!
DEFINITION. Sys2Proof/Machine/Filters.lean: the arithmetic of correction FIRs, biquad sections, feed
limiters and bus compressors on one block (R459, R460, R467-R472, R481-R489).
-/
namespace Sys2Proof.Machine

/-- A vector and whether any of its samples saturated. -/
abbrev Clipped := List Int × Bool

/-- Saturate a vector to Q1.31 (R17). -/
def clip32 (v : List Int) : Clipped := (v.map sat32, v.any fun x => sat32 x != x)

/-! ## Biquad sections (R481, R484) -/

/-- Key of a section in the biquad table: feed f, section i at 16f + i; bus b at 16384 + 8b + i. -/
def sectionKey (u i : Nat) : Nat :=
  if unitClass u = 5 then 16 * unitIndex u + i else 16384 + 8 * unitIndex u + i

/-- Sections of a feed or a bus. -/
def sectionCount (u : Nat) : Nat := if unitClass u = 5 then 16 else 8

/-- Tables of a program that runs beside the running one stand this far above (R400). -/
def shadow (both : Bool) : Nat := if both then 65536 else 0

/-- One product, rounded to Q9.31. -/
def biquadMul (c : List Int) (i : Nat) (v : Int) : Int := roundDiv (c.getD i 0 * v) 1073741824

/-- One sample of one section: output, states, and whether a sum saturated. -/
def biquadSample (c : List Int) (s1 s2 x : Int) : Int × Int × Int × Bool :=
  let y' := biquadMul c 0 x + s1
  let y := sat40 y'
  let t' := biquadMul c 1 x - biquadMul c 3 y
  let u' := sat40 t' + s2
  let w' := biquadMul c 2 x - biquadMul c 4 y
  (y, sat40 u', sat40 w', sat40 y' != y' || sat40 t' != t' || sat40 u' != u' || sat40 w' != w')

/-- One sample through a section and the old section that a FADE runs beside it. -/
def Biquad.sample (b : Biquad) (x : Int) : Biquad × Int × Bool :=
  let r := biquadSample b.coef b.s1 b.s2 x
  let b' := { b with s1 := r.2.1, s2 := r.2.2.1 }
  match b.old with
  | some (c, s1, s2, pos) =>
    let o := biquadSample c s1 s2 x
    let pos' := min 64 pos
    let y := roundDiv (o.1 * (64 - pos' : Nat) + r.1 * (pos' : Nat)) 64
    ({ b' with old := some (c, o.2.1, o.2.2.1, min 64 (pos + 1)) }, y, r.2.2.2 || o.2.2.2)
  | none => (b', r.1, r.2.2.2)

/-- A vector through a section. -/
def Biquad.run (b : Biquad) : List Int → Biquad × Clipped
  | [] => (b, [], false)
  | x :: xs =>
    let r := b.sample x
    let t := r.1.run xs
    (t.1, r.2.1 :: t.2.1, r.2.2 || t.2.2)

/-- A cascade over sections `i` on, `n` of them. -/
def CorPart.cascade (c : CorPart) (key : Nat) (x : List Int) : Nat → CorPart × Clipped
  | 0 => (c, x, false)
  | n + 1 =>
    let r := (tget Biquad.reset c.biquad key).run x
    let t := { c with biquad := tput Biquad.reset c.biquad key r.1 }.cascade (key + 1) r.2.1 n
    (t.1, t.2.1, r.2.2 || t.2.2)

/-! ## Feed limiter (R485-R487) -/

/-- Table 11-6's defaults, and a unit's settings. -/
def limiterDefaults : List Byte := zeros 2 ++ leI 2 (-128) ++ le 2 50 ++ zeros 2

def compressorDefaults : List Byte :=
  [0, 10] ++ leI 2 (-2560) ++ le 2 64 ++ le 2 768 ++ le 2 1000 ++ le 2 200 ++ zeros 4

def DynUnit.settings (d : DynUnit) (limiter : Bool) : List Byte :=
  if d.set = [] then (if limiter then limiterDefaults else compressorDefaults) else d.set

/-- LD in samples (R485). -/
def limitDelay (us rate : Nat) : Nat := (2 * us * rate + 1000000) / 2000000

/-- 1 - e for one sample against the threshold (R486). -/
def overshoot (thresh x : Int) : Int :=
  let m := max x (-x)
  if thresh < m then (m - thresh) * Fx.one / m else 0

/-- The greatest of (1 - e[m + k])(LD + 1 - k)/(LD + 1) over a window. -/
def attackOf (ld : Nat) (thresh : Int) (window : List Int) : Int :=
  window.zipIdx.foldl (fun a x =>
    max a (overshoot thresh x.1 * (ld + 1 - x.2 : Nat) / (ld + 1 : Nat))) 0

/-- Samples of a limiter: `d` is 1 - g of the sample before; outputs oldest first, with the deepest
1 - g. -/
def limitRun (ld : Nat) (thresh alpha : Int) : Nat → Int → List Int → Int × List Int × Int
  | 0, d, _ => (d, [], 0)
  | n + 1, d, v =>
    let d' := max (attackOf ld thresh (v.take (ld + 1))) (Fx.mul d alpha)
    let r := limitRun ld thresh alpha n d' (v.drop 1)
    (r.1, roundDiv (v.headD 0 * (Fx.one - d')) 1208925819614629174706176 :: r.2.1, max d' r.2.2)

/-- A level or a gain as a code (R18): 2,560 codes a decade; mute below the least code. -/
def codeOf (v : Int) : Int :=
  if v ≤ 0 then -32768
  else
    let c := Fx.round (2560 * Fx.log10 v)
    if c < -15360 then -32768 else c

/-- The largest magnitude of a block as a level code. -/
def peakCode (v : List Int) : Int :=
  codeOf (Fx.ofRat (v.foldl (fun a x => max a (max x (-x))) 0) 2147483648)

/-- A feed's limiter delay and limiter on one block. -/
def DynUnit.limit (u : DynUnit) (ld rate : Nat) (x : List Int) : DynUnit × Clipped :=
  let set := u.settings true
  let old := padTo ld u.delay
  let full := old.reverse ++ x
  let delay := (x.reverse ++ old).take ld
  let keep := if delay.all (· == 0) then [] else delay
  if bitOf (u8 set 0) 0 then
    let thresh : Int := gainLin (i16 set 2) * 8
    let alpha := Fx.decay (u16 set 4 * rate) 1000
    let r := limitRun ld thresh alpha x.length u.g full
    let y := clip32 r.2.1
    let now := codeOf (Fx.one - r.1)
    let deep := codeOf (Fx.one - r.2.2)
    ({ u with
        delay := keep, g := r.1, level := peakCode x, now := now
        deepest := min u.deepest deep, blocks := if deep < 0 then satAdd 0xFFFFFFFF u.blocks 1 else u.blocks },
      y)
  else ({ u with delay := keep, g := 0, level := peakCode x, now := 0 }, full.take x.length, false)

/-! ## Bus compressor (R488, R489) -/

/-- Gain reduction in dB (Table 11-5). -/
def reduction (lv th knee slope : Int) : Int :=
  if lv ≤ th - knee / 2 then 0
  else if lv < th + knee / 2 then
    let v := lv - th + knee / 2
    Fx.mul slope (Fx.div (Fx.mul v v) (2 * knee))
  else Fx.mul slope (lv - th)

/-- dB of a code, in fixed point. -/
def dbOf (c : Int) : Int := c * Fx.one / 128

/-- One sample of the compressor: mean square and smoothed gain after it, and its level in dB; none for
silence. -/
def compressSample (set : List Byte) (am aa ar : Int) (ms : Nat) (g x : Int) : Nat × Int × Option Int :=
  let sq : Int := x * x * 288230376151711744
  let ms' := ((ms : Int) + Fx.mul (sq - ms) (Fx.one - am)).toNat
  let v : Int := 2 * ms' / 1099511627776
  let lv := if v = 0 then none else some (10 * Fx.log10 v)
  let ratio := u16 set 4
  let slope := if ratio = 0 then Fx.one else Fx.one - Fx.ofRat 16 ratio
  let gr := match lv with
    | some l => reduction l (dbOf (i16 set 2)) (dbOf (i16 set 6)) slope
    | none => 0
  let a := if -gr < g then aa else ar
  (ms', -gr + Fx.mul (g + gr) a, lv)

/-- Samples of the compressor, `j` of `n` done; MAKEUP runs linearly from `m0` to `m1` in codes. -/
def compressRun (set : List Byte) (am aa ar : Int) (n : Nat) (m0 m1 : Int) :
    Nat → Nat → Int → List Int → Nat × Int × List Int × Option Int × Int
  | _, ms, g, [] => (ms, g, [], none, 0)
  | j, ms, g, x :: xs =>
    let r := compressSample set am aa ar ms g x
    let makeup := dbOf m0 + (dbOf m1 - dbOf m0) * (j + 1 : Nat) / (n : Nat)
    let lin := Fx.toGain (Fx.pow10 ((r.2.1 + makeup) / 20))
    let t := compressRun set am aa ar n m0 m1 (j + 1) r.1 r.2.1 xs
    (t.1, t.2.1, mulGain x lin :: t.2.2.1, if xs = [] then r.2.2 else t.2.2.2.1, min r.2.1 t.2.2.2.2)

/-- A bus's compressor on one block. -/
def DynUnit.compress (u : DynUnit) (rate : Nat) (x : List Int) : DynUnit × Clipped :=
  let set := u.settings false
  if bitOf (u8 set 0) 0 then
    let am := Fx.decay (u8 set 1 * rate) 1000
    let aa := Fx.decay (u16 set 8 * rate) 100000
    let ar := Fx.decay (u16 set 10 * rate) 1000
    let m1 := moveTowards u.makeup (i16 set 12) 768
    let r := compressRun set am aa ar x.length u.makeup m1 0 u.ms u.g x
    let db := fun v : Int => roundDiv (v * 128) 1208925819614629174706176
    let deep := db r.2.2.2.2
    let level := match r.2.2.2.1 with
      | some l => max (-32767) (db l)
      | none => -32768
    ({ u with
        ms := r.1, g := r.2.1, makeup := m1, level := level, now := db r.2.1
        deepest := min u.deepest deep, blocks := if deep < 0 then satAdd 0xFFFFFFFF u.blocks 1 else u.blocks },
      clip32 r.2.2.1)
  else ({ u with ms := 0, g := 0, makeup := 0, now := 0, level := -32768 }, x, false)

/-- A closed bus: biquads, Q1.31, compressor (R391); the unit that saturated, if one did. -/
def CorPart.busChain (c : CorPart) (rate b up : Nat) (x : List Int) : CorPart × List Int × Option Nat :=
  let r := c.cascade (up + sectionKey (0x6000 + b) 0) x 8
  let v := clip32 r.2.1
  let k := up + 1024 + b
  let d := (tget DynUnit.reset r.1.dyn k).compress rate v.1
  ({ r.1 with dyn := tput DynUnit.reset r.1.dyn k d.1 }, d.2.1,
    if r.2.2 || v.2 then some (0x6000 + b) else if d.2.2 then some (0x7000 + 1024 + b) else none)

/-! ## Correction FIR (R467-R472) -/

/-- Address of a slot (R461). -/
def slotAddr (k : Nat) : Nat := 0x10000000 + 196 * k

/-- A signed 24-bit mantissa scaled by its exponent, in fixed point (R467). -/
def binValue (m : List Byte) (o e : Nat) : Int :=
  let v := signed 24 (un 3 m o)
  if 70 ≤ e then v * 2 ^ (e - 70) else v / 2 ^ (70 - e)

/-- Bins of one partition: (re, im) of bin words 0 to P - 1. -/
def partitionBins (m : List Byte) (o p e : Nat) : List (Int × Int) :=
  (List.range p).map fun k => (binValue m (o + 6 * k) e, binValue m (o + 6 * k + 3) e)

/-- Sample `m` of the inverse DFT of a partition's 2P points. -/
def inverseDft (p : Nat) (bins : List (Int × Int)) (m : Nat) : Int :=
  let b0 := bins.headD (0, 0)
  let ends := b0.1 + (if m % 2 = 0 then b0.2 else -b0.2)
  let mid := bins.zipIdx.foldl (fun a x =>
    if x.2 = 0 then a
    else
      let t : Int := (200000 * x.2 * m / p : Nat)
      a + Fx.mul x.1.1 (Fx.cosMgon t) - Fx.mul x.1.2 (Fx.sinMgon t)) 0
  (ends + 2 * mid) / ((2 * p : Nat) : Int)

/-- A partition's coefficients; none where the stored bins are no spectrum of P coefficients and P zeros
(R468). -/
def partitionTaps (m : List Byte) (o p e : Nat) : Option (List Int) :=
  let bins := partitionBins m o p e
  let tol : Int := if 70 ≤ e then 2 ^ (e - 70) else 1
  let tail := (List.range p).map fun i => inverseDft p bins (p + i)
  if tail.all fun v => decide (-tol ≤ v) && decide (v ≤ tol) then
    some ((List.range p).map fun i => inverseDft p bins i)
  else none

/-- Exponents of slot `k`'s partitions. -/
def slotExps (mem : Tab Byte) (k p : Nat) : List Nat :=
  if p = 16 then [(readByte mem (slotAddr k + 192)).toNat, (readByte mem (slotAddr k + 193)).toNat]
  else [(readByte mem (slotAddr k + 192)).toNat]

/-- Coefficients of a slot; a partition whose exponent exceeds 135 is all zeros (R467). -/
def slotTaps (mem : Tab Byte) (k p : Nat) : Option (List Int) :=
  let m := readBytes mem (slotAddr k) 192
  (slotExps mem k p).zipIdx.foldl (fun acc x =>
    match acc, (if 135 < x.1 then some (List.replicate p 0) else partitionTaps m (96 * x.2) p x.1) with
    | some a, some t => some (a ++ t)
    | _, _ => none) (some [])

/-- The coefficients of a bank; none where some partition is undefined. -/
def bankTaps (mem : Tab Byte) (b : CorBank) : Option (List Int) :=
  (List.range b.nslot).foldl (fun acc i =>
    match acc, slotTaps mem (b.base + i) b.ps with
    | some a, some t => some (a ++ t)
    | _, _ => none) (some [])

/-- Slots of a bank whose exponents exceed 135: how many partitions, and the first slot. -/
def badSpectra (mem : Tab Byte) (b : CorBank) : Nat × Nat :=
  let l := (List.range b.nslot).flatMap fun i =>
    ((slotExps mem (b.base + i) b.ps).filter (135 < ·)).map fun _ => b.base + i
  (l.length, l.headD 0)

/-- Output of one bank for a block: `hist` is the input newest first, the block's own samples at its
front. The device's own error stays below -120 dB and is free (R468). -/
def bankOutput (mem : Tab Byte) (f lat : Nat) (b : CorBank) (hist : List Int) (n : Nat) : Clipped :=
  if b.nslot = 0 then ((List.range n).map fun j => hist.getD (n - 1 - j + lat) 0, false)
  else
    let free := fun j => Config.firSample f [b.base, b.nslot] (hist.drop (n - 1 - j + lat)) j
    match bankTaps mem b with
    | some h => clip32 ((List.range n).map fun j =>
        Fx.round ((List.zipWith (· * ·) h (hist.drop (n - 1 - j + lat))).foldl (· + ·) 0)
          + clampI (-2147) 2147 (free j))
    | none => ((List.range n).map fun j => sat32 (free j), false)

/-- The FIR of a feed on one block at render index `base`, with a crossfade where one runs (R472). -/
def CorFeed.fir (x : CorFeed) (mem : Tab Byte) (p lat f base : Nat) (v : List Int) : CorFeed × Clipped :=
  let hist := v.reverse ++ x.hist
  let n := v.length
  let new := bankOutput mem f lat x.running hist n
  let keep := hist.take (32 * max x.bank0.nslot x.bank1.nslot + p)
  let bad := (badSpectra mem x.running).1
  let y := match x.fadeAt with
    | some b =>
      let old := bankOutput mem f lat x.standby hist n
      ((List.range n).map fun j =>
        let i := min 512 (base + j - b)
        roundDiv (old.1.getD j 0 * (512 - i : Nat) + new.1.getD j 0 * (i : Nat)) 512, old.2 || new.2)
    | none => new
  let bad := bad + (if x.fadeAt.isSome then (badSpectra mem x.standby).1 else 0)
  ({ x with
      hist := if keep.all (· == 0) then [] else keep
      specErr := satAdd 0xFFFFFFFF x.specErr bad }, y)

/-- One block of a feed from its sum to its output (R459): the unit that saturated, if one did. -/
def State.feedChain (s : State) (c : CorPart) (f base : Nat) (x : List Int) :
    CorPart × List Int × Option Nat :=
  let p := profPart s.fab.active
  let cf := tget CorFeed.reset c.feed f
  let r := cf.fir s.mem p (p - s.blockLen) f base x
  let c := { c with feed := tput CorFeed.reset c.feed f r.1 }
  let b := c.cascade (sectionKey (0x5000 + f) 0) r.2.1 16
  let v := clip32 b.2.1
  let d := (tget DynUnit.reset b.1.dyn f).limit (limitDelay c.ldUs s.rate) s.rate v.1
  ({ b.1 with dyn := tput DynUnit.reset b.1.dyn f d.1 }, d.2.1,
    if r.2.2 || b.2.2 || v.2 then some (0x5000 + f) else if d.2.2 then some (0x7000 + f) else none)

/-- A feed that becomes dormant loses its filter state and keeps its settings (R460); so does one whose
work is abandoned, its history taking zeros (R343). -/
def CorPart.clearUnit (c : CorPart) (u : Nat) (history : Bool) : CorPart :=
  let keys := (List.range (sectionCount u)).map (sectionKey u)
  let wipe := fun (t : Tab Biquad) k => tmod Biquad.reset t k fun b => { b with s1 := 0, s2 := 0 }
  let dynKey := if unitClass u = 5 then unitIndex u else 1024 + unitIndex u
  { c with
    biquad := keys.foldl wipe c.biquad
    dyn := tmod DynUnit.reset c.dyn dynKey fun d => { d with delay := [], g := 0, ms := 0 }
    feed := if history && unitClass u == 5 then
        tmod CorFeed.reset c.feed (unitIndex u) fun f => { f with hist := [] }
      else c.feed }

end Sys2Proof.Machine
end

