-- ==== Sys2Proof/Machine/Program.lean ====
section
/-!
DEFINITION. Sys2Proof/Machine/Program.lean: the almanac program image (R377-R380) and the load checks of
Table 9-9.
-/
namespace Sys2Proof.Machine

/-! ## The image (Tables 9-2 to 9-6) -/

/-- One instruction (Table 9-6). `rest`: bits [57:56] and [22:17]. -/
structure Insn where
  op   : Nat
  src  : Nat
  gain : Nat
  safe : Bool
  neg  : Bool
  dst  : Nat
  rest : Nat
  deriving DecidableEq, Repr

def Insn.ofWord (w : Nat) : Insn :=
  { op := bitsOf w 63 58, src := bitsOf w 55 40, gain := bitsOf w 39 24, safe := bitOf w 23
    neg := bitOf w 16, dst := bitsOf w 15 0, rest := bitsOf w 57 56 * 64 + bitsOf w 22 17 }

/-- A program: its tables as read from an image. -/
structure Prog where
  id      : Nat
  outRank : Nat
  insn    : List Insn
  /-- FIRST and COUNT of each rank -/
  rank    : List (Nat × Nat)
  /-- BUS, SCALE, TAG -/
  bus     : List (Nat × Nat × Nat)
  /-- REG, OWNER, INIT -/
  gain    : List (Nat × Nat × Int)
  /-- DE, DTAG, LENGTH -/
  delay   : List (Nat × Nat × Nat)
  deriving DecidableEq, Repr

/-- `n` entries of a table. -/
def tableOf {α : Type} (n : Nat) (f : Nat → α) : List α := (List.range n).map f

/-- A header count. -/
def imgCount (b : List Byte) (table : Nat) : Nat :=
  match table with
  | 0 => u32 b 20
  | 1 => u8 b 24
  | 2 => u16 b 26
  | 3 => u16 b 28
  | _ => u16 b 30

def imgOff (b : List Byte) (table : Nat) : Nat := u32 b (32 + 4 * table)

/-- Bytes of an entry of each table. -/
def imgEntry (table : Nat) : Nat := if table = 1 then 4 else 8

def parseProg (b : List Byte) : Prog :=
  { id := u64 b 8, outRank := u8 b 25
    insn := tableOf (imgCount b 0) fun i => Insn.ofWord (u64 b (imgOff b 0 + 8 * i))
    rank := tableOf (imgCount b 1) fun i =>
      (u16 b (imgOff b 1 + 4 * i), u16 b (imgOff b 1 + 4 * i + 2))
    bus := tableOf (imgCount b 2) fun i =>
      (u8 b (imgOff b 2 + 8 * i), u8 b (imgOff b 2 + 8 * i + 1), u32 b (imgOff b 2 + 8 * i + 4))
    gain := tableOf (imgCount b 3) fun i =>
      (u16 b (imgOff b 3 + 8 * i), u16 b (imgOff b 3 + 8 * i + 2), i16 b (imgOff b 3 + 8 * i + 4))
    delay := tableOf (imgCount b 4) fun i =>
      (u8 b (imgOff b 4 + 8 * i), u16 b (imgOff b 4 + 8 * i + 2), u32 b (imgOff b 4 + 8 * i + 4)) }

/-- The instructions of rank `k` with their indices. -/
def Prog.rankInsns (g : Prog) (k : Nat) : List (Nat × Insn) :=
  match g.rank[k]? with
  | some (f, n) => tableOf n fun i => (f + i, g.insn.getD (f + i) (Insn.ofWord 0))
  | none => []

/-- Instructions of a section (R384): input, or output. -/
def Prog.section_ (g : Prog) (out : Bool) : List (Nat × Insn) :=
  ((List.range g.rank.length).filter fun k => decide (g.outRank ≤ k) == out).flatMap g.rankInsns

/-! ## Chains (R380) -/

/-- Opcodes (Table 9-7). -/
def Insn.isLoad (i : Insn) : Bool := i.op == 1
def Insn.isMac (i : Insn) : Bool := i.op == 2
def Insn.isStore (i : Insn) : Bool := i.op == 3
def Insn.isAccum (i : Insn) : Bool := i.op == 4
def Insn.isBus (i : Insn) : Bool := i.op == 5
def Insn.reads (i : Insn) : Bool := i.isLoad || i.isMac

/-- A chain: its instructions with their indices, NOPs left out. -/
abbrev Chain := List (Nat × Insn)

/-- Cut a rank's instructions into chains; the first list holds what stands before any LOAD or BUS. -/
def cutChains : List (Nat × Insn) → List Chain
  | [] => [[]]
  | x :: xs =>
    let r := cutChains xs
    if x.2.op = 0 then r
    else if x.2.isLoad || x.2.isBus then [] :: (x :: r.headD []) :: r.drop 1
    else (x :: r.headD []) :: r.drop 1

/-- The chains of a rank. -/
def chainsOf (l : List (Nat × Insn)) : List Chain := (cutChains l).filter (· != [])

/-- The first instruction of a chain that R379 and R380 do not admit: one that no LOAD begins, or one
whose SAFE differs from the chain's first (DEDUCED: log 82). -/
def chainBad (c : Chain) : Option Nat :=
  match c with
  | [] => none
  | (i, x) :: rest =>
    if x.isLoad then (rest.find? fun y => y.2.safe != x.safe).map (·.1)
    else if x.isBus then (rest.head?).map (·.1)
    else some i

/-! ## Checks (Table 9-9) -/

/-- A failed check: its code and the index of the offending instruction or entry. -/
abbrev ProgFail := Nat × Nat

/-- First index of a list that fails. -/
def firstBad {α : Type} (l : List α) (bad : α → Bool) : Option Nat := l.findIdx? bad

/-- Bytes `lo` to `hi - 1` are zero. -/
def zeroRun (b : List Byte) (lo hi : Nat) : Bool := (slice b lo (hi - lo)).all (· == 0)

/-- The tables stand in order, each within the image at a multiple of 8, zeros between (R377). -/
def tablesOk (b : List Byte) : Nat → Nat → Nat → Bool
  | 0, _, last => zeroRun b last (b.length - 4)
  | n + 1, table, last =>
    let c := imgCount b table
    let o := imgOff b table
    if c = 0 then o == 0 && tablesOk b n (table + 1) last
    else o % 8 == 0 && decide (last ≤ o) && decide (o + c * imgEntry table ≤ b.length - 4) &&
      zeroRun b last o && tablesOk b n (table + 1) (o + c * imgEntry table)

/-- Ranks cover the instructions without gap (R378): the first entry that does not. -/
def ranksBad (n at_ k : Nat) : List (Nat × Nat) → Option Nat
  | [] => if at_ = n then none else some (k - 1)
  | (f, c) :: rest => if f = at_ ∧ 0 < c then ranksBad n (at_ + c) (k + 1) rest else some k

/-- The first entry whose key does not rise above the key before it. -/
def notRising (k : Nat) : List Nat → Option Nat
  | a :: b :: rest => if a < b then notRising (k + 1) (b :: rest) else some (k + 1)
  | _ => none

/-- Check 4 (R377, R378). -/
def checkTables (b : List Byte) (g : Prog) : Option ProgFail :=
  let n := imgCount b 0
  if n = 0 ∨ 32768 < n ∨ imgCount b 1 = 0 ∨ 64 < imgCount b 1 ∨ imgCount b 1 < g.outRank ∨
      256 < imgCount b 2 ∨ 16384 < imgCount b 3 ∨ 256 < imgCount b 4 ∨ g.id = 0 ∨
      tablesOk b 5 0 64 = false then some (3, 0)
  else
    (ranksBad n 0 0 g.rank <|> notRising 0 (g.bus.map (·.1)) <|> notRising 0 (g.gain.map (·.1)) <|>
      notRising 0 (g.delay.map (·.1))).map fun (i : Nat) => (3, i)

/-- A field that the opcode does not use is set, or the opcode is reserved (R379). -/
def insnFieldsBad (i : Insn) : Bool :=
  i.rest != 0 || decide (5 < i.op) || (i.reads && decide (16383 < i.gain) && i.gain != 0xFFFF) ||
    (if i.op = 0 then i.src != 0 || i.gain != 0 || i.safe || i.neg || i.dst != 0
     else if i.reads then i.dst != 0
     else i.src != 0 || i.gain != 0 || i.neg)

/-- A table entry with a field outside Tables 9-3 to 9-5. -/
def badEntry (b : List Byte) (g : Prog) : Option Nat :=
  (firstBad (List.range g.bus.length) fun i =>
    let o := imgOff b 2 + 8 * i
    decide (2 < u8 b (o + 1)) || u16 b (o + 2) != 0 || u32 b (o + 4) == 0) <|>
  (firstBad (List.range g.gain.length) fun i =>
    let o := imgOff b 3 + 8 * i
    decide (16383 < u16 b o) || (u16 b (o + 2) != 0 && !validUnit (u16 b (o + 2))) ||
      !gainOk (i16 b (o + 4)) || u16 b (o + 6) != 0) <|>
  (firstBad (List.range g.delay.length) fun i =>
    let o := imgOff b 4 + 8 * i
    u8 b (o + 1) != 0 || decide (u32 b (o + 4) < 16) || decide (48000 < u32 b (o + 4)))

/-- Check 5 (R379, R380): the header's zeros and the fields of entries are judged here (DEDUCED). -/
def checkFields (b : List Byte) (g : Prog) : Option ProgFail :=
  let chains := (List.range g.rank.length).flatMap fun k => chainsOf (g.rankInsns k)
  ((if zeroAt b 52 12 then none else some 0) <|> badEntry b g <|> firstBad g.insn insnFieldsBad <|>
    chains.findSome? chainBad).map fun i => (4, i)

/-- An address is not valid for its opcode and section (Table 9-1, R384). -/
def insnPlaceBad (out : Bool) (i : Insn) : Bool :=
  (i.reads && !Node.readable out i.src) || (i.isStore && !Node.storable out i.dst) ||
    ((i.isAccum || i.isBus) && !Node.busIn i.dst) || (i.safe && !out)

/-- Check 6. -/
def checkPlaces (g : Prog) : Option ProgFail :=
  let bad := fun out : Bool => (g.section_ out).find? fun x => insnPlaceBad out x.2
  ((bad false <|> bad true).map (·.1)).map fun i => (5, i)

/-- A node that R383 forbids another chain of the rank to write. -/
def Insn.guarded (i : Insn) : Option Nat :=
  if i.isStore then (if Node.scratch i.dst || Node.objectIn i.dst then some i.dst else none)
  else if i.isBus then some (0x2000 + (i.dst - 0xA000))
  else none

/-- Two instructions that may not stand in different chains of one rank (R383): one writes a node
that the other reads or writes, or one adds to a bus that the other closes. -/
def Insn.clashes (x y : Insn) : Bool :=
  match x.guarded with
  | some n => y.guarded == some n || (y.reads && y.src == n) || (x.isBus && y.isAccum && y.dst == x.dst)
  | none => false

/-- The first instruction that clashes with one before it of another chain (DEDUCED: log 82). Each
instruction stands with its chain's number and its index. -/
def firstClash (before : List (Nat × Nat × Insn)) : List (Nat × Nat × Insn) → Option Nat
  | [] => none
  | y :: rest =>
    if before.any fun x => x.1 != y.1 && (x.2.2.clashes y.2.2 || y.2.2.clashes x.2.2) then some y.2.1
    else firstClash (y :: before) rest

/-- Rank of the instruction that writes a node, if one does. -/
def Prog.writerRank (g : Prog) (p : Insn → Bool) : Option Nat :=
  (List.range g.rank.length).find? fun k => (g.rankInsns k).any fun x => p x.2

/-- Instructions of rank `k` that break an ordering rule of R383. -/
def Prog.rankBad (g : Prog) (k : Nat) : Option Nat :=
  let clash := firstClash []
    ((chainsOf (g.rankInsns k)).zipIdx.flatMap fun c => c.1.map fun x => (c.2, x.1, x.2))
  let early := (g.rankInsns k).find? fun x =>
    if x.2.reads && Node.scratch x.2.src then
      match g.writerRank fun y => y.isStore && y.dst == x.2.src with
      | some w => decide (k ≤ w)
      | none => true
    else if x.2.reads && Node.busOut x.2.src then
      match g.writerRank fun y => y.isBus && y.dst == x.2.src + 0x8000 with
      | some w => decide (k ≤ w)
      | none => true
    else if x.2.isAccum then
      match g.writerRank fun y => y.isBus && y.dst == x.2.dst with
      | some w => decide (w < k)
      | none => true
    else false
  clash <|> early.map (·.1)

/-- First instruction whose key an earlier instruction has. -/
def firstRepeat (l : List (Nat × Nat)) (seen : List Nat) : Option Nat :=
  match l with
  | [] => none
  | (i, v) :: rest => if seen.contains v then some i else firstRepeat rest (v :: seen)

/-- Check 7 (R383). -/
def checkOrder (g : Prog) : Option ProgFail :=
  let all := g.insn.zipIdx.map fun x => (x.2, x.1)
  let stores := (all.filter fun x => x.2.isStore).map fun x => (x.1, x.2.dst)
  let closes := (all.filter fun x => x.2.isBus).map fun x => (x.1, x.2.dst - 0xA000)
  let gains := (all.filter fun x => x.2.reads && x.2.gain != 0xFFFF).map fun x => (x.1, x.2.gain)
  let delays := all.filterMap fun x =>
    if x.2.isStore && Node.delayIn x.2.dst then some (x.1, x.2.dst - 0xB000)
    else if x.2.reads && Node.delayOut x.2.src then some (x.1, x.2.src - 0x4000)
    else none
  let missing := fun (l : List (Nat × Nat)) (keys : List Nat) =>
    (l.find? fun x => !keys.contains x.2).map (·.1)
  ((List.range g.rank.length).findSome? g.rankBad <|>
    firstRepeat stores [] <|> firstRepeat closes [] <|> firstRepeat gains [] <|>
    missing closes (g.bus.map (·.1)) <|>
    (firstBad g.bus fun b => !(closes.map (·.2)).contains b.1) <|>
    missing gains (g.gain.map (·.1)) <|> missing delays (g.delay.map (·.1))).map fun i => (6, i)

/-! ## Lanes and capacity -/

/-- Check 8 (R407). -/
def checkLanes (s : State) (g : Prog) : Option ProgFail :=
  let lanes := (s.alm.lane.map fun x => x.2.entry).filter Lane.valid
  let regs := lanes.flatMap Lane.gains
  let sinks := lanes.map Lane.sink
  ((firstBad g.insn fun i =>
      (i.isStore && sinks.contains i.dst) || (i.reads && regs.contains i.gain)) <|>
    (firstBad g.gain fun x => regs.contains x.1)).map fun i => (7, i)

/-- Check 9: the profile's limits (Table 8-4, R27, R386). -/
def checkCapacity (p : Nat) (g : Prog) : Option ProgFail :=
  if profInstr p < g.insn.length then some (8, profInstr p)
  else if 262144 < g.delay.foldl (fun n d => n + d.2.2) 0 then some (8, 0)
  else
    (firstBad g.insn fun i =>
      (i.isStore && Node.objectIn i.dst && decide (profObjects p ≤ i.dst - 0x9000)) ||
        (i.reads && Node.feedOut i.src && decide (profFeeds p ≤ i.src - 0x1000)) ||
        (i.reads && Node.busOut i.src && decide (profBuses p ≤ i.src - 0x2000)) ||
        ((i.isAccum || i.isBus) && decide (profBuses p ≤ i.dst - 0xA000))).map fun i => (8, i)

/-- Status of a check code (Table 9-9). -/
def progStatus (code : Nat) : Nat :=
  if code = 0 then Status.noAccess else if code = 2 then Status.crc else if code = 8 then Status.budget else Status.badParam

/-- Checks 2 to 9 of Table 9-9 on the bytes of an image. -/
def programCheck (s : State) (b : List Byte) : Option ProgFail :=
  if b.length ≠ u32 b 16 ∨ 524288 < b.length ∨ b.length < 68 ∨ u32 b 0 ≠ 0x414D4C41 ∨ u16 b 4 ≠ 1 ∨
      u16 b 6 ≠ 64 then some (1, 0)
  else if u32 b (b.length - 4) ≠ crc32c (b.take (b.length - 4)) then some (2, 0)
  else
    let g := parseProg b
    checkTables b g <|> checkFields b g <|> checkPlaces g <|> checkOrder g <|> checkLanes s g <|>
      checkCapacity s.fab.active g

end Sys2Proof.Machine
end

