-- ==== Sys2Proof/Machine/ProgramRun.lean ====
section
/-!
DEFINITION. Sys2Proof/Machine/ProgramRun.lean: an almanac program at work on one block: stepped gains, bus
scaling, delay elements and the five instructions (R376, R381, R382, R387-R393).
-/
namespace Sys2Proof.Machine

def State.almMod (s : State) (f : AlmPart → AlmPart) : State := { s with alm := f s.alm }

/-! ## Stepped gains (R387-R389) -/

/-- TIMEOUT in samples (R388). -/
def State.stepTimeout (s : State) : Nat := s.alm.timeoutMs * s.rate / 1000

/-- Sample `x` after `prev` is a zero crossing (R387). -/
def zeroCrossing (prev x : Int) : Bool :=
  x == 0 || (decide (prev < 0) && decide (0 < x)) || (decide (0 < prev) && decide (x < 0))

/-- A step applies, and the next is armed at the sample after (R388). -/
def StepGain.apply (g : StepGain) : StepGain :=
  { g with cur := unstepCode (moveTowards (stepCode g.cur) (stepCode g.target) 768), armed := 0 }

/-- A step is pending. -/
def StepGain.pendingStep (g : StepGain) : Bool := stepCode g.cur != stepCode g.target

/-- One sample at a gain's point. -/
def StepGain.sample (timeout : Nat) (g : StepGain) (x : Int) : StepGain :=
  let r := if !g.pendingStep then { g with armed := 0 }
    else if zeroCrossing g.prev x || decide (timeout ≤ g.armed) then g.apply
    else { g with armed := g.armed + 1 }
  { r with prev := x }

/-- A vector at a gain's point: the linear gain of each sample. -/
def StepGain.run (timeout : Nat) (g : StepGain) : List Int → StepGain × List Nat
  | [] => (g, [])
  | x :: xs =>
    let r := g.sample timeout x
    let t := r.run timeout xs
    (t.1, gainLin r.cur :: t.2)

def State.gainReg (s : State) (k : Nat) : StepGain := tget StepGain.reset s.alm.gain k

def State.setGainReg (s : State) (k : Nat) (g : StepGain) : State :=
  s.almMod fun a => { a with gain := tput StepGain.reset a.gain k g }

/-- Write a target (R389); a register without a point takes it as its current code too (R390). -/
def StepGain.write (g : StepGain) (code : Int) (point : Bool) : StepGain :=
  let g := { g with target := code }
  if !point then { g with cur := code, armed := 0 }
  else if g.pendingStep then g
  else { g with armed := 0 }

/-! ## Bus scaling (R392, R393) -/

/-- Samples of the 50 ms activity hold. -/
def holdSamples (rate : Nat) : Nat := rate / 20

/-- The largest `m` with 10^(2m - 1) at or below n^e: log10 of n^(e/2) to nearest. -/
def roundLog (n e : Nat) : Nat := if n ≤ 1 then 0 else bsearch (fun m => decide (10 ^ (2 * m - 1) ≤ n ^ e)) 0 14

/-- Scaling code for N active terms (R393). -/
def scaleCode (mode n : Nat) : Int :=
  match mode with
  | 1 => -(roundLog n 5120 : Nat)
  | 2 => -(roundLog n 2560 : Nat)
  | _ => 0

/-- Terms of the chains of a program: SRC, GAIN and bus (R392). -/
def chainTerms (seen : List (Nat × Nat)) : Chain → List (Nat × Nat × Nat)
  | [] => []
  | (_, x) :: rest =>
    if x.reads then chainTerms (seen ++ [(x.src, x.gain)]) rest
    else if x.isAccum then (seen.map fun y => (y.1, y.2, x.dst - 0xA000)) ++ chainTerms seen rest
    else chainTerms seen rest

def Prog.terms (g : Prog) : List (Nat × Nat × Nat) :=
  ((List.range g.rank.length).flatMap fun k => chainsOf (g.rankInsns k)).flatMap (chainTerms [])

/-- Samples a term still counts as active after a block. -/
def holdAfter (rate left : Nat) (v : List Int) : Nat :=
  match v.reverse.findIdx? fun x => decide (2147484 ≤ max x (-x)) with
  | some i => holdSamples rate - i
  | none => left - v.length

def ProgState.hold (p : ProgState) (src bus : Nat) : Nat :=
  match p.terms.find? fun t => t.src == src && t.bus == bus with
  | some t => t.left
  | none => 0

/-- N of a bus (R392). -/
def State.activeTerms (s : State) (g : Prog) (p : ProgState) (b : Nat) : Nat :=
  (g.terms.filter fun t => t.2.2 == b && p.hold t.1 b != 0 &&
    (t.2.1 == 0xFFFF || stepCode (s.gainReg t.2.1).cur != -16128)).length

/-- The scaling code for a new N becomes the target of the bus's scaling gain (R393). -/
def BusState.aim (x : BusState) (n : Nat) : BusState :=
  let code := scaleCode x.mode n
  if code = x.scale.cur && code == x.scale.target then x
  else { x with scale := { x.scale with target := code } }

/-! ## One program on one block -/

/-- A program at work: its image, its state, where its bus filters stand, the nodes it can read and has
written, the accumulators, the gain vectors of registers already judged, and what saturated. -/
structure Run where
  prog  : Prog
  st    : ProgState
  up    : Nat
  nodes : Tab (List Int)
  acc   : List Int
  bus   : Tab (List Int)
  gains : Tab (List Nat)
  /-- registers whose steps another program judges (R400) -/
  other : List Nat
  sat   : Option Nat
  corSat : Option Nat

/-- Note a saturating instruction. -/
def Run.clipAt (r : Run) (i : Nat) (clipped : Bool) : Run :=
  if clipped && r.sat.isNone then { r with sat := some i } else r

/-- The linear gains of a register over a block; its steps are judged once (R387, R400). -/
def State.gainOver (s : State) (r : Run) (reg : Nat) (x : List Int) : State × Run × List Nat :=
  if reg = 0xFFFF then (s, r, x.map fun _ => 268435456)
  else
    match tget [] r.gains reg with
    | [] =>
      if r.other.contains reg then (s, r, x.map fun _ => gainLin (s.gainReg reg).cur)
      else
        let g := (s.gainReg reg).run s.stepTimeout x
        (s.setGainReg reg g.1, { r with gains := tput [] r.gains reg g.2 }, g.2)
    | v => (s, r, v)

/-- A node a program reads on the block at `base` (Table 9-1). -/
def Run.read (r : Run) (n base a : Nat) : List Int :=
  if Node.delayOut a then
    let d := tget DelayLine.reset r.st.delay (a - 0x4000)
    (List.range n).map fun j =>
      if base + j < d.length ∨ d.upTo ≤ base + j - d.length then 0
      else d.samples.getD (d.upTo - 1 - (base + j - d.length)) 0
  else padTo n (tget [] r.nodes a)

/-- A sample vector enters a delay element; positions never written are zeros (R376). -/
def DelayLine.push (d : DelayLine) (base : Nat) (v : List Int) : DelayLine :=
  let gap := min (d.length + 64) (base - d.upTo)
  { d with
    samples := (v.reverse ++ List.replicate gap 0 ++ d.samples).take (d.length + 64)
    upTo := base + v.length }

/-- LOAD and MAC: the product, negated where NEG is set (R381). -/
def State.product (s : State) (r : Run) (n base : Nat) (i : Insn) : State × Run × List Int :=
  let x := r.read n base i.src
  let g := s.gainOver r i.gain x
  let v := List.zipWith mulGain x g.2.2
  (g.1, g.2.1, if i.neg then v.map fun y => -y else v)

/-- STORE: the accumulator, saturated to Q1.31, to a node or a delay element. -/
def Run.store (r : Run) (base k dst : Nat) : Run :=
  let v := clip32 r.acc
  let r := r.clipAt k v.2
  if Node.delayIn dst then
    { r with
      st := { r.st with
        delay := tmod DelayLine.reset r.st.delay (dst - 0xB000) fun d => d.push base v.1 } }
  else { r with nodes := tput [] r.nodes dst v.1 }

/-- Whether adding two vectors leaves the 40-bit range. -/
def addClips (a b : List Int) : Bool := (List.zipWith (fun x y => sat40 (x + y) != x + y) a b).any id

/-- ACCUM: into a bus's accumulator. -/
def Run.accum (r : Run) (n k b : Nat) : Run :=
  let a := padTo n (tget [] r.bus b)
  let clipped := addClips a r.acc
  { r.clipAt k clipped with bus := tput [] r.bus b (vadd a r.acc) }

/-- BUS: scaling, saturation, biquads and compressor (R391). -/
def State.closeBus (s : State) (r : Run) (n k b : Nat) : State × Run :=
  let x := padTo n (tget [] r.bus b)
  let bs := tget BusState.reset r.st.bus b
  let g := bs.scale.run s.stepTimeout x
  let v := clip32 (List.zipWith mulGain x g.2)
  let c := s.cor.busChain s.rate b r.up v.1
  let r := r.clipAt k v.2
  (s.corMod fun _ => c.1,
    { r with
      st := { r.st with bus := tput BusState.reset r.st.bus b { bs with scale := g.1 } }
      bus := tput [] r.bus b [], nodes := tput [] r.nodes (0x2000 + b) c.2.1
      corSat := if r.corSat.isSome then r.corSat else c.2.2 })

/-- One instruction on the whole block (R382). -/
def State.runInsn (s : State) (r : Run) (n base k : Nat) (i : Insn) : State × Run :=
  if i.op = 1 then
    let t := s.product r n base i
    (t.1, { t.2.1 with acc := t.2.2 })
  else if i.op = 2 then
    let t := s.product r n base i
    let clipped := addClips r.acc t.2.2
    (t.1, { t.2.1.clipAt k clipped with acc := vadd r.acc t.2.2 })
  else if i.op = 3 then (s, r.store base k i.dst)
  else if i.op = 4 then (s, r.accum n k (i.dst - 0xA000))
  else if i.op = 5 then s.closeBus r n k (i.dst - 0xA000)
  else (s, r)

/-- Instructions in order. -/
def State.runInsns (s : State) (r : Run) (n base : Nat) : List (Nat × Insn) → State × Run
  | [] => (s, r)
  | (k, i) :: rest =>
    let t := s.runInsn r n base k i
    t.1.runInsns t.2 n base rest

/-- Term activity after a block, and N of every bus at the boundary that ends it (R392, R393). -/
def State.endOfBlock (s : State) (r : Run) (n base : Nat) : ProgState :=
  let keys := (r.prog.terms.map fun t => (t.1, t.2.2)).eraseDups
  let holds := keys.map fun t =>
    ({ src := t.1, bus := t.2, left := holdAfter s.rate (r.st.hold t.1 t.2) (r.read n base t.1) } : TermHold)
  let st := { r.st with terms := holds.filter fun t => t.left != 0 }
  { st with
    bus := r.prog.bus.foldl (fun t b =>
      tmod BusState.reset t b.1 fun x => x.aim (s.activeTerms r.prog st b.1)) st.bus }

/-! ## Starting a program (R400) -/

/-- The state with which a program starts beside or after an old one: buses of equal TAG, terms and delay
elements carry over, the rest starts from zero. -/
def State.startProg (s : State) (g old : Prog) (p : ProgState) : ProgState :=
  let carry := fun b : Nat × Nat × Nat => old.bus.any fun o => o.1 == b.1 && o.2.2 == b.2.2
  let st : ProgState :=
  { bus := []
    terms := p.terms.filter fun t => g.terms.any fun u => u.1 == t.src && u.2.2 == t.bus
    delay := g.delay.foldl (fun t d =>
      let was := old.delay.find? fun o => o.2.1 == d.2.1 && o.2.2 == d.2.2
      let line := match was with
        | some o => tget DelayLine.reset p.delay o.1
        | none => DelayLine.reset
      tput DelayLine.reset t d.1 { line with tag := d.2.1, length := d.2.2 }) [] }
  { st with
    bus := g.bus.foldl (fun t b =>
      let code := scaleCode b.2.1 (s.activeTerms g st b.1)
      let x := tget BusState.reset p.bus b.1
      let scale := if carry b then x.scale else { StepGain.reset with cur := code, target := code }
      tput BusState.reset t b.1 { mode := b.2.1, scale := scale, tag := b.2.2 }) [] }

/-- Buses of a program that start from zero state (R400). -/
def newBuses (g old : Prog) : List Nat :=
  (g.bus.filter fun b => !(old.bus.any fun o => o.1 == b.1 && o.2.2 == b.2.2)).map (·.1)

/-- Bus filters of the new program beside the old: copies, cleared for the buses that start from zero. -/
def CorPart.shadowBuses (c : CorPart) (g old : Prog) : CorPart :=
  let fresh := newBuses g old
  (g.bus.map (·.1)).foldl (fun c b =>
    let zero := fresh.contains b
    let bq := (List.range 8).foldl (fun t i =>
      let k := sectionKey (0x6000 + b) i
      let x := tget Biquad.reset t k
      tput Biquad.reset t (k + 65536)
        (if zero then { x with s1 := 0, s2 := 0, old := none } else x)) c.biquad
    let d := tget DynUnit.reset c.dyn (1024 + b)
    { c with
      biquad := bq
      dyn := tput DynUnit.reset c.dyn (1024 + b + 65536)
        (if zero then { d with ms := 0, g := 0 } else d) }) c

/-- The new program's bus filters take the old one's places. -/
def CorPart.dropShadow (c : CorPart) (buses : List Nat) : CorPart :=
  let low := fun k : Nat => decide (k < 65536)
  { c with
    biquad := (buses.flatMap fun b => (List.range 8).map fun i => sectionKey (0x6000 + b) i).foldl
      (fun t k => tput Biquad.reset t k (tget Biquad.reset c.biquad (k + 65536)))
      (c.biquad.filter fun x => low x.1)
    dyn := buses.foldl (fun t b =>
      tput DynUnit.reset t (1024 + b) (tget DynUnit.reset c.dyn (1024 + b + 65536)))
      (c.dyn.filter fun x => low x.1) }

end Sys2Proof.Machine
end

