-- ==== Sys2Proof/Machine/Almanac.lean ====
section
/-!
DEFINITION. Sys2Proof/Machine/Almanac.lean: program banks, loads and swaps, gain registers, sink fades, direct-lane
entries, players and test generators, and the opcodes of Table 9-13 (R384-R412).
-/
namespace Sys2Proof.Machine

/-! ## Banks -/

def State.almBank (s : State) (k : Nat) : AlmBank := tget AlmBank.reset s.alm.bank k

def State.setAlmBank (s : State) (k : Nat) (b : AlmBank) : State :=
  s.almMod fun a => { a with bank := tput AlmBank.reset a.bank k b }

/-- The bank that is not running (R397). -/
def State.idleBank (s : State) : Nat := 1 - s.alm.running

/-- The program of a LOADED bank. -/
def State.progOf (s : State) (k : Nat) : Option Prog :=
  if (s.almBank k).state = 2 then some (parseProg (s.almBank k).image) else none

/-- The program that runs; during a crossfade the new one. -/
def State.runningProg (s : State) : Option Prog := if s.alm.active then s.progOf s.alm.running else none

/-- Programs of both banks. -/
def State.bankProgs (s : State) : List Prog := [0, 1].filterMap s.progOf

/-- An empty program. -/
def Prog.empty : Prog :=
  { id := 0, outRank := 0, insn := [], rank := [], bus := [], gain := [], delay := [] }

/-- Gain registers that a program's instructions reference. -/
def Prog.points (g : Prog) : List Nat := (g.insn.filter Insn.reads).map (·.gain)

def State.lane (s : State) (k : Nat) : DirectLane := tget DirectLane.reset s.alm.lane k

def State.setLane (s : State) (k : Nat) (x : DirectLane) : State :=
  s.almMod fun a => { a with lane := tput DirectLane.reset a.lane k x }

/-- Entries of valid lanes, lane `but` left out. -/
def State.validLanes (s : State) (but : Nat) : List (List Byte) :=
  (s.alm.lane.filter fun x => x.1 != but && Lane.valid x.2.entry).map fun x => x.2.entry

/-- Registers of the enabled lanes. -/
def State.laneGains (s : State) : List Nat :=
  (s.alm.lane.filter fun x => x.2.enabled).flatMap fun x => Lane.gains x.2.entry

/-- An island-owned overlay is applied (R526). -/
def State.islandOverlay (s : State) : Bool := s.layers.any fun n => ovlIsland s n

/-- A register's point lies in a SAFE chain of the running program (R526). -/
def State.safeGain (s : State) (reg : Nat) : Bool :=
  match s.runningProg with
  | some g => g.insn.any fun i => i.reads && i.safe && i.gain == reg
  | none => false

/-- The sink is DELEGATED: it carries override content by way of the fabric (R523). -/
def State.sinkDelegated (s : State) (a : Nat) : Bool :=
  let x := tget SafSink.reset s.saf.sink a
  x.level != 0 && !x.direct

/-- An active overlay covers the running program (R567). -/
def State.programCovered (s : State) : Bool :=
  s.layers.any fun n => (ovlPatches s n).any fun p => p.key.kind == Rec.program

/-- A register has a point in the running program or in an enabled lane (R390). -/
def State.hasPoint (s : State) (reg : Nat) : Bool :=
  (match s.runningProg with
    | some g => g.points.contains reg
    | none => false) || s.laneGains.contains reg

/-! ## ALM_STATUS (Table 9-13) -/

def almStatusData (s : State) : List Byte :=
  let run := s.runningProg
  let idle := s.progOf s.idleBank
  let id := fun g : Option Prog => (g.map (·.id)).getD 0
  let n := fun g : Option Prog => (g.map (·.insn.length)).getD 0
  let sw := match s.alm.swap with
    | some x => if x.running then 2 else 1
    | none => 0
  let b := match s.alm.swap with
    | some x => x.at_
    | none => 0
  le 1 s.alm.running ++ le 1 (s.almBank s.idleBank).state ++ le 1 sw ++ zeros 1 ++ le 8 (id run)
    ++ le 8 (id idle) ++ le 4 (n run) ++ le 4 (n idle) ++ le 8 b
    ++ le 8 ((s.alm.lane.filter fun x => x.2.enabled).foldl (fun a x => a + 2 ^ x.1) 0)

def almStatusBody : Body := query fun _ s => almStatusData s

/-- ALM_STATUS (R402). -/
def execAlmStatus (q : Nat) (s : State) : Host.Outcome State Fault Refusal :=
  commandRow "ALM_STATUS" 0x0600 almStatusBody q s

/-! ## Loading (R397, R398) -/

/-- A source of images: the flexible reserve, the long store or the boot flash (R397, R435). -/
def imageSource (a n : Nat) : Bool :=
  let last := a + n - 1
  (inRange a 0x16C00000 0x17FFFFFF && inRange last 0x16C00000 0x17FFFFFF) || (isLong a && isLong last) ||
    (isFlash a && isFlash last)

/-- The sender's window grants the reading of an image (R95). -/
def Req.mayRead (r : Req) (s : State) (a n : Nat) : Bool := r.origin != .host || s.slotMay r.slot false a n

def almLoadBody : Body := fun _ r s =>
  let a := u64 r.params 0
  let n := u32 r.params 8
  if !zeroAt r.params 12 4 then .bad Status.badParam
  else if s.unmirrored r a n then .bad Status.pairRole
  else if (s.almBank s.idleBank).state = 1 ∨ s.alm.swap.isSome ∨ s.programCovered = true ∨
      (isLong a = true ∧ s.isReady Rdy.longStore = false) then .bad Status.busy
  else
    let k := s.idleBank
    .deferred ((s.setAlmBank k { state := 1, image := [] }).almMod fun t =>
      { t with load := some { req := r, addr := a, len := n, bank := k } })

/-- ALM_LOAD (R397, R398). -/
def execAlmLoad (q : Nat) (s : State) : Host.Outcome State Fault Refusal :=
  commandRow "ALM_LOAD" 0x0601 almLoadBody q s

/-- The image of a load is judged: LOADED, or EMPTY with the check code and index (Table 9-9). -/
def State.almLoaded (s : State) : State :=
  match s.alm.load with
  | none => s
  | some f =>
    let unread := !f.req.mayRead s f.addr f.len
    let whole := f.len ≠ 0 ∧ f.len ≤ 524288 ∧ imageSource f.addr f.len = true
    let img := s.sourceRead f.req f.addr (min f.len 524288)
    let s := s.almMod fun t => { t with load := none }
    match (if unread then some (0, 0) else if whole then programCheck s img else some (1, 0)) with
    | some (c, i) =>
      (s.setAlmBank f.bank AlmBank.reset).finish f.req (progStatus c) (le 1 c ++ zeros 3 ++ le 4 i)
    | none => (s.setAlmBank f.bank { state := 2, image := img }).finish f.req Status.ok (zeros 8)

/-- ALM_LOAD_DONE (R397). -/
def execAlmLoadDone (s : State) : Host.Outcome State Fault Refusal := goOn s s.almLoaded

/-! ## Swapping (R399-R401) -/

/-- What refuses a swap of the idle bank (R399). -/
def State.swapFail (s : State) (window id : Nat) : Option Nat :=
  match s.progOf s.idleBank with
  | none => some Status.notReady
  | some g =>
    firstFail
      [ (id != 0 && id != g.id, Status.badParam),
        (s.alm.swap.isSome, Status.busy),
        (window != 0 && (decide (window < 16) || decide (256 < window)), Status.badParam),
        ((checkCapacity s.fab.active g).isSome, Status.budget) ]

/-- A swap becomes pending at boundary `b`. -/
def State.scheduleSwap (s : State) (req : Option Req) (b window : Nat) : State :=
  s.almMod fun t => { t with
    swap := some { req := req, at_ := b, window := if window = 0 then t.defaultW else window, running := false } }

/-- ALM_SWAP. While an overlay covers the running program the idle bank holds the base program, and the command
leaves it the base (R567). -/
def almSwapBody : Body := fun atB r s =>
  let p := r.params
  if !zeroAt p 2 2 || (u16 p 0 != 0 && (decide (u16 p 0 < 16) || decide (256 < u16 p 0))) then
    .bad Status.badParam
  else if s.locked r || (r.origin != .entry && s.islandOverlay) then .bad Status.safetyLock
  else
    match s.swapFail (u16 p 0) (u64 p 4) with
    | some st => .bad st
    | none =>
      let n := s.numbered r
      if r.origin != .entry && s.programCovered then .both s []
      else .hold true (s.scheduleSwap (some n.1) (if atB then s.time.ri else n.2) (u16 p 0))

/-- ALM_SWAP (R399). -/
def execAlmSwap (q : Nat) (s : State) : Host.Outcome State Fault Refusal :=
  commandRow "ALM_SWAP" 0x0602 almSwapBody q s

/-- Final reply of a swap that a command asked for. -/
def State.answerSwap (s : State) (x : AlmSwap) (status : Nat) : State :=
  match x.req with
  | some r => s.finish r status []
  | none => s

/-- Registers of the new gain table that nothing running references take INIT (R400). -/
def State.initGains (s : State) (g : Prog) (used : List Nat) : State :=
  g.gain.foldl (fun s e =>
    if used.contains e.1 then s
    else s.setGainReg e.1 { StepGain.reset with cur := e.2.2, target := e.2.2 }) s

/-- The idle program becomes running at B: transfers of R400, and the crossfade begins (R401). -/
def State.startSwap (s : State) (x : AlmSwap) (g : Prog) : State :=
  let old := s.runningProg.getD Prog.empty
  let s := s.initGains g (old.points ++ s.laneGains)
  let st := s.startProg g old s.alm.prog
  let s := (newBuses g old).foldl (fun s b => s.bumpGen (0x6000 + b)) s
  let s := (s.corMod fun c => c.shadowBuses g old).almMod fun t => { t with
    progNew := st, running := 1 - t.running, active := true
    swap := some { x with running := true, req := none } }
  let s := (s.setReady Rdy.almanac true).answerSwap x Status.ok
  s.event 0x0601 Sev.notice 0x06 0x0000 (le 1 s.alm.running ++ zeros 3 ++ le 4 x.at_)

/-- A pending swap meets its boundary (R399, R400). -/
def State.swapProgram (s : State) : State :=
  match s.alm.swap with
  | none => s
  | some x =>
    if x.running || decide (s.time.ri < x.at_) then s
    else
      match s.progOf s.idleBank with
      | none => s
      | some g =>
        if (checkCapacity s.fab.active g).isSome then
          let s := (s.almMod fun t => { t with swap := none }).answerSwap x Status.budget
          s.event 0x0602 Sev.warning 0x06 0x0000 (le 2 Status.budget ++ zeros 2 ++ le 4 x.at_)
        else s.startSwap x g

/-- PROGRAM_SWAP (R399, R400). -/
def execProgramSwap (s : State) : Host.Outcome State Fault Refusal := goOn s s.swapProgram

/-- From B + W only the new program runs (R401). -/
def State.swapEnds (s : State) : State :=
  match s.alm.swap with
  | none => s
  | some x =>
    if !x.running || decide (s.time.ri < x.at_ + x.window) then s
    else
      let buses := ((s.runningProg.getD Prog.empty).bus).map (·.1)
      (s.corMod fun c => c.dropShadow buses).almMod fun t => { t with
        prog := t.progNew, progNew := ProgState.reset, swap := none }

/-- SWAP_CROSSFADE_END (R401). -/
def execSwapCrossfadeEnd (s : State) : Host.Outcome State Fault Refusal := goOn s s.swapEnds

/-! ## Gains (R387-R390, R411) -/

/-- Items of an ALM_SET_GAIN: register and code. -/
def gainItems (p : List Byte) : List (Nat × Int) :=
  (List.range (u16 p 0)).map fun i => (u16 p (4 + 4 * i), i16 p (6 + 4 * i))

/-- Owners of a register in either bank's gain table. -/
def State.gainOwners (s : State) (reg : Nat) : List Nat :=
  s.bankProgs.flatMap fun g => (g.gain.filter fun e => e.1 == reg).map fun e => e.2.1

/-- The sender may write a unit (R95). -/
def Req.mayWrite (r : Req) (s : State) (u : Nat) : Bool := r.origin != .host || s.domainGrants r.slot true u

/-- The record of a gain register: its target code. -/
def gainRecord (k : RecKey) (s : State) : List Byte := leI 2 (s.gainReg k.sub).target

/-- A register takes a target code; in a datum the code is current as well (R554). -/
def writeGain (k : RecKey) (r : List Byte) (s : State) : State :=
  if s.dat.building then s.setGainReg k.sub { s.gainReg k.sub with cur := i16 r 0, target := i16 r 0 }
  else s.setGainReg k.sub ((s.gainReg k.sub).write (i16 r 0) (s.hasPoint k.sub))

def almSetGainBody : Body := fun atB r s =>
  let items := gainItems r.params
  let n := u16 r.params 0
  if n = 0 ∨ 512 < n ∨ zeroAt r.params 2 2 = false then .bad Status.badParam
  else if r.params.length ≠ 4 + 4 * n then .bad Status.badLength
  else if items.any fun x => decide (16383 < x.1) || !gainOk x.2 then .bad Status.badParam
  else if items.any fun x => (s.gainOwners x.1).any fun u => u != 0 && !r.mayWrite s u then .deny
  else if s.locked r || (r.origin != .entry && s.islandOverlay && items.any fun x => s.safeGain x.1) then
    .bad Status.safetyLock
  else if atB then .done (s.putAll gainRecord writeGain r) []
  else .boundary

/-- ALM_SET_GAIN (R389, R390, R411). -/
def execAlmSetGain (q : Nat) (s : State) : Host.Outcome State Fault Refusal :=
  commandRow "ALM_SET_GAIN" 0x0603 almSetGainBody q s

def almGetGainBody : Body := fun _ r s =>
  let f := u16 r.params 0
  let n := u16 r.params 2
  if n = 0 ∨ 1000 < n ∨ 16384 < f + n then .bad Status.badParam
  else .done s ((List.range n).flatMap fun i =>
    leI 2 (s.gainReg (f + i)).cur ++ leI 2 (s.gainReg (f + i)).target)

/-- ALM_GET_GAIN (R385). -/
def execAlmGetGain (q : Nat) (s : State) : Host.Outcome State Fault Refusal :=
  commandRow "ALM_GET_GAIN" 0x0604 almGetGainBody q s

def almConfigCheck (r : Req) (_s : State) : Option Nat :=
  let p := r.params
  if u8 p 0 = 0 ∨ 40 < u8 p 0 ∨ u8 p 1 ≠ 0 ∨ u16 p 2 < 16 ∨ 256 < u16 p 2 then some Status.badParam else none

/-- What ALM_SET_CONFIG does once its check passes. -/
def almSetConfigEffect (r : Req) (s : State) : State := s.almMod fun t =>
  { t with timeoutMs := u8 r.params 0, defaultW := u16 r.params 2 }

def almSetConfigBody : Body := atBoundary almConfigCheck almSetConfigEffect

/-- ALM_SET_CONFIG (R388, R402). -/
def execAlmSetConfig (q : Nat) (s : State) : Host.Outcome State Fault Refusal :=
  commandRow "ALM_SET_CONFIG" 0x0605 almSetConfigBody q s

/-- GAIN_STEP: sample `x` arrives at a register's point; a pending step applies at a zero crossing
(R387, R388). BLOCK_TICK and DIRECT_TICK bring whole vectors to the same rule. -/
def execGainStep (reg : Nat) (x : Int) (s : State) : Host.Outcome State Fault Refusal :=
  ran (decide (reg < 16384)) "GAIN_STEP" s
    (s.setGainReg reg ((s.gainReg reg).sample s.stepTimeout x))

/-- GAIN_STEP_TIMEOUT: a step armed TIMEOUT samples ago applies without a zero crossing (R388). -/
def execGainStepTimeout (reg : Nat) (s : State) : Host.Outcome State Fault Refusal :=
  ran (decide (reg < 16384)) "GAIN_STEP_TIMEOUT" s
    (let g := s.gainReg reg
     if g.pendingStep && decide (s.stepTimeout ≤ g.armed) then s.setGainReg reg g.apply else s)

/-! ## Sink fades and bus scaling (R394, R396, R411) -/

def State.sinkFade (s : State) (a : Nat) : SinkFade := tget SinkFade.reset s.alm.sinkFade a

def sinkFadeRecord (k : RecKey) (s : State) : List Byte :=
  let x := s.sinkFade k.sub
  le 2 x.ramp ++ le 1 (b2n x.on)

def writeSinkFade (k : RecKey) (r : List Byte) (s : State) : State :=
  s.almMod fun t => { t with
    sinkFade := tmod SinkFade.reset t.sinkFade k.sub fun x =>
      { x with on := u8 r 2 == 1, ramp := u16 r 0 } }

/-- One sample of a sink fade (R396): towards 1 or 0 by 1/ramp. -/
def SinkFade.step (x : SinkFade) : SinkFade :=
  if x.on then
    if x.num = x.den then x
    else
      let n := x.num * x.ramp + x.den
      let d := x.den * x.ramp
      if d ≤ n then { x with num := 1, den := 1 }
      else { x with num := n / Nat.gcd n d, den := d / Nat.gcd n d }
  else if x.num = 0 then x
  else
    let n := x.num * x.ramp - x.den
    let d := x.den * x.ramp
    if n = 0 then { x with num := 0, den := 1 }
    else { x with num := n / Nat.gcd n d, den := d / Nat.gcd n d }

/-- A vector through a sink fade: the factor has moved at the first sample (R396; DEDUCED from R446). -/
def SinkFade.run (x : SinkFade) : List Int → SinkFade × List Int
  | [] => (x, [])
  | v :: vs =>
    let y := x.step
    let t := y.run vs
    (t.1, roundDiv (v * y.num) y.den :: t.2)

def fadeSinks (p : List Byte) : List Nat := (List.range (u16 p 0)).map fun i => u16 p (8 + 2 * i)

/-- Units whose write rights a sink needs (R411). -/
def State.sinkUnits (s : State) (a : Nat) : List Nat :=
  if Node.tdmOut a then [0x3000 + (a - 0x8800) / 32]
  else if Node.objectIn a then [0x4000 + (a - 0x9000)]
  else if Node.transmit a then
    (s.str.tx.filter fun x => Ent.valid x.2.entry && x.2.run.contains (a - 0x8000)).map fun x => 0x2000 + x.1
  else []

def almSinkFadeBody : Body := fun atB r s =>
  let p := r.params
  let n := u16 p 0
  let sinks := fadeSinks p
  if n = 0 ∨ 512 < n ∨ u16 p 2 < 16 ∨ 4096 < u16 p 2 ∨ 1 < u8 p 4 ∨ zeroAt p 5 3 = false then
    .bad Status.badParam
  else if p.length ≠ 8 + 2 * n then .bad Status.badLength
  else if sinks.any fun a => !Node.sink a then .bad Status.badParam
  else if sinks.any fun a => Node.objectIn a && !inCapacity s.fab.active (0x4000 + (a - 0x9000)) then
    .bad Status.budget
  else if sinks.any fun a => (s.sinkUnits a).any fun u => !r.mayWrite s u then .deny
  else if s.locked r || (r.origin != .entry && s.islandOverlay && sinks.any s.sinkDelegated) then
    .bad Status.safetyLock
  else if atB then .done (s.putAll sinkFadeRecord writeSinkFade r) []
  else .boundary

/-- ALM_SINK_FADE (R396, R411). -/
def execAlmSinkFade (q : Nat) (s : State) : Host.Outcome State Fault Refusal :=
  commandRow "ALM_SINK_FADE" 0x0606 almSinkFadeBody q s

def busScaleRecord (k : RecKey) (s : State) : List Byte :=
  le 1 (tget BusState.reset s.alm.prog.bus (unitIndex k.unit)).mode

/-- A bus's mode, in both programs while both run; N at this boundary is judged under it (R392, R394). -/
def writeBusScale (k : RecKey) (r : List Byte) (s : State) : State :=
  let b := unitIndex k.unit
  let both := (s.alm.swap.map (·.running)).getD false
  let old := if both then s.progOf s.idleBank else s.runningProg
  let set := fun (g : Option Prog) (p : ProgState) =>
    { p with
      bus := tmod BusState.reset p.bus b fun x =>
        { x with mode := u8 r 0 }.aim (s.activeTerms (g.getD Prog.empty) p b) }
  s.almMod fun t => { t with
    prog := set old t.prog
    progNew := if both then set s.runningProg t.progNew else t.progNew }

def busScaleCheck (r : Req) (s : State) : Option Nat :=
  firstFail
    [ (decide (2 < u8 r.params 0) || !zeroAt r.params 1 3, Status.badParam),
      (s.locked r, Status.safetyLock) ]

/-- What ALM_BUS_SCALE does once its check passes. -/
def almBusScaleEffect (r : Req) (s : State) : State := s.putAll busScaleRecord writeBusScale r

def almBusScaleBody : Body := atBoundary busScaleCheck almBusScaleEffect

/-- ALM_BUS_SCALE (R394). -/
def execAlmBusScale (q : Nat) (s : State) : Host.Outcome State Fault Refusal :=
  commandRow "ALM_BUS_SCALE" 0x0607 almBusScaleBody q s

/-! ## Direct lanes (R403-R407) -/

/-- A lane entry out of range, or in conflict (R404, R405, R407). -/
def State.laneBad (s : State) (k : Nat) (e : List Byte) : Bool :=
  let n := Lane.inputs e
  let others := s.validLanes k
  let progs := s.bankProgs
  decide (1 < u8 e 0) ||
    (Lane.valid e &&
      (n == 0 || decide (8 < n) || !zeroAt e 4 4 || !zeroAt e (8 + 4 * n) (32 - 4 * n) ||
        !Node.external (Lane.sink e) ||
        ((List.range n).any fun i =>
          !(Node.receive (Lane.src e i) || Node.tdmIn (Lane.src e i) || Node.aesIn (Lane.src e i)) ||
            decide (16383 < Lane.gain e i)) ||
        (firstRepeat ((Lane.gains e).map fun g => (0, g)) []).isSome ||
        ((Lane.gains e).any fun g => others.any (fun o => (Lane.gains o).contains g) ||
          progs.any fun p => p.points.contains g || p.gain.any fun t => t.1 == g) ||
        others.any (fun o => Lane.sink o == Lane.sink e) ||
        progs.any fun p => p.insn.any fun i => i.isStore && i.dst == Lane.sink e))

def directSetCheck (r : Req) (s : State) : Option Nat :=
  let k := u8 r.params 0
  firstFail
    [ (decide (63 < k) || !zeroAt r.params 1 3 || s.laneBad k (r.params.drop 4), Status.badParam),
      ((s.lane k).enabled, Status.busy) ]

/-- What ALM_DIRECT_SET does once its check passes. -/
def almDirectSetEffect (r : Req) (s : State) : State :=
  let k := u8 r.params 0
  s.setLane k { s.lane k with entry := r.params.drop 4, idle := 0 }

def almDirectSetBody : Body := atBoundary directSetCheck almDirectSetEffect

/-- ALM_DIRECT_SET (R404, R407). -/
def execAlmDirectSet (q : Nat) (s : State) : Host.Outcome State Fault Refusal :=
  commandRow "ALM_DIRECT_SET" 0x0608 almDirectSetBody q s

def laneRecord (k : RecKey) (s : State) : List Byte := le 1 (b2n (s.lane k.sub).enabled)

/-- A lane is enabled or disabled with a fade of 64 samples (R406). -/
def writeLane (k : RecKey) (r : List Byte) (s : State) : State :=
  let x := s.lane k.sub
  let on := u8 r 0 == 1
  if x.enabled == on then s
  else
    s.setLane k.sub { x with
      enabled := on
      fade := if x.fade.len = 0 then (if on then Fade.start 64 else Fade.out 64) else x.fade.turn 64 on }

def directEnableCheck (r : Req) (s : State) : Option Nat :=
  let p := r.params
  firstFail
    [ (decide (63 < u8 p 0) || decide (1 < u8 p 1) || !zeroAt p 2 2, Status.badParam),
      (s.locked r, Status.safetyLock) ]

/-- What ALM_DIRECT_ENABLE does once its check passes. -/
def almDirectEnableEffect (r : Req) (s : State) : State := s.putAll laneRecord writeLane r

def almDirectEnableBody : Body := atBoundary directEnableCheck almDirectEnableEffect

/-- ALM_DIRECT_ENABLE (R406). -/
def execAlmDirectEnable (q : Nat) (s : State) : Host.Outcome State Fault Refusal :=
  commandRow "ALM_DIRECT_ENABLE" 0x0609 almDirectEnableBody q s

/-- Once a disabled lane's fade-out has ended its sink has no writer (R406). -/
def State.laneFadeEnds (s : State) (k : Nat) : State :=
  let x := s.lane k
  if !x.enabled && x.fade.ended && x.fade.len != 0 then
    s.setLane k { x with fade := DirectLane.reset.fade, out := [] }
  else s

/-- DIRECT_LANE_FADE_END (R406). -/
def execDirectLaneFadeEnd (lane : Nat) (s : State) : Host.Outcome State Fault Refusal :=
  ran (decide (lane < 64)) "DIRECT_LANE_FADE_END" s (s.laneFadeEnds lane)

/-- Receive entry and stream channel of a receive channel node. -/
def State.rxOfChannel (s : State) (c : Nat) : Option (Nat × Nat) :=
  s.str.rx.findSome? fun x =>
    if Ent.valid x.2.entry && !Ent.island x.2.entry then (x.2.run.idxOf? c).map fun j => (x.1, j) else none

/-- A direct-lane source is synchronous to the render loop (R405). -/
def State.directUsable (s : State) (a : Nat) : Bool :=
  if Node.receive a then
    match s.rxOfChannel a with
    | some (i, _) => Ent.flag (s.rx i).entry 3 && (s.rx i).state == 2
    | none => false
  else if Node.tdmIn a then
    let x := s.ser_ ((a - 0x800) / 32)
    Tdm.enabled x.set && Tdm.mode x.set == 0
  else
    let x := s.ser_ (0x10 + (a - 0xA00) / 2)
    bitOf (u8 x.set 1) 0 && u8 x.set 2 == 0

/-- A lane's source becomes unusable, or usable again (R405). -/
def State.directChange (s : State) (k i : Nat) : State :=
  let x := s.lane k
  if !Lane.valid x.entry || decide (Lane.inputs x.entry ≤ i) then s
  else
    let a := Lane.src x.entry i
    let idle := !s.directUsable a
    if idle == bitOf x.idle i then s
    else
      let s := s.setLane k { x with idle := if idle then x.idle + 2 ^ i else x.idle - 2 ^ i }
      s.event 0x0604 Sev.warning 0x06 0x0000 (le 1 k ++ le 1 i ++ le 2 a ++ le 1 (b2n idle))

/-- DIRECT_SOURCE_CHANGE (R405). -/
def execDirectSourceChange (lane i : Nat) (s : State) : Host.Outcome State Fault Refusal :=
  ran (decide (lane < 64) && decide (i < 8)) "DIRECT_SOURCE_CHANGE" s (s.directChange lane i)

/-! ## Messages (R409, R528, R529) -/

/-- First byte of the main message library. -/
def libraryBase : Nat := 0x352000000

namespace Msg
def num (b : List Byte) : Nat := u16 b 4
def hz (b : List Byte) : Nat := if u8 b 6 = 1 then 48000 else 24000
def width (b : List Byte) : Nat := u8 b 7
def count (b : List Byte) : Nat := u32 b 8
def level (b : List Byte) : Int := i16 b 12
def gapMs (b : List Byte) : Nat := u16 b 14
def tag (b : List Byte) : List Byte := slice b 20 8
/-- Bytes of sample data, padding excluded. -/
def dataLen (b : List Byte) : Nat := count b * (width b / 8)
def samples (b : List Byte) : List Byte := slice b 32 (dataLen b)
/-- Sample `k` as Q1.31. -/
def sample (b : List Byte) (k : Nat) : Int :=
  let w := width b / 8
  fromWire (width b) (un w b (32 + k * w))
end Msg

/-- Place and length of a message of the main library; none where it is absent (R529). -/
def State.libraryEntry (s : State) (m : Nat) : Option (Nat × Nat) :=
  let e := readBytes s.mem (libraryBase + 16 * m) 12
  if u64 e 0 = 0 then none else some (libraryBase + u64 e 0, u32 e 8)

/-- A message's bytes from the main library. -/
def State.libraryMessage (s : State) (m : Nat) : List Byte :=
  match s.libraryEntry m with
  | some (a, n) => readBytes s.mem a n
  | none => []

/-- Samples of one repeat at the internal rate, and of the silence after it. -/
def msgLength (rate : Nat) (b : List Byte) : Nat := Msg.count b * rate / Msg.hz b
def msgGap (rate : Nat) (b : List Byte) : Nat := Msg.gapMs b * rate / 1000

/-- Sample `k` of a message at the internal rate (R409): at equal rates the message's own. -/
def msgSample (rate : Nat) (b : List Byte) (k : Nat) : Int :=
  let x := if Msg.hz b = rate then Msg.sample b k else sat32 (Config.playSample b rate k)
  sat32 (mulGain x (gainLin (Msg.level b)))

/-! ## Players and generators (R409, R410) -/

def State.player (s : State) (k : Nat) : AlmPlayer := tget AlmPlayer.reset s.alm.player k

def State.setPlayer (s : State) (k : Nat) (x : AlmPlayer) : State :=
  s.almMod fun t => { t with player := tput AlmPlayer.reset t.player k x }

/-- The position after the last sample of the last repeat; none: it repeats until stopped. -/
def playEnd (rate : Nat) (b : List Byte) (repeats : Nat) : Option Nat :=
  let one := msgLength rate b + msgGap rate b
  if repeats = 0 then none else some (repeats * one - msgGap rate b)

/-- What a player presents at a position. -/
def playAt (rate : Nat) (b : List Byte) (repeats pos : Nat) : Int :=
  let one := msgLength rate b + msgGap rate b
  let done := match playEnd rate b repeats with
    | some e => decide (e ≤ pos)
    | none => false
  if done || one == 0 || decide (msgLength rate b ≤ pos % one) then 0 else msgSample rate b (pos % one)

/-- A player's block, and the player after it. -/
def State.playBlock (s : State) (x : AlmPlayer) (n : Nat) : AlmPlayer × List Int :=
  match x.msg with
  | none => (x, List.replicate n 0)
  | some m =>
    let b := s.libraryMessage m
    let v := (List.range n).map fun j => playAt s.rate b x.repeats (x.pos + j)
    let f := x.fade.apply v
    if x.stopping && f.2.ended then (AlmPlayer.reset, f.1)
    else ({ x with pos := x.pos + n, fade := f.2 }, f.1)

def almPlayCheck (r : Req) (s : State) : Option Nat :=
  let p := r.params
  firstFail
    [ (decide (63 < u8 p 0) || u8 p 1 != 0 || !zeroAt p 6 2 || decide (4095 < u16 p 2), Status.badParam),
      (!s.isReady Rdy.longStore, Status.notReady),
      ((s.libraryEntry (u16 p 2)).isNone, Status.badParam) ]

/-- What ALM_PLAY does once its check passes. -/
def almPlayEffect (r : Req) (s : State) : State :=
  s.setPlayer (u8 r.params 0)
    { AlmPlayer.reset with msg := some (u16 r.params 2), repeats := u16 r.params 4 }

def almPlayBody : Body := atBoundary almPlayCheck almPlayEffect

/-- ALM_PLAY (R409). -/
def execAlmPlay (q : Nat) (s : State) : Host.Outcome State Fault Refusal :=
  commandRow "ALM_PLAY" 0x060A almPlayBody q s

def playStopCheck (r : Req) (_s : State) : Option Nat :=
  if 63 < u8 r.params 0 ∨ zeroAt r.params 1 3 = false then some Status.badParam else none

/-- What ALM_PLAY_STOP does once its check passes. -/
def almPlayStopEffect (r : Req) (s : State) : State :=
  let x := s.player (u8 r.params 0)
  if x.msg.isNone || x.stopping then s
  else s.setPlayer (u8 r.params 0) { x with fade := Fade.out 64, stopping := true }

def almPlayStopBody : Body := atBoundary playStopCheck almPlayStopEffect

/-- ALM_PLAY_STOP (R409). -/
def execAlmPlayStop (q : Nat) (s : State) : Host.Outcome State Fault Refusal :=
  commandRow "ALM_PLAY_STOP" 0x060B almPlayStopBody q s

/-- A player has played its last repeat (R409). -/
def State.playerDone (s : State) (k : Nat) : State :=
  let x := s.player k
  match x.msg with
  | none => s
  | some m =>
    match playEnd s.rate (s.libraryMessage m) x.repeats with
    | some e =>
      if e ≤ x.pos then
        (s.setPlayer k AlmPlayer.reset).event 0x0605 Sev.info 0x06 0x0000 (le 1 k ++ zeros 1 ++ le 2 m)
      else s
    | none => s

/-- PLAYER_DONE (R409). -/
def execPlayerDone (pl : Nat) (s : State) : Host.Outcome State Fault Refusal :=
  ran (decide (pl < 64)) "PLAYER_DONE" s (s.playerDone pl)

def State.testGen (s : State) (k : Nat) : TestGen := tget TestGen.reset s.alm.gen k

/-- A generator's block: off, or its mode's samples, whose phase and shape R410 leaves open. -/
def TestGen.block (g : TestGen) (rate n : Nat) : TestGen × List Int :=
  if g.mode = 0 then (g, List.replicate n 0)
  else
    ({ g with pos := g.pos + n },
      (List.range n).map fun j => sat32 (Config.genSample g.mode g.level g.mhz rate g.lfsr (g.pos + j)))

def testgenCheck (r : Req) (s : State) : Option Nat :=
  let p := r.params
  if 15 < u8 p 0 ∨ 3 < u8 p 1 ∨ gainOk (i16 p 2) = false ∨
      (u8 p 1 = 1 ∧ (u32 p 4 < 1000 ∨ 450 * s.rate < u32 p 4)) then some Status.badParam
  else none

/-- What ALM_TESTGEN does once its check passes. -/
def almTestgenEffect (r : Req) (s : State) : State :=
  let k := u8 r.params 0
  s.almMod fun t => { t with
    gen := tmod TestGen.reset t.gen k fun g =>
      { g with mode := u8 r.params 1, level := i16 r.params 2, mhz := u32 r.params 4 } }

def almTestgenBody : Body := atBoundary testgenCheck almTestgenEffect

/-- ALM_TESTGEN (R410). -/
def execAlmTestgen (q : Nat) (s : State) : Host.Outcome State Fault Refusal :=
  commandRow "ALM_TESTGEN" 0x060C almTestgenBody q s

/-- At a datum load every generator is off and its noise register is seeded (R410). -/
def seedGens : Tab TestGen :=
  (List.range 16).foldl (fun t k => tput TestGen.reset t k { TestGen.reset with lfsr := k + 1 }) []

end Sys2Proof.Machine
end

