-- ==== Sys2Proof/Machine/Otp.lean ====
section
/-!
DEFINITION. Sys2Proof/Machine/Otp.lean: one-time-programmable memory: generations, the active base record and
the opcodes OTP_READ and OTP_PROGRAM (R572-R575, Tables 13-10 to 13-12).
-/
namespace Sys2Proof.Machine

def State.gen (s : State) (g : Nat) : OtpGen := tget OtpGen.reset s.otp.gens g

def State.setGen (s : State) (g : Nat) (x : OtpGen) : State :=
  { s with otp := { s.otp with gens := tput OtpGen.reset s.otp.gens g x } }

/-- The base record in force (R573). -/
def State.baseRecord (s : State) : List Byte := (s.gen s.otp.active).record

/-! Fields of a base record (Table 13-11). -/
namespace BaseRec
def bootPolicy (b : List Byte) : Nat := u8 b 7
def privSlot (b : List Byte) : Nat := u8 b 8
def defProfile (b : List Byte) : Nat := u8 b 9
def safetyLock (b : List Byte) : Bool := bitOf (u8 b 10) 0
def keyCount (b : List Byte) : Nat := u8 b 11
def minFw (b : List Byte) : Nat := u32 b 12
def key (b : List Byte) (i : Nat) : List Byte := slice b (16 + 48 * i) 48
end BaseRec

/-- The safety lock is set and the command comes from a host slot (R542-R544, R563). -/
def State.safetyLocked (s : State) (r : Req) : Bool := r.origin == .host && BaseRec.safetyLock s.baseRecord

/-- The highest-numbered VALID generation. -/
def OtpPart.newest (x : OtpPart) : Nat :=
  ((List.range 8).filter fun g => (tget OtpGen.reset x.gens g).state == .valid).getLast?.getD 0

def OtpState.code : OtpState → Nat
  | .blank => 0 | .valid => 1 | .spent => 2

/-- OTP_READ (Table 13-13). -/
def otpReadData (_ : Req) (s : State) : List Byte :=
  s.otp.ident ++ le 1 s.otp.active ++ ((List.range 8).flatMap fun g => le 1 (s.gen g).state.code)
    ++ zeros 3 ++ s.baseRecord

def otpReadBody : Body := query otpReadData

/-- OTP_READ (R573). -/
def execOtpRead (q : Nat) (s : State) : Host.Outcome State Fault Refusal :=
  commandRow "OTP_READ" 0x0C00 otpReadBody q s

/-- A base record as a host gives it: GEN and BCRC are the device's to fill (Table 13-11). -/
def baseRecordOk (b : List Byte) : Bool :=
  u32 b 0 == 0x44524342 && u16 b 4 == 1 && decide (u8 b 7 < 32) && decide (u8 b 8 < 8) &&
    decide (u8 b 9 < 5) && decide (u8 b 10 < 2) && (u8 b 11 == 1 || u8 b 11 == 2) &&
    (u8 b 11 == 2 || zeroAt b 64 48) && zeroAt b 112 396

/-- The record as it is written: GEN and BCRC filled. -/
def filledRecord (g : Nat) (b : List Byte) : List Byte :=
  let body := b.take 6 ++ le 1 g ++ slice b 7 501
  body ++ le 4 (crc32c body)

/-- The lowest-numbered BLANK generation. -/
def OtpPart.blank (x : OtpPart) : Option Nat :=
  (List.range 8).find? fun g => (tget OtpGen.reset x.gens g).state == .blank

/-- TJ_MAX is kept in quarters of a degree: 85 degrees is 340. -/
def otpProgramBody : Body := fun _ r s =>
  let b := slice r.params 4 512
  if s.otp.job.isSome then .bad Status.busy
  else
    match s.otp.blank with
    | none => .bad Status.otpSpent
    | some g =>
      if !baseRecordOk b || u32 r.params 0 != u32 s.otp.ident 0 then .bad Status.badParam
      else if 340 < s.fab.tjMax then .bad Status.notReady
      else .deferred { s with otp := { s.otp with job := some (g, filledRecord g b, r) } }

/-- OTP_PROGRAM (R574). -/
def execOtpProgram (q : Nat) (s : State) : Host.Outcome State Fault Refusal :=
  commandRow "OTP_PROGRAM" 0x0C01 otpProgramBody q s

/-- Programming ends (Table 13-12): at step 0 all is well, and the generation is VALID; else the
read-back of step 3 or 4 failed, and it is SPENT. -/
def State.otpEnds (s : State) (step : Nat) : State :=
  match s.otp.job with
  | none => s
  | some (g, b, r) =>
    let s := { s with otp := { s.otp with job := none } }
    if step = 0 then
      ((s.setGen g { state := .valid, record := b }).event 0x0C01 Sev.notice 0x0C 0x0000 (le 1 g)).finish r
        Status.ok (le 1 g ++ zeros 3)
    else
      ((s.setGen g { state := .spent, record := b }).event 0x0C02 Sev.error 0x0C 0x0000
        (le 1 g ++ le 1 step)).finish r Status.internal (le 1 g ++ zeros 3)

/-- OTP_PROGRAM_DONE (R574): `step` is 0, or the step whose read-back failed. -/
def execOtpProgramDone (step : Nat) (s : State) : Host.Outcome State Fault Refusal :=
  ran (step == 0 || step == 3 || step == 4) "OTP_PROGRAM_DONE" s (s.otpEnds step)

/-- A reset or power loss during programming leaves the generation BLANK if no bit had been written, else
SPENT; which it was is open (R575). -/
def State.otpCut (s : State) : State :=
  match s.otp.job with
  | none => s
  | some (g, b, _) =>
    let d := s.draw 1
    let s := { d.2 with otp := { d.2.otp with job := none } }
    if d.1 = 0 then s else s.setGen g { state := .spent, record := b }

end Sys2Proof.Machine
end

