-- ==== Sys2Proof/Machine/Geometry.lean ====
section
/-!
DEFINITION. Sys2Proof/Machine/Geometry.lean: positions, directions and the three rendering laws: the targets
that the survey engine computes for one object (R413-R415, R426-R439).
-/
namespace Sys2Proof.Machine

/-! ## Records (Tables 10-1, 10-2, 10-5) -/

namespace Ob
def enabled (r : List Byte) : Bool := bitOf (u8 r 0) 0
def directional (r : List Byte) : Bool := bitOf (u8 r 0) 1
def atten (r : List Byte) : Bool := bitOf (u8 r 0) 2
def law (r : List Byte) : Nat := u8 r 1
def source (r : List Byte) : Nat := u16 r 2
def spread (r : List Byte) : Nat := u32 r 16
def gain (r : List Byte) : Int := i16 r 20
def maxTaps (r : List Byte) : Nat := u16 r 22
def lt (r : List Byte) : Nat := u8 r 24
def zone (r : List Byte) : Nat := u8 r 25
def glide (r : List Byte) : Nat := u16 r 26
def ref (r : List Byte) : Nat := u32 r 28
def near (r : List Byte) : Nat := u32 r 32
def dref (r : List Byte) : Nat := u32 r 36
def radius (r : List Byte) : Nat := u32 r 40
end Ob

namespace Fd
def enabled (r : List Byte) : Bool := bitOf (u8 r 0) 0
def type (r : List Byte) : Nat := bitsOf (u8 r 0) 2 1
def trimGain (r : List Byte) : Int := i16 r 2
def pos (r : List Byte) : Point := { e := i32 r 4, n := i32 r 8, h := i32 r 12 }
def aimAz (r : List Byte) : Int := i32 r 16
def aimEl (r : List Byte) : Int := i32 r 20
def cover (r : List Byte) : Nat := u32 r 24
def coverV (r : List Byte) : Nat := u32 r 28
def trimDelay (r : List Byte) : Nat := u32 r 32
end Fd

/-- Three position fields as a point (R20). -/
def gridPoint (b : List Byte) (o : Nat) : Point := { e := i32 b o, n := i32 b (o + 4), h := i32 b (o + 8) }

/-! ## Directions (R414, R415) -/

/-- A vector in fixed point: East, North, up. -/
structure Vec where
  x : Int
  y : Int
  z : Int

namespace Vec
def dot (a b : Vec) : Int := Fx.mul a.x b.x + Fx.mul a.y b.y + Fx.mul a.z b.z
def cross (a b : Vec) : Vec :=
  { x := Fx.mul a.y b.z - Fx.mul a.z b.y, y := Fx.mul a.z b.x - Fx.mul a.x b.z
    z := Fx.mul a.x b.y - Fx.mul a.y b.x }
def norm (a : Vec) : Int := Fx.sqrt (a.dot a)
def add (a b : Vec) : Vec := { x := a.x + b.x, y := a.y + b.y, z := a.z + b.z }
def scale (k : Int) (a : Vec) : Vec := { x := Fx.mul k a.x, y := Fx.mul k a.y, z := Fx.mul k a.z }
/-- The unit vector of an azimuth and an elevation in milligon. -/
def ofAngles (az el : Int) : Vec :=
  { x := Fx.mul (Fx.cosMgon el) (Fx.sinMgon az), y := Fx.mul (Fx.cosMgon el) (Fx.cosMgon az), z := Fx.sinMgon el }
/-- From one point to another, in mm. -/
def between (p q : Point) : Vec :=
  { x := Fx.ofInt (q.e - p.e), y := Fx.ofInt (q.n - p.n), z := Fx.ofInt (q.h - p.h) }
/-- Azimuth and elevation in milligon, in fixed point. -/
def azimuth (a : Vec) : Int := Fx.mgon (Fx.atan2 a.x a.y)
def elevation (a : Vec) : Int := Fx.mgon (Fx.atan2 a.z (Fx.sqrt (Fx.mul a.x a.x + Fx.mul a.y a.y)))
end Vec

/-- A position in direction form on the site grid (R414). -/
def gridOf (rp : Point) (az el : Int) (d : Nat) : Point :=
  let v := (Vec.ofAngles az el).scale (Fx.ofInt d)
  let one := fun (o x : Int) => clampI (-2000000) 2000000 (Fx.round (Fx.ofInt o + x))
  { e := one rp.e v.x, n := one rp.n v.y, h := one rp.h v.z }

/-- Three position fields as a grid point (R414, R426). -/
def positionOf (directional : Bool) (rp : Point) (b : List Byte) (o : Nat) : Point :=
  if directional then gridOf rp (i32 b o) (i32 b (o + 4)) (u32 b (o + 8)) else gridPoint b o

/-- Position fields in range (R20, R21, R414). -/
def positionOk (directional : Bool) (b : List Byte) (o : Nat) : Bool :=
  if directional then elevOk (i32 b (o + 4)) && decide (u32 b (o + 8) ≤ 2000000)
  else coordOk (i32 b o) && coordOk (i32 b (o + 4)) && coordOk (i32 b (o + 8))

/-- Direction of a grid point from RP, in milligon (R415). -/
def directionFrom (rp p : Point) : Int × Int :=
  let v := Vec.between rp p
  (Fx.round v.azimuth % 400000, Fx.round v.elevation)

/-! ## Motion (R427) -/

/-- The position of a motion at a render index. -/
def Motion.at_ (m : Motion) (x : Nat) : Point :=
  if m.t1 ≤ m.t0 ∨ m.t1 ≤ x then m.p1
  else
    let one := fun a b : Int => a + roundDiv ((b - a) * (x - m.t0 : Nat)) (m.t1 - m.t0)
    { e := one m.p0.e m.p1.e, n := one m.p0.n m.p1.n, h := one m.p0.h m.p1.h }

/-- Where an object stands at a render index. -/
def SndObj.at_ (o : SndObj) (x : Nat) : Point :=
  match o.motion with
  | some m => m.at_ x
  | none => o.pos

/-! ## Targets -/

/-- A tap target: feed, delay in 1/256 samples, gain code, linear gain by which targets are ranked, and
whether the code was clamped. -/
structure Target where
  feed  : Nat
  delay : Nat
  code  : Int
  lin   : Int
  clamped : Bool

/-- The greater linear gain first, then the lower feed. -/
def Target.before (a b : Target) : Bool := decide (b.lin < a.lin) || (a.lin == b.lin && decide (a.feed < b.feed))

def insertTarget (t : Target) : List Target → List Target
  | [] => [t]
  | x :: xs => if t.before x then t :: x :: xs else x :: insertTarget t xs

/-- Targets by descending gain. -/
def sortTargets (l : List Target) : List Target := l.foldl (fun acc t => insertTarget t acc) []

/-- The target of a linear gain in fixed point (R431). -/
def targetOf (feed delay : Nat) (g : Int) : Target :=
  let c := codeOf g
  { feed := feed, delay := delay, code := min 3072 c, lin := g, clamped := decide (3072 < c) }

/-- The linear value of a gain code in fixed point. -/
def linOf (code : Int) : Int := (gainLin code : Int) * 4503599627370496

/-- The feed carries taps: it is enabled and within capacity. -/
def State.feedLive (s : State) (f : Nat) : Bool :=
  Fd.enabled (s.feedRec f) && inCapacity s.fab.active (0x5000 + f)

/-! ### Wave-front (R430-R433) -/

/-- W(θ; C), angle and coverage in milligon in fixed point. -/
def windowOf (theta c : Int) : Int :=
  let h := c / 2
  if theta ≤ h then Fx.one
  else if c ≤ theta then 0
  else (Fx.one + Fx.cosHalf (min Fx.pi (Fx.mul Fx.pi (Fx.div (theta - h) h)))) / 2

/-- Coverage widened by the object's spread. -/
def coverage (cover spread : Nat) : Int := min (Fx.ofInt 200000) (Fx.ofInt cover + Fx.ofInt spread / 2)

/-- Absolute difference of two azimuths the shorter way round. -/
def azGap (a b : Int) : Int :=
  let d := (a - b) % Fx.ofInt 400000
  min d (Fx.ofInt 400000 - d)

/-- The window of a feed for an object at `p` (R432). -/
def feedWindow (r : List Byte) (spread : Nat) (p : Point) : Int :=
  let q := Fd.pos r
  if q = p ∨ Fd.type r = 2 then Fx.one
  else
    let u := Vec.between p q
    if Fd.type r = 1 then
      let dv := u.elevation - Fx.ofInt (Fd.aimEl r)
      Fx.mul (windowOf (azGap u.azimuth (Fx.ofInt (Fd.aimAz r))) (coverage (Fd.cover r) spread))
        (windowOf (max dv (-dv)) (coverage (Fd.coverV r) spread))
    else
      let a := Vec.ofAngles (Fd.aimAz r) (Fd.aimEl r)
      windowOf (Fx.mgon (Fx.atan2 (u.cross a).norm (u.dot a))) (coverage (Fd.cover r) spread)

/-- A feed's target for a wave-front object (R430, R431); none outside its reach. -/
def State.waveTarget (s : State) (o : List Byte) (p : Point) (f : Nat) : Option Target :=
  let r := s.feedRec f
  let q := Fd.pos r
  let flat := (q.e - p.e) * (q.e - p.e) + (q.n - p.n) * (q.n - p.n)
  if !s.feedLive f || decide ((Ob.radius o * Ob.radius o : Nat) < flat) then none
  else
    let w := feedWindow r (Ob.spread o) p
    if w ≤ 0 then none
    else
      let dist := Fx.sqrt (Fx.ofInt (flat + (q.h - p.h) * (q.h - p.h)))
      let path := max (dist - Fx.ofInt (Ob.dref o)) 0
      let delay := 512 + (Fx.round (path * (s.rate * 256 : Nat) / (s.obj.sound : Int))).toNat + Fd.trimDelay r
      let far := max dist (Fx.ofInt (Ob.near o))
      some (targetOf f delay
        (Fx.div (Fx.mul (linOf (Fd.trimGain r)) w * (Ob.ref o : Int)) far))

/-- Enabled feeds, which the grid lists (R450). -/
def State.gridFeeds (s : State) : List Nat :=
  (s.obj.feed.filter fun x => Fd.enabled x.2.record).map (·.1)

/-- The grid's origin (R450). -/
def State.gridOrigin (s : State) : Int × Int :=
  let ps := s.gridFeeds.map fun f => Fd.pos (s.feedRec f)
  match ps with
  | [] => (0, 0)
  | p :: _ => (ps.foldl (fun a q => min a q.e) p.e, ps.foldl (fun a q => min a q.n) p.n)

/-- Cells on one axis overlap: the feed's cell lies between those of the square's two sides. -/
def cellMeets (origin : Int) (cell : Nat) (lo hi v : Int) : Bool :=
  let c := fun x : Int => (x - origin) / (cell : Int)
  decide (c lo ≤ c v) && decide (c v ≤ c hi)

/-- Candidates of a wave-front object (R433). -/
def State.waveCandidates (s : State) (o : List Byte) (p : Point) : List Nat :=
  let org := s.gridOrigin
  let rad : Int := Ob.radius o
  s.gridFeeds.filter fun f =>
    let q := Fd.pos (s.feedRec f)
    cellMeets org.1 s.obj.cell (p.e - rad) (p.e + rad) q.e && cellMeets org.2 s.obj.cell (p.n - rad) (p.n + rad) q.n

def State.waveTargets (s : State) (o : List Byte) (p : Point) : List Target × Nat :=
  let c := s.waveCandidates o p
  ((sortTargets (c.filterMap (s.waveTarget o p))).take (Ob.maxTaps o), c.length)

/-! ### Triangulation (R434-R438) -/

namespace Mesh
def id (b : List Byte) : Nat := u64 b 8
def count (b : List Byte) : Nat := u16 b 20
def rp (b : List Byte) : Point := gridPoint b 24
def vertex (b : List Byte) (t i : Nat) : Nat := u16 b (64 + 64 * t + 2 * i)
def neighbour (b : List Byte) (t i : Nat) : Nat := u16 b (64 + 64 * t + 6 + 2 * i)
/-- g_i of a triangle for a direction. -/
def gain (b : List Byte) (t : Nat) (p : Vec) (i : Nat) : Int :=
  let m := fun j => i32 b (64 + 64 * t + 16 + 12 * i + 4 * j)
  (m 0 * p.x + m 1 * p.y + m 2 * p.z) / 536870912
def gains (b : List Byte) (t : Nat) (p : Vec) : List Int := [gain b t p 0, gain b t p 1, gain b t p 2]
end Mesh

/-- The bound of R436, -2⁻²⁰. -/
def triBound : Int := -1152921504606846976

def triOk (g : List Int) : Bool := g.all fun v => decide (triBound ≤ v)

def minOf (g : List Int) : Int := g.foldl min (g.headD 0)

/-- The scan of R436 from triangle `t` on, `n` left: the triangle found, or the best so far with its least
gain; and the triangles tested. -/
def triScan (b : List Byte) (p : Vec) (best : Nat × Int) (t tested : Nat) : Nat → Nat × Nat
  | 0 => (best.1, tested)
  | n + 1 =>
    let g := Mesh.gains b t p
    if triOk g then (t, tested + 1)
    else triScan b p (if best.2 < minOf g ∨ t = 0 then (t, minOf g) else best) (t + 1) (tested + 1) n

/-- The walk of R436 from triangle `t`, `n` moves left. -/
def triWalk (b : List Byte) (p : Vec) (t tested : Nat) : Nat → Nat × Nat
  | 0 =>
    if triOk (Mesh.gains b t p) then (t, tested + 1)
    else triScan b p (0, 0) 0 (tested + 1) (Mesh.count b)
  | n + 1 =>
    let g := Mesh.gains b t p
    let nb := Mesh.neighbour b t ((g.idxOf? (minOf g)).getD 0)
    if triOk g then (t, tested + 1)
    else if nb = 0xFFFF then triScan b p (0, 0) 0 (tested + 1) (Mesh.count b)
    else triWalk b p nb (tested + 1) n

/-- Normalised gains of the real vertices (R437). Where every gain is negative the division has no stated
result, and each gain is free. -/
def State.triGains (s : State) (t : Nat) (p : Vec) : List (Nat × Int) :=
  let b := s.obj.mesh
  let g := (Mesh.gains b t p).map (max 0)
  let n := Fx.sqrt ((g.map fun v => Fx.mul v v).foldl (· + ·) 0)
  (g.zipIdx.map fun v =>
    (Mesh.vertex b t v.2,
      if n = 0 then clampI 0 Fx.one (Config.freeInt (s.freeCtr + v.2)) else Fx.div v.1 n)).filter
    fun v => v.1 != 0xFFFF

/-- Directions that an object's spread searches, the object's own first (R438). -/
def spreadDirs (az el : Int) (spread : Nat) : List Vec :=
  let p := Vec.ofAngles az el
  if spread = 0 then [p]
  else
    let x := (spread : Int) * Fx.pi / 400000
    let up : Vec :=
      { x := -(Fx.mul (Fx.sinMgon el) (Fx.sinMgon az)), y := -(Fx.mul (Fx.sinMgon el) (Fx.cosMgon az))
        z := Fx.cosMgon el }
    let side := p.cross up
    p :: [0, 66667, 133333, 200000, 266667, 333333].map fun a : Int =>
      (p.scale (Fx.cosRad x)).add
        (((up.scale (Fx.cosMgon a)).add (side.scale (Fx.sinMgon a))).scale (Fx.sinRad x))

/-- Sum gains by feed. -/
def addGains (acc : Tab Int) (g : List (Nat × Int)) : Tab Int :=
  g.foldl (fun t v => tput 0 t v.1 (tget 0 t v.1 + v.2)) acc

/-- Targets of a triangulation object, the candidates tested, and the triangle used (R436-R438). -/
def State.triTargets (s : State) (o : List Byte) (start : Nat) (p : Point) : List Target × Nat × Nat :=
  let d := directionFrom s.obj.rp p
  let dirs := spreadDirs d.1 d.2 (Ob.spread o)
  let from_ := if start < Mesh.count s.obj.mesh then start else 0
  let found := dirs.map fun v => (v, triWalk s.obj.mesh v from_ 0 64)
  let sums := found.foldl (fun t x => addGains t (s.triGains x.2.1 x.1)) []
  let n := if dirs.length = 1 then Fx.one
    else Fx.sqrt ((sums.map fun x => Fx.mul x.2 x.2).foldl (· + ·) 0)
  let dist := Fx.sqrt ((Vec.between s.obj.rp p).dot (Vec.between s.obj.rp p))
  let att := fun g : Int =>
    if Ob.atten o then Fx.div (g * (Ob.ref o : Int)) (max dist (Fx.ofInt (Ob.near o))) else g
  let live := sums.filter fun x => decide (0 < x.2) && s.feedLive x.1
  let ts := live.map fun x =>
    let r := s.feedRec x.1
    targetOf x.1 (512 + Fd.trimDelay r) (att (Fx.mul (Fx.div x.2 n) (linOf (Fd.trimGain r))))
  ((sortTargets ts).take (Ob.maxTaps o), (found.map fun x => x.2.2).foldl (· + ·) 0,
    ((found.head?.map fun x => x.2.1).getD 0))

/-! ### Zone (R439) -/

namespace Zn
def count (b : List Byte) : Nat := u8 b 0
def feed (b : List Byte) (j : Nat) : Nat := u16 b (4 + 4 * j)
def gain (b : List Byte) (j : Nat) : Int := i16 b (6 + 4 * j)
def feeds (b : List Byte) : List Nat := (List.range (count b)).map (feed b)
end Zn

/-- The sum of two gain codes under the clamps of R431. -/
def sumCodes (a b : Int) : Int × Bool :=
  if a = -32768 ∨ b = -32768 then (-32768, false)
  else if a + b < -15360 then (-32768, false)
  else (min 3072 (a + b), decide (3072 < a + b))

def State.zoneTargets (s : State) (o : List Byte) : List Target × Nat :=
  let z := zoneBytes s (Ob.zone o)
  let live := (List.range (Zn.count z)).filter fun j => s.feedLive (Zn.feed z j)
  let ts := (live.take (Ob.maxTaps o)).map fun j =>
    let r := s.feedRec (Zn.feed z j)
    let c := sumCodes (Zn.gain z j) (Fd.trimGain r)
    ({ feed := Zn.feed z j, delay := 512 + Fd.trimDelay r, code := c.1, lin := stepCode c.1, clamped := c.2 } : Target)
  (sortTargets ts, Zn.count z)

/-- Targets of an object at `p`, the candidates examined, and the triangle used. -/
def State.targetsOf (s : State) (o : List Byte) (tri : Nat) (p : Point) : List Target × Nat × Nat :=
  match Ob.law o with
  | 0 => let r := s.waveTargets o p; (r.1, r.2, tri)
  | 1 => s.triTargets o tri p
  | _ => let r := s.zoneTargets o; (r.1, r.2, tri)

end Sys2Proof.Machine
end

