-- ==== Sys2Proof/Machine/Survey.lean ====
section
/-!
DEFINITION. Sys2Proof/Machine/Survey.lean: the survey engine, the tap table, shedding and the render lanes, for
one block (R355, R358, R422, R440-R455).
-/
namespace Sys2Proof.Machine

def State.objMod (s : State) (f : ObjPart → ObjPart) : State := { s with obj := f s.obj }

def State.setObject (s : State) (i : Nat) (x : SndObj) : State :=
  s.objMod fun t => { t with obj := tput SndObj.reset t.obj i x }

def State.modObject (s : State) (i : Nat) (f : SndObj → SndObj) : State := s.setObject i (f (s.object i))

/-- Objects that are not at their defaults. -/
def State.objects (s : State) : List Nat := s.obj.obj.map (·.1)

/-- The object renders: it is enabled and within capacity. -/
def State.objLive (s : State) (i : Nat) : Bool :=
  Ob.enabled (s.objRec i) && inCapacity s.fab.active (0x4000 + i)

/-! ## Fades of taps (R446) -/

/-- Samples of a tap's fade. -/
def tapFade : Nat := 256

/-- A tap starts to fade out, from the factor it has; its targets freeze (R443, R446). -/
def Tap.leave (t : Tap) : Tap :=
  if t.fade = 2 then { t with shed := false }
  else
    { t with
      fade := 2, fpos := if t.fade = 1 then tapFade - t.fpos else 0
      dtarget := t.delay, gtarget := t.gain, shed := false }

/-- A tap fades back in from its present factor. -/
def Tap.enter (t : Tap) : Tap :=
  if t.fade = 2 then { t with fade := 1, fpos := tapFade - t.fpos, shed := false } else t

/-- A tap that shedding removes fades out and keeps its targets (R358). -/
def Tap.shedOut (t : Tap) : Tap :=
  if t.fade = 2 then t
  else { t with fade := 2, fpos := if t.fade = 1 then tapFade - t.fpos else 0, shed := true }

/-- A fade that has ended leaves the tap steady, or frees its entry: none. A shed tap keeps its entry. -/
def Tap.settle (t : Tap) : Option Tap :=
  if t.fpos < tapFade then some t
  else if t.fade = 1 then some { t with fade := 0, fpos := 0 }
  else if t.fade = 2 && !t.shed then none
  else some t

def settleTaps (l : Tab Tap) : Tab Tap := l.filterMap fun x => x.2.settle.map fun t => (x.1, t)

/-- TAP_FADE_END: one tap's fade ends (R446). -/
def State.tapFadeEnds (s : State) (t : Nat) : State :=
  s.objMod fun o => { o with tap := tput Tap.reset o.tap t ((tget Tap.reset o.tap t).settle.getD Tap.reset) }

def execTapFadeEnd (tap : Nat) (s : State) : Host.Outcome State Fault Refusal :=
  ran (decide (tap < 65536)) "TAP_FADE_END" s (s.tapFadeEnds tap)

/-! ## Reconciling an object's taps with its targets (R440, R443, R447, R453-R455) -/

/-- Longest delay on an object line and on a long-throw line, in 1/256 samples (Table 10-7). -/
def shortMost (p : Nat) : Nat := 256 * (if p = 3 then 16364 else 8172)
def longMost (p : Nat) : Nat := 256 * (if p = 3 then 259200 else 129600)

/-- The line a target reads, its delay there, and whether the delay was clamped (R453, R455). -/
def State.lineOf (s : State) (o : List Byte) (d : Nat) : Bool × Nat × Bool :=
  let p := s.fab.active
  if d ≤ shortMost p then (false, d, false)
  else if Ob.lt o ≠ 0xFF ∧ s.isReady Rdy.longStore = true then (true, min d (longMost p), decide (longMost p < d))
  else (false, shortMost p, true)

/-- First key from `k` on that a table does not list. -/
def firstFree (k : Nat) : Tab Tap → Nat
  | [] => k
  | (i, _) :: t => if i = k then firstFree (k + 1) t else if i < k then firstFree k t else k

/-- A free entry for a tap (R447): class-4 taps leave the last RESERVE_SAFE. -/
def State.freeEntry (s : State) (safe : Bool) : Option Nat :=
  let cap := profTaps s.fab.active
  let left := cap - (s.obj.tap.filter fun x => decide (x.1 < cap)).length
  if (if safe then 0 else s.obj.reserve) < left then some (firstFree 0 s.obj.tap) else none

/-- The entry that a target takes up again: a live tap of its identity, else one that fades out. -/
def State.entryFor (s : State) (i feed : Nat) (long : Bool) : Option Nat :=
  let same := s.obj.tap.filter fun x => x.2.obj == i && x.2.feed == feed && x.2.long == long
  match same.find? fun x => x.2.fade != 2 || x.2.shed with
  | some x => some x.1
  | none => same.head?.map (·.1)

def State.setTap (s : State) (k : Nat) (t : Tap) : State :=
  s.objMod fun o => { o with tap := tput Tap.reset o.tap k t }

/-- Give one target its tap; false where no entry is free. -/
def State.placeTarget (s : State) (i : Nat) (o : List Byte) (cut : Bool) (t : Target) : State × Bool :=
  let l := s.lineOf o t.delay
  let safe := (s.object i).safe
  match (if cut then none else s.entryFor i t.feed l.1) with
  | some k =>
    let x := tget Tap.reset s.obj.tap k
    let x := if x.shed then x else x.enter
    (s.setTap k { x with dtarget := l.2.1, gtarget := t.code, safe := safe }, true)
  | none =>
    match s.freeEntry safe with
    | some k =>
      (s.setTap k { obj := i, feed := t.feed, long := l.1, safe := safe, fade := 1, fpos := 0, delay := l.2.1
                    dtarget := l.2.1, gain := t.code, gtarget := t.code, shed := false }, true)
    | none => (s, false)

/-- Targets in order; the number that got no entry. -/
def State.placeTargets (s : State) (i : Nat) (o : List Byte) (cut : Bool) : List Target → Nat → State × Nat
  | [], short => (s, short)
  | t :: ts, short =>
    let r := s.placeTarget i o cut t
    r.1.placeTargets i o cut ts (if r.2 then short else short + 1)

/-- Taps of an object that a test picks start to fade out. -/
def State.leaveTaps (s : State) (p : Tap → Bool) : State :=
  s.objMod fun o => { o with
    tap := (o.tap.filterMap fun x =>
      if p x.2 then (if x.2.shed && decide (tapFade ≤ x.2.fpos) then none else some (x.1, x.2.leave))
      else some x) }

def bumpCount (l : List Nat) (i n : Nat) : List Nat :=
  l.zipIdx.map fun x => if x.2 = i then satAdd 0xFFFFFFFF x.1 n else x.1

/-- The survey of one object at the block that ends at `t` (R443, R448). -/
def State.surveyObject (s : State) (i t : Nat) (ts : List Target) (tri : Nat) : State :=
  let o := s.objRec i
  let x := s.object i
  let keep := fun a : Tap => ts.any fun g => g.feed == a.feed && (s.lineOf o g.delay).1 == a.long
  let s := s.leaveTaps fun a => a.obj == i && (x.cut || !keep a)
  let r := s.placeTargets i o x.cut ts 0
  let clamps := (ts.filter fun g => (s.lineOf o g.delay).2.2).length
  let gains := (ts.filter (·.clamped)).length
  (r.1.modObject i fun y => { y with
      cur := x.at_ t, due := false, cut := false, waited := false, short := decide (0 < r.2), surveyed := t
      tri := tri }).objMod fun p => { p with
      counts := bumpCount (bumpCount (bumpCount p.counts 0 r.2) 2 clamps) 3 gains
      secShort := (p.secShort.1 + r.2, if p.secShort.1 = 0 then i else p.secShort.2)
      secClamp := (p.secClamp.1 + clamps, if p.secClamp.1 = 0 then i else p.secClamp.2) }

/-! ## The survey of a block (R448, R449) -/

/-- C_B (R448). -/
def candidateLimit (p : Nat) : Nat := 8000000 * profLen p / profRate p

/-- The object is pending for survey in the block that ends at `t` (R449). -/
def State.surveyDue (s : State) (t i : Nat) : Bool :=
  let x := s.object i
  s.objLive i && !x.pendc && (x.due || x.short || x.waited || x.at_ t != x.cur)

/-- Order of R449: SAFE first, then the oldest last survey, then the lower index. -/
def State.surveyBefore (s : State) (a b : Nat) : Bool :=
  let x := s.object a
  let y := s.object b
  (x.safe && !y.safe) || (x.safe == y.safe &&
    (decide (x.surveyed < y.surveyed) || (x.surveyed == y.surveyed && decide (a < b))))

def State.insertDue (s : State) (i : Nat) : List Nat → List Nat
  | [] => [i]
  | j :: js => if s.surveyBefore i j then i :: j :: js else j :: s.insertDue i js

/-- Survey the pending objects in order; `n` candidates examined so far. -/
def State.surveyAll (s : State) (t n : Nat) (first : Bool) : List Nat → State × Nat
  | [] => (s, n)
  | i :: is =>
    let x := s.object i
    let r := s.targetsOf (s.objRec i) x.tri (x.at_ t)
    if x.safe || first || decide (n + r.2.1 ≤ candidateLimit s.fab.active) then
      (s.surveyObject i t r.1 r.2.2).surveyAll t (n + r.2.1) false is
    else
      let s := (s.modObject i fun y => { y with waited := true }).objMod fun p => { p with
        counts := bumpCount p.counts 1 1, secDefer := p.secDefer + 1, waiting := p.waiting + 1 }
      s.surveyAll t n first is

/-- The events that a survey sends at most once per second (Table 10-10). -/
def State.surveyEvents (s : State) : State :=
  let s := if s.obj.secShort.1 = 0 then s
    else s.oncePerSecond 0x40100 fun s =>
      (s.event 0x0401 Sev.warning 0x04 0x0000 (le 2 s.obj.secShort.2 ++ zeros 2 ++ le 4 s.obj.secShort.1)).objMod
        fun p => { p with secShort := (0, 0) }
  let s := if s.obj.secDefer = 0 then s
    else s.oncePerSecond 0x40200 fun s =>
      (s.event 0x0402 Sev.notice 0x04 0x0000 (zeros 4 ++ le 4 s.obj.secDefer)).objMod
        fun p => { p with secDefer := 0 }
  if s.obj.secClamp.1 = 0 then s
  else s.oncePerSecond 0x40300 fun s =>
    (s.event 0x0403 Sev.warning 0x04 0x0000 (le 2 s.obj.secClamp.2 ++ zeros 2 ++ le 4 s.obj.secClamp.1)).objMod
      fun p => { p with secClamp := (0, 0) }

/-- The survey of the block that ends at render index `t`: ended fades settle, taps of feeds and objects
that no longer render leave, and pending objects are surveyed. -/
def State.survey (s : State) (t : Nat) : State :=
  let s := s.objMod fun p => { p with tap := settleTaps p.tap, waiting := 0 }
  let live := s
  let long := s.isReady Rdy.longStore
  let s := (s.objects.filter fun i =>
      !long && s.obj.tap.any fun x => x.2.obj == i && x.2.long && x.2.fade != 2).foldl
    (fun s i => s.modObject i fun y => { y with due := true }) s
  let s := s.leaveTaps fun a => !live.objLive a.obj || !live.feedLive a.feed
  let due := (s.objects.filter (s.surveyDue t)).foldl (fun l i => s.insertDue i l) []
  let r := s.surveyAll t 0 true due
  (r.1.objMod fun p => { p with candidates := r.2 }).surveyEvents

/-! ## Shedding (R355, R358) -/

/-- Weight of a tap (R355). -/
def State.tapWeight (s : State) (t : Tap) : Nat := gainLin t.gain * gainLin (s.object t.obj).gain

/-- The tap of entry `a` is shed before that of `b`. -/
def shedFirst (a b : Nat × Nat × Tap) : Bool :=
  decide (a.2.1 < b.2.1) || (a.2.1 == b.2.1 && (decide (b.2.2.obj < a.2.2.obj) ||
    (a.2.2.obj == b.2.2.obj && decide (b.2.2.feed < a.2.2.feed))))

def insertShed (x : Nat × Nat × Tap) : List (Nat × Nat × Tap) → List (Nat × Nat × Tap)
  | [] => [x]
  | y :: ys => if shedFirst x y then x :: y :: ys else y :: insertShed x ys

/-- A class-4 tap that the survey allocates: one that leaves is none. -/
def Tap.counts (t : Tap) : Bool := !t.safe && (t.fade != 2 || t.shed)

/-- Class-4 taps of the block with their weights, the first to be shed first. -/
def State.shedOrder (s : State) : List (Nat × Nat × Tap) :=
  ((s.obj.tap.filter fun x => x.2.counts).map fun x => (x.1, s.tapWeight x.2, x.2)).foldl
    (fun l x => insertShed x l) []

/-- Taps are shed or restored at the level in force. -/
def State.applyShed (s : State) : State :=
  let order := s.shedOrder
  let out := (order.take (s.fab.shed * order.length / 16)).map (·.1)
  s.objMod fun p => { p with
    tap := p.tap.map fun x =>
      if out.contains x.1 then (x.1, x.2.shedOut)
      else if x.2.shed then (x.1, x.2.enter)
      else x }

/-! ## Object inputs (R421, R422) -/

/-- Two linear gains joined over a block: sample `j` of `n`. -/
def rampGain (a b n j : Nat) : Nat :=
  ((a : Int) + roundDiv (((b : Int) - a) * (j + 1 : Nat)) n).toNat

/-- The crossfade from an object's old source (R421). -/
def crossSource (old new : List Int) (pos : Nat) : List Int :=
  (List.zipWith (·, ·) old new).zipIdx.map fun x =>
    let k := min 64 (pos + x.2)
    roundDiv (x.1.1 * (64 - k : Nat) + x.1.2 * (k : Nat)) 64

/-- Newest samples ahead of a line of `n` samples; a line of zeros is empty. -/
def pushLine (n : Nat) (v line : List Int) : List Int :=
  let l := (v.reverse ++ line).take n
  if l.all (· == 0) then [] else l

/-- One object's block: its input with the crossfade and the object gain into its lines. -/
def State.feedObject (s : State) (src : Nat → List Int) (n i : Nat) : State :=
  let o := s.objRec i
  let x := s.object i
  let live := inCapacity s.fab.active (0x4000 + i)
  let v := match x.oldSrc with
    | some (a, pos) => crossSource (src a) (src (Ob.source o)) pos
    | none => src (Ob.source o)
  let g := unstepCode (moveTowards (stepCode x.gain) (stepCode (Ob.gain o)) 768)
  let y := v.zipIdx.map fun z =>
    if live then sat32 (mulGain z.1 (rampGain (gainLin x.gain) (gainLin g) n z.2)) else 0
  s.setObject i { x with
    gain := g
    oldSrc := match x.oldSrc with
      | some (a, pos) => if 64 ≤ pos + n then none else some (a, pos + n)
      | none => none
    line := pushLine (if s.fab.active = 3 then 16384 else 8192) y x.line
    long := if Ob.lt o = 0xFF then [] else pushLine (longLength s.fab.active) y x.long }

/-! ## The render lanes (R442, R444, R445) -/

/-- Coefficients of the fractional delay, Q2.30 (R442). -/
def lagrange (f : Int) : List Int :=
  [ roundDiv (-(f * (f - 256) * (f - 512)) * 64) 6,
    roundDiv ((f + 256) * (f - 256) * (f - 512) * 64) 2,
    roundDiv (-((f + 256) * f * (f - 512)) * 64) 2,
    roundDiv ((f + 256) * f * (f - 256) * 64) 6 ]

/-- Sample of a line at a delay in 1/256 samples; `age` is the position of x[n] in the line. -/
def tapSample (line : List Int) (age d : Nat) : Int :=
  let k := lagrange (d % 256 : Nat)
  let at_ := fun j : Nat => line.getD (age + d / 256 + j - 1) 0
  roundDiv (k.getD 0 0 * at_ 0 + k.getD 1 0 * at_ 1 + k.getD 2 0 * at_ 2 + k.getD 3 0 * at_ 3) 1073741824

/-- Fade factor of a tap at sample `j` of a block, of 256 (R446). -/
def Tap.factor (t : Tap) (j : Nat) : Nat :=
  let k := min tapFade (t.fpos + j + 1)
  match t.fade with
  | 1 => k
  | 2 => tapFade - k
  | _ => tapFade

/-- Glide per block in 1/256 samples (R444). -/
def glideStep (glide len : Nat) : Nat := max 1 (glide * len * 256 / 1000)

/-- One tap's block: its contribution, and the tap after it. -/
def State.runTap (s : State) (n : Nat) (t : Tap) : List Int × Tap :=
  let o := s.objRec t.obj
  let x := s.object t.obj
  let line := if t.long then x.long else x.line
  let d1 := (moveTowards t.delay t.dtarget (glideStep (Ob.glide o) n : Nat)).toNat
  let g1 := unstepCode (moveTowards (stepCode t.gain) (stepCode t.gtarget) 768)
  let a := gainLin t.gain
  let b := gainLin g1
  let silent := t.fade == 2 && decide (tapFade ≤ t.fpos)
  let v := (List.range n).map fun j =>
    if silent then 0
    else
      let d := ((t.delay : Int) + roundDiv (((d1 : Int) - t.delay) * (j + 1 : Nat)) n).toNat
      let y := mulGain (tapSample line (n - 1 - j) d) (rampGain a b n j)
      roundDiv (y * (t.factor j : Nat)) 256
  (v, { t with
    delay := d1, gain := g1
    fpos := if t.fade = 0 then 0 else min tapFade (t.fpos + n) })

/-- Every tap's block, summed by feed. -/
def State.runTaps (s : State) (n : Nat) : Tab Tap → Tab (List Int) → Tab Tap × Tab (List Int)
  | [], sums => ([], sums)
  | (k, t) :: rest, sums =>
    let r := s.runTap n t
    let was := padTo n (tget [] sums t.feed)
    let u := s.runTaps n rest (tput [] sums t.feed (vadd was r.1))
    ((k, r.2) :: u.1, u.2)

/-- Planisphere's work on the block of `n` samples that ends at render index `t`: the feed sums, Q1.31.
`stored`: objects at their defaults whose sinks a program writes. -/
def State.renderObjects (s : State) (src : Nat → List Int) (stored : List Nat) (n t : Nat) :
    State × Tab (List Int) :=
  let s := (s.objects ++ stored.filter fun i => !s.objects.contains i).foldl (fun s i => s.feedObject src n i) s
  let s := (s.survey t).applyShed
  let r := s.runTaps n s.obj.tap []
  ((s.objMod fun p => { p with tap := r.1 }).bump.bump.bump, r.2.map fun x => (x.1, x.2.map sat32))

end Sys2Proof.Machine
end

