-- ==== Sys2Proof/Machine/Planisphere.lean ====
section
/-!
DEFINITION. Sys2Proof/Machine/Planisphere.lean: objects, feeds, zones and the mesh as commands and records change
them, and the opcodes of Table 10-9 (R413-R429, R434, R435, R439, R457, R458).
-/
namespace Sys2Proof.Machine

/-! ## What makes an object pending (R418, R424, R449) -/

/-- Mark the objects that a test picks as pending for survey. -/
def State.markDue (s : State) (p : Nat → Bool) : State :=
  (s.objects.filter p).foldl (fun s i => s.modObject i fun x => { x with due := true }) s

def State.hasTapOn (s : State) (i f : Nat) : Bool := s.obj.tap.any fun x => x.2.obj == i && x.2.feed == f

/-- The candidate square of a wave-front object covers a point (R418, R433). -/
def State.squareCovers (s : State) (i : Nat) (q : Point) : Bool :=
  let o := s.objRec i
  let p := (s.object i).at_ s.time.ri
  let rad : Int := Ob.radius o
  Ob.law o == 0 && decide (p.e - rad ≤ q.e) && decide (q.e ≤ p.e + rad) && decide (p.n - rad ≤ q.n) &&
    decide (q.n ≤ p.n + rad)

/-! ## Feeds (R416-R418) -/

/-- FEED_SET parameters out of range (R417). -/
def feedBad (b : List Byte) : Bool :=
  Fd.type b == 3 || decide (32 ≤ u8 b 0) || u8 b 1 != 0 || !gainOk (Fd.trimGain b) || !positionOk false b 4 ||
    !elevOk (Fd.aimEl b) || decide (Fd.cover b < 10000) || decide (200000 < Fd.cover b) ||
    (if Fd.type b = 1 then decide (Fd.coverV b < 2000) || decide (200000 < Fd.coverV b) else Fd.coverV b != 0) ||
    decide (512000 < Fd.trimDelay b)

/-- FFL without its read-only bits, and azimuths in reduced form. -/
def feedClean (b : List Byte) : List Byte :=
  le 1 (u8 b 0 % 8) ++ slice b 1 15 ++ leI 4 (reduceAz (Fd.aimAz b)) ++ slice b 20 16

/-- A feed record changes E, N, H or TYPE (R417). -/
def feedMoves (a b : List Byte) : Bool := Fd.pos a != Fd.pos b || Fd.type a != Fd.type b

def feedRecord (k : RecKey) (s : State) : List Byte := s.feedRec (unitIndex k.unit)

/-- A feed takes its record; the objects that R418 names become pending. -/
def writeFeed (k : RecKey) (r : List Byte) (s : State) : State :=
  let f := unitIndex k.unit
  let old := s.feedRec f
  let new := feedClean r
  if old = new then s
  else
    let s := s.objMod fun t => { t with
      feed := tmod Feed.reset t.feed f fun x => { x with record := if new = feedDefault then [] else new } }
    s.markDue fun i => s.hasTapOn i f || s.squareCovers i (Fd.pos old) || s.squareCovers i (Fd.pos new)

def feedSetCheck (r : Req) (s : State) : Option Nat :=
  firstFail
    [ (feedBad r.params, Status.badParam), (s.locked r, Status.safetyLock),
      ((s.feed r.index).mesh && feedMoves (s.feedRec r.index) r.params, Status.coupling) ]

/-- What FEED_SET does once its check passes. -/
def feedSetEffect (r : Req) (s : State) : State := s.putAll feedRecord writeFeed r

def feedSetBody : Body := atBoundary feedSetCheck feedSetEffect

/-- FEED_SET (R416-R418). -/
def execFeedSet (q : Nat) (s : State) : Host.Outcome State Fault Refusal :=
  commandRow "FEED_SET" 0x0501 feedSetBody q s

def feedTrimCheck (r : Req) (s : State) : Option Nat :=
  firstFail
    [ (!gainOk (i16 r.params 0) || !zeroAt r.params 2 2 || decide (512000 < u32 r.params 4), Status.badParam),
      (s.locked r, Status.safetyLock) ]

/-- What FEED_TRIM does once its check passes. -/
def feedTrimEffect (r : Req) (s : State) : State := s.putAll feedRecord writeFeed r

def feedTrimBody : Body := atBoundary feedTrimCheck feedTrimEffect

/-- FEED_TRIM (R416, R418). -/
def execFeedTrim (q : Nat) (s : State) : Host.Outcome State Fault Refusal :=
  commandRow "FEED_TRIM" 0x0502 feedTrimBody q s

/-- Reply data of FEED_GET. -/
def feedGetData (r : Req) (s : State) : List Byte := feedBytes s r.index

def feedGetBody : Body := query feedGetData

/-- FEED_GET (R416). -/
def execFeedGet (q : Nat) (s : State) : Host.Outcome State Fault Refusal :=
  commandRow "FEED_GET" 0x0500 feedGetBody q s

/-! ## Objects (R419-R426) -/

/-- A node that may be an object's source (R420). -/
def sourceOk (i a : Nat) : Bool :=
  a == 0x9000 + i || Node.receive a || Node.tdmIn a || Node.aesIn a || Node.player a || Node.generator a

/-- OBJ_SET parameters out of range (Table 10-2). -/
def objectBad (i : Nat) (b : List Byte) : Bool :=
  decide (32 ≤ u8 b 0) || decide (2 < Ob.law b) || !sourceOk i (Ob.source b) ||
    !positionOk (Ob.directional b) b 4 || decide (200000 < Ob.spread b) || !gainOk (Ob.gain b) ||
    Ob.maxTaps b == 0 || decide (256 < Ob.maxTaps b) || (decide (63 < Ob.lt b) && Ob.lt b != 0xFF) ||
    (Ob.law b != 2 && Ob.zone b != 0) || Ob.glide b == 0 || decide (200 < Ob.glide b) ||
    decide (Ob.ref b < 100) || decide (100000 < Ob.ref b) || decide (Ob.near b < 100) ||
    decide (100000 < Ob.near b) || decide (2000000 < Ob.dref b) || decide (Ob.radius b < 1000) ||
    decide (2000000 < Ob.radius b) || !zeroAt b 44 4

/-- What makes an object's coupled set inconsistent (R423): 1 mesh absent, 2 zone empty, 3 long-throw
line. -/
def State.objectFault (s : State) (i : Nat) (b : List Byte) : Option Nat :=
  firstFail
    [ (Ob.law b == 1 && decide (s.obj.mesh = []), 1),
      (Ob.law b == 2 && Zn.count (zoneBytes s (Ob.zone b)) == 0, 2),
      (Ob.lt b != 0xFF && (decide (longLines s.fab.active ≤ Ob.lt b) ||
        (s.objects.any fun j => j != i && Ob.lt (s.objRec j) == Ob.lt b)), 3) ]

/-- OFL without its read-only bits, and the azimuth of a direction in reduced form. -/
def objectClean (b : List Byte) : List Byte :=
  let az := if Ob.directional b then leI 4 (reduceAz (i32 b 4)) else slice b 4 4
  le 1 (u8 b 0 % 8) ++ slice b 1 3 ++ az ++ slice b 8 40

/-- A record with the coupled set and ENABLE of another. -/
def withSetOf (old new : List Byte) : List Byte :=
  let ofl := (u8 new 0 &&& 4) + (u8 old 0 &&& 3)
  le 1 ofl ++ slice old 1 1 ++ slice new 2 20 ++ slice old 22 4 ++ slice new 26 22

/-- A record with ENABLE set or cleared. -/
def withObjEnable (b : List Byte) (on : Bool) : List Byte := le 1 (u8 b 0 / 2 * 2 + b2n on) ++ slice b 1 47

/-- The object moves to a new source: its generation moves on, and its input crossfades (R421). -/
def State.moveSource (s : State) (i old new : Nat) : State :=
  if old = new then s
  else (s.bumpGen (0x4000 + i)).modObject i fun x => { x with oldSrc := some (old, 0) }

/-- An object takes a record in effect: a new position is a jump (R427, R429), a change of law replaces its
taps (R440), and a long-throw line starts from zeros (R452). -/
def State.adoptObject (s : State) (i : Nat) (new : List Byte) : State :=
  let old := s.objRec i
  if old = new then s
  else
    let s := s.moveSource i (Ob.source old) (Ob.source new)
    let moved := slice old 4 12 != slice new 4 12 || Ob.directional old != Ob.directional new
    s.modObject i fun x => { x with
      record := if new = objectDefault i then [] else new
      pos := if moved then positionOf (Ob.directional new) s.obj.rp new 4 else x.pos
      motion := if moved then none else x.motion
      long := if Ob.lt old = Ob.lt new then x.long else []
      cut := x.cut || Ob.law old != Ob.law new
      due := true }

/-- PENDING_COUPLE of an object, reported once (R423, R570). -/
def State.pendObject (s : State) (i why : Nat) : State :=
  if (s.object i).pendc then s
  else
    (s.modObject i fun x => { x with pendc := true }).event 0x0405 Sev.warning 0x04 (0x4000 + i)
      (le 2 i ++ le 1 why)

/-- The record of an object, or of its ENABLE bit. -/
def objectRecord (k : RecKey) (s : State) : List Byte :=
  let b := s.objRec (unitIndex k.unit)
  if k.kind = Rec.objEnable then enableByte (u8 b 0) 0 else (s.heldOf k).getD b

/-- An object's record takes a value; one whose coupled set is not consistent keeps the last set and holds
the rest back (R423). -/
def writeObject (k : RecKey) (r : List Byte) (s : State) : State :=
  let i := unitIndex k.unit
  let old := s.objRec i
  if k.kind = Rec.objEnable then s.adoptObject i (withObjEnable old (u8 r 0 == 1))
  else
    let new := withObjEnable (objectClean r) (Ob.enabled old)
    match s.objectFault i new with
    | none =>
      let s := (s.setHeld k none).adoptObject i new
      if (s.object i).pendc then s.modObject i fun x => { x with pendc := false, due := true } else s
    | some why => ((s.setHeld k (some new)).adoptObject i (withSetOf old new)).pendObject i why

/-- An object's set is judged at a block boundary (R423, R570). -/
def State.judgeObject (s : State) (i : Nat) : State :=
  let k : RecKey := { kind := Rec.object, unit := 0x4000 + i, sub := 0 }
  match s.heldOf k with
  | some r => writeObject k r s
  | none =>
    match s.objectFault i (s.objRec i) with
    | some why => s.pendObject i why
    | none =>
      if (s.object i).pendc then s.modObject i fun x => { x with pendc := false, due := true } else s

def State.judgeObjects (s : State) : State := s.objects.foldl State.judgeObject s

/-- An object that a host command would change is SAFE (R425). -/
def State.objLocked (s : State) (r : Req) : Bool :=
  s.locked r || (r.origin != .entry && (s.object r.index).safe)

def objSetCheck (r : Req) (s : State) : Option Nat :=
  firstFail
    [ (objectBad r.index r.params, Status.badParam), (s.objLocked r, Status.safetyLock),
      ((s.objectFault r.index r.params).isSome, Status.coupling) ]

/-- OBJ_SET: the records, and a jump to the position they give (R427, R429). -/
def setObject (r : Req) (s : State) : State :=
  let s := s.putAll objectRecord writeObject r
  let o := s.objRec r.index
  s.modObject r.index fun x => { x with
    pos := positionOf (Ob.directional o) s.obj.rp o 4, motion := none, due := true }

def objSetBody : Body := atBoundary objSetCheck setObject

/-- OBJ_SET (R419-R423, R426, R429). -/
def execObjSet (q : Nat) (s : State) : Host.Outcome State Fault Refusal :=
  commandRow "OBJ_SET" 0x0401 objSetBody q s

/-- Reply data of OBJ_GET. -/
def objGetData (r : Req) (s : State) : List Byte := objectBytes s r.index

def objGetBody : Body := query objGetData

/-- OBJ_GET (R419). -/
def execObjGet (q : Nat) (s : State) : Host.Outcome State Fault Refusal :=
  commandRow "OBJ_GET" 0x0400 objGetBody q s

/-- Latest T1 that an OBJ_MOVE may give: 600 s beyond T0 (R427). -/
def moveCheck (r : Req) (s : State) : Option Nat :=
  let p := r.params
  let t0 := r.at?.getD s.nextBoundary
  firstFail
    [ (decide (3 < u8 p 0) || !zeroAt p 1 3 || !positionOk (bitOf (u8 p 0) 0) p 4 ||
        decide (t0 + 600 * s.rate < u64 p 16), Status.badParam),
      (s.objLocked r, Status.safetyLock) ]

/-- OBJ_MOVE at its boundary T0 (R427, R429). -/
def moveObject (r : Req) (s : State) : State :=
  let p := r.params
  let t0 := s.time.ri
  let p1 := positionOf (bitOf (u8 p 0) 0) s.obj.rp p 4
  s.modObject r.index fun x =>
    let p0 := x.at_ t0
    { x with
      pos := p1
      motion := if u64 p 16 ≤ t0 then none else some { p0 := p0, p1 := p1, t0 := t0, t1 := u64 p 16 }
      cut := x.cut || bitOf (u8 p 0) 1
      due := true }

def objMoveBody : Body := atBoundary moveCheck moveObject

/-- OBJ_MOVE (R426-R429). -/
def execObjMove (q : Nat) (s : State) : Host.Outcome State Fault Refusal :=
  commandRow "OBJ_MOVE" 0x0402 objMoveBody q s

def objEnableCheck (r : Req) (s : State) : Option Nat :=
  firstFail
    [ (decide (1 < u8 r.params 0) || !zeroAt r.params 1 3, Status.badParam), (s.objLocked r, Status.safetyLock) ]

/-- What OBJ_ENABLE does once its check passes. -/
def objEnableEffect (r : Req) (s : State) : State := s.putAll objectRecord writeObject r

def objEnableBody : Body := atBoundary objEnableCheck objEnableEffect

/-- OBJ_ENABLE (R424). -/
def execObjEnable (q : Nat) (s : State) : Host.Outcome State Fault Refusal :=
  commandRow "OBJ_ENABLE" 0x0403 objEnableBody q s

def objSetGainCheck (r : Req) (s : State) : Option Nat :=
  firstFail [(!gainOk (i16 r.params 0) || !zeroAt r.params 2 2, Status.badParam), (s.objLocked r, Status.safetyLock)]

/-- What OBJ_SET_GAIN does once its check passes. -/
def objSetGainEffect (r : Req) (s : State) : State := s.putAll objectRecord writeObject r

def objSetGainBody : Body := atBoundary objSetGainCheck objSetGainEffect

/-- OBJ_SET_GAIN (R422). -/
def execObjSetGain (q : Nat) (s : State) : Host.Outcome State Fault Refusal :=
  commandRow "OBJ_SET_GAIN" 0x0404 objSetGainBody q s

def objSetSourceCheck (r : Req) (s : State) : Option Nat :=
  firstFail
    [ (!sourceOk r.index (u16 r.params 0) || !zeroAt r.params 2 2, Status.badParam),
      (s.objLocked r, Status.safetyLock) ]

/-- What OBJ_SET_SOURCE does once its check passes. -/
def objSetSourceEffect (r : Req) (s : State) : State := s.putAll objectRecord writeObject r

def objSetSourceBody : Body := atBoundary objSetSourceCheck objSetSourceEffect

/-- OBJ_SET_SOURCE (R420, R421). -/
def execObjSetSource (q : Nat) (s : State) : Host.Outcome State Fault Refusal :=
  commandRow "OBJ_SET_SOURCE" 0x0405 objSetSourceBody q s

/-! ## The renderer as a whole (R413, R447, R450) -/

def renderConfigCheck (r : Req) (s : State) : Option Nat :=
  let p := r.params
  firstFail
    [ (!soundOk (u32 p 0) || !positionOk false p 4 || decide (u32 p 16 < 1000) || decide (100000 < u32 p 16) ||
        decide (8192 < u16 p 20) || !zeroAt p 22 2, Status.badParam),
      (decide (s.obj.mesh ≠ []) && gridPoint p 4 != s.obj.rp, Status.coupling) ]

/-- New c, RP, CELL and RESERVE_SAFE; a change of c or RP makes every object pending (R449). -/
def renderConfig (r : Req) (s : State) : State :=
  let p := r.params
  let changed := u32 p 0 != s.obj.sound || gridPoint p 4 != s.obj.rp
  let s := s.objMod fun t => { t with
    sound := u32 p 0, rp := gridPoint p 4, cell := u32 p 16, reserve := u16 p 20 }
  if changed then s.markDue fun _ => true else s

def objRenderConfigBody : Body := atBoundary renderConfigCheck renderConfig

/-- OBJ_RENDER_CONFIG (R413, R435, R450, R457). -/
def execObjRenderConfig (q : Nat) (s : State) : Host.Outcome State Fault Refusal :=
  commandRow "OBJ_RENDER_CONFIG" 0x0410 objRenderConfigBody q s

def objStatusBody : Body := fun _ r s =>
  if 1 < u8 r.params 0 ∨ zeroAt r.params 1 3 = false then .bad Status.badParam
  else if u8 r.params 0 = 1 ∧ r.origin = .host ∧ s.levelOf r.slot < 2 then .deny
  else
    let o := s.obj
    let d := le 4 (s.tapCount (·.safe)) ++ le 4 (s.tapCount fun t => !t.safe) ++ le 4 (s.tapCount fun t => t.fade != 0)
      ++ le 4 o.candidates ++ le 4 o.waiting ++ (o.counts.map fun n => le 4 n).flatten ++ le 8 (Mesh.id o.mesh)
    .done (if u8 r.params 0 = 1 then s.objMod fun t => { t with counts := [0, 0, 0, 0] } else s) d

/-- OBJ_STATUS (R457). -/
def execObjStatus (q : Nat) (s : State) : Host.Outcome State Fault Refusal :=
  commandRow "OBJ_STATUS" 0x0411 objStatusBody q s

def objTapsBody : Body := fun _ r s =>
  if zeroAt r.params 2 2 = false then .bad Status.badParam
  else
    let l := (s.obj.tap.filter fun x => x.2.obj == r.index).map fun x => x.2.bytes
    .done s (le 2 l.length ++ zeros 2 ++ ((l.drop (u16 r.params 0)).take 254).flatten)

/-- OBJ_TAPS (R441). -/
def execObjTaps (q : Nat) (s : State) : Host.Outcome State Fault Refusal :=
  commandRow "OBJ_TAPS" 0x0414 objTapsBody q s

/-! ## Zones (R439) -/

/-- A zone entry out of range: COUNT, zeros, feeds, gains, or a feed listed twice (R439). -/
def zoneBad (b : List Byte) : Bool :=
  let n := Zn.count b
  decide (63 < n) || !zeroAt b 1 3 || !zeroAt b (4 + 4 * n) (252 - 4 * n) ||
    ((List.range n).any fun j => decide (1023 < Zn.feed b j) || !gainOk (Zn.gain b j)) ||
    (Zn.feeds b).eraseDups.length != n

def zoneRecord (k : RecKey) (s : State) : List Byte := zoneBytes s k.sub

/-- A zone takes an entry; its objects become pending (R449). -/
def writeZone (k : RecKey) (r : List Byte) (s : State) : State :=
  let s := s.objMod fun t => { t with zone := tput [] t.zone k.sub (if r = zeros 256 then [] else r) }
  s.markDue fun i => Ob.law (s.objRec i) == 2 && Ob.zone (s.objRec i) == k.sub

def objZoneSetBody : Body := fun atB r s =>
  let z := u8 r.params 0
  let b := slice r.params 4 256
  if zeroAt r.params 1 3 = false ∨ zoneBad b = true then .bad Status.badParam
  else if (Zn.feeds b ++ Zn.feeds (zoneBytes s z)).any fun f => !r.mayWrite s (0x5000 + f) then .deny
  else if s.locked r then .bad Status.safetyLock
  else if atB then .done (s.putAll zoneRecord writeZone r) []
  else .boundary

/-- OBJ_ZONE_SET (R439, R457). -/
def execObjZoneSet (q : Nat) (s : State) : Host.Outcome State Fault Refusal :=
  commandRow "OBJ_ZONE_SET" 0x0412 objZoneSetBody q s

/-! ## The mesh (R434, R435) -/

/-- Triangle `t` fails check 4 of R435. -/
def State.triangleBad (s : State) (b : List Byte) (t : Nat) : Bool :=
  let vs := (List.range 3).map (Mesh.vertex b t)
  let real := vs.filter (· != 0xFFFF)
  decide (real.length < 2) || real.any (fun f => decide (1023 < f) || !s.feedLive f) ||
    (List.range 3).any fun i => Mesh.neighbour b t i != 0xFFFF && decide (Mesh.count b ≤ Mesh.neighbour b t i)

/-- The first check of R435 that an image of `n` bytes fails: its number, status and triangle. -/
def State.meshCheck (s : State) (b : List Byte) (n : Nat) : Option (Nat × Nat × Nat) :=
  if b.length ≠ n ∨ n < 132 ∨ 131012 < n ∨ u32 b 0 ≠ 0x4853454D ∨ u16 b 4 ≠ 1 ∨ u16 b 6 ≠ 64 ∨ u32 b 16 ≠ n ∨
      n ≠ 68 + 64 * Mesh.count b then some (2, Status.badParam, 0)
  else if u32 b (n - 4) ≠ crc32c (b.take (n - 4)) then some (3, Status.crc, 0)
  else
    match (List.range (Mesh.count b)).find? (s.triangleBad b) with
    | some t => some (4, Status.badParam, t)
    | none => if Mesh.rp b = s.obj.rp then none else some (5, Status.coupling, 0)

def objMeshLoadBody : Body := fun _ r s =>
  let a := u64 r.params 0
  let n := u32 r.params 8
  if zeroAt r.params 12 4 = false then .bad Status.badParam
  else if n ≠ 0 ∧ s.unmirrored r a n = true then .bad Status.pairRole
  else if s.obj.load.isSome then .bad Status.busy
  else .deferred (s.objMod fun t => { t with load := some { req := r, addr := a, len := n, bank := 0 } })

/-- OBJ_MESH_LOAD (R435, R457). -/
def execObjMeshLoad (q : Nat) (s : State) : Host.Outcome State Fault Refusal :=
  commandRow "OBJ_MESH_LOAD" 0x0413 objMeshLoadBody q s

/-- The image has been read, and its checks decide the final reply (R435). A length of 0 unloads. -/
def State.meshLoaded (s : State) : State :=
  match s.obj.load with
  | none => s
  | some f =>
    let s := s.objMod fun t => { t with load := none }
    let b := s.sourceRead f.req f.addr (min f.len 131013)
    let unread := f.len ≠ 0 ∧ f.req.mayRead s f.addr f.len = false
    match (if unread then some (1, Status.noAccess, 0) else if f.len = 0 then none else s.meshCheck b f.len) with
    | some (c, st, t) => s.finish f.req st (le 1 c ++ zeros 3 ++ le 4 t)
    | none => (s.objMod fun t => { t with newMesh := some b }).finish f.req Status.ok (zeros 8)

/-- MESH_LOAD_DONE (R434, R435). -/
def execMeshLoadDone (s : State) : Host.Outcome State Fault Refusal := goOn s s.meshLoaded

/-- Feeds that a mesh names. -/
def meshFeeds (b : List Byte) : List Nat :=
  ((List.range (Mesh.count b)).flatMap fun t => (List.range 3).map (Mesh.vertex b t)).filter (· != 0xFFFF)

/-- A mesh that passed is adopted at a boundary: MESH flags, pending objects, the event (R435). -/
def State.adoptMesh (s : State) : State :=
  match s.obj.newMesh with
  | none => s
  | some b =>
    let fs := meshFeeds b
    let clear := s.obj.feed.foldl (fun t x => tput Feed.reset t x.1 { x.2 with mesh := false }) s.obj.feed
    let feed := fs.foldl (fun t f => tmod Feed.reset t f fun x => { x with mesh := true }) clear
    let s := s.objMod fun t => { t with mesh := b, newMesh := none, feed := feed }
    let s := s.markDue fun i => Ob.law (s.objRec i) == 1
    (s.event 0x0404 Sev.notice 0x04 0x0000 (le 8 (Mesh.id b))).judgeObjects

/-- MESH_ADOPT (R435). -/
def execMeshAdopt (s : State) : Host.Outcome State Fault Refusal := goOn s s.adoptMesh

end Sys2Proof.Machine
end

