-- ==== Sys2Proof/Machine/Correction.lean ====
section
/-!
DEFINITION. Sys2Proof/Machine/Correction.lean: the correction pool, bank swaps, biquad sections, limiters and
compressors as commands change them: the opcodes of Table 11-8 (R460-R466, R472-R475, R481-R493).
-/
namespace Sys2Proof.Machine

/-! ## The pool (R461, R464-R466) -/

/-- Slots of the region. -/
def poolSlots : Nat := 163840

/-- Slots that banks hold, as base and length; feed `f`'s standby bank left out. -/
def State.slotsHeld (s : State) (but : Option Nat) : List (Nat × Nat) :=
  (s.cor.feed.flatMap fun x =>
    let b := if but = some x.1 then [x.2.running] else [x.2.bank0, x.2.bank1]
    (b.filter fun y => y.nslot != 0).map fun y => (y.base, y.nslot))

def insertRun (x : Nat × Nat) : List (Nat × Nat) → List (Nat × Nat)
  | [] => [x]
  | y :: ys => if x.1 < y.1 then x :: y :: ys else y :: insertRun x ys

/-- Free runs from slot `k` on, given the held runs in rising order. -/
def freeRuns (k : Nat) : List (Nat × Nat) → List (Nat × Nat)
  | [] => if k < poolSlots then [(k, poolSlots - k)] else []
  | (b, n) :: rest => (if k < b then [(k, b - k)] else []) ++ freeRuns (max k (b + n)) rest

def State.freeSlots (s : State) (but : Option Nat) : List (Nat × Nat) :=
  freeRuns 0 ((s.slotsHeld but).foldl (fun l x => insertRun x l) [])

def longestRun (l : List (Nat × Nat)) : Nat := l.foldl (fun m x => max m x.2) 0

/-- Slots of a range read as zero (R465). -/
def clearSlots (m : Tab Byte) (base n : Nat) : Tab Byte :=
  m.filter fun x => decide (x.1 < slotAddr base) || decide (slotAddr (base + n) ≤ x.1)

def CorFeed.setBank (x : CorFeed) (second : Bool) (b : CorBank) : CorFeed :=
  if second then { x with bank1 := b } else { x with bank0 := b }

/-- The feed is armed, pending or crossfading (R475); a datum's entries set banks at once. -/
def State.corBusy (s : State) (r : Req) : Bool := r.origin != .entry && (s.corFeed r.index).busy

def allocBad (r : Req) (s : State) : Bool :=
  let t := u32 r.params 4
  decide (1 < u8 r.params 0) || !zeroAt r.params 2 2 || t % 32 != 0 || decide (16384 < t) ||
    (t != 0 && u8 r.params 1 != 16 && u8 r.params 1 != 32) ||
    (!s.dat.building && (u8 r.params 0 == 1) == (s.corFeed r.index).run1)

def corAllocBody : Body := fun _ r s =>
  let f := r.index
  let x := s.corFeed f
  let second := u8 r.params 0 == 1
  let n := u32 r.params 4 / 32
  if allocBad r s then .bad Status.badParam
  else if s.corBusy r then .bad Status.busy
  else
    let old := if second then x.bank1 else x.bank0
    let empty := x.setBank second { CorBank.reset with swaps := old.swaps }
    let t := s.setCorFeed f empty
    if n = 0 then .done t (zeros 16)
    else
      let free := t.freeSlots none
      match free.find? fun y => decide (n ≤ y.2) with
      | none => .fail Status.noSpace (le 4 (longestRun free))
      | some (b, _) =>
        let t := t.setCorFeed f (empty.setBank second { base := b, nslot := n, ps := u8 r.params 1, swaps := old.swaps })
        .done { t with mem := clearSlots t.mem b n } (le 4 b ++ le 4 n ++ le 8 (slotAddr b))

/-- COR_ALLOC (R463, R465, R491). -/
def execCorAlloc (q : Nat) (s : State) : Host.Outcome State Fault Refusal :=
  commandRow "COR_ALLOC" 0x0503 corAllocBody q s

/-- Reply data of COR_BANKS. -/
def corBanksData (r : Req) (s : State) : List Byte :=
  let x := s.corFeed r.index
  bankBytes x false ++ bankBytes x true ++ le 4 x.specErr

def corBanksBody : Body := query corBanksData

/-- COR_BANKS (R463). -/
def execCorBanks (q : Nat) (s : State) : Host.Outcome State Fault Refusal :=
  commandRow "COR_BANKS" 0x0506 corBanksBody q s

/-- Reply data of COR_POOL. -/
def corPoolData (_ : Req) (s : State) : List Byte :=
  le 4 (s.runningSlots s.fab.active) ++ le 4 (profPool s.fab.active / 32)
    ++ le 4 ((s.slotsHeld none).foldl (fun n x => n + x.2) 0) ++ le 4 (longestRun (s.freeSlots none))

def corPoolBody : Body := query corPoolData

/-- COR_POOL (R464). -/
def execCorPool (q : Nat) (s : State) : Host.Outcome State Fault Refusal :=
  commandRow "COR_POOL" 0x0507 corPoolBody q s

def corCompactBody : Body := fun _ r s =>
  if s.cor.compact.isSome then .bad Status.busy
  else .deferred (s.corMod fun c => { c with compact := some r })

/-- COR_COMPACT (R466). -/
def execCorCompact (q : Nat) (s : State) : Host.Outcome State Fault Refusal :=
  commandRow "COR_COMPACT" 0x0508 corCompactBody q s

/-- Copy slots to lower addresses. -/
def copySlots (m : Tab Byte) (from_ dst n : Nat) : Tab Byte :=
  let a := slotAddr from_
  let part := m.filter fun x => decide (a ≤ x.1) && decide (x.1 < slotAddr (from_ + n))
  part.foldl (fun t x => writeByte t (x.1 - a + slotAddr dst) x.2) (clearSlots m dst n)

/-- Move one running bank to the lowest free run below it that holds it. -/
def State.lowerBank (s : State) (f : Nat) : State × Bool :=
  let x := s.corFeed f
  let b := x.running
  let t := s.setCorFeed f (x.setBank x.run1 CorBank.reset)
  match (t.freeSlots none).find? fun y => decide (b.nslot ≤ y.2) with
  | some (dst, _) =>
    if b.nslot ≠ 0 ∧ dst < b.base then
      ({ s.setCorFeed f (x.setBank x.run1 { b with base := dst }) with mem := copySlots s.mem b.base dst b.nslot }, true)
    else (s, false)
  | none => (s, false)

/-- Move running banks in order of their slots; `n` runs moved so far. -/
def State.lowerBanks (s : State) (n : Nat) : List Nat → State × Nat
  | [] => (s, n)
  | f :: fs =>
    let r := s.lowerBank f
    r.1.lowerBanks (if r.2 then n + 1 else n) fs

/-- Compaction ends (R466): running banks move at one boundary, lowest first. -/
def State.compactDone (s : State) : State :=
  match s.cor.compact with
  | none => s
  | some r =>
    let order := (s.cor.feed.foldl (fun l x => insertRun (x.2.running.base, x.1) l) []).map (·.2)
    let t := (s.corMod fun c => { c with compact := none }).lowerBanks 0 order
    t.1.finish r Status.ok (le 4 t.2 ++ le 4 (longestRun (t.1.freeSlots none)))

/-- COR_COMPACT_DONE (R466). -/
def execCorCompactDone (s : State) : Host.Outcome State Fault Refusal := goOn s s.compactDone

/-! ## Swaps (R472-R475) -/

/-- Exchange the banks of a feed; the incoming bank counts a swap. -/
def CorFeed.exchange (x : CorFeed) : CorFeed :=
  let b := x.standby
  { x.setBank (!x.run1) { b with swaps := (b.swaps + 1) % 4294967296 } with run1 := !x.run1 }

/-- Spectra of the running bank out of range are counted at a swap, and reported (R467). -/
def State.noteSpectra (s : State) (f : Nat) (n first : Nat) : State :=
  if n = 0 then s
  else s.oncePerSecond (0x50500 + f) fun s =>
    s.event 0x0505 Sev.error 0x05 (0x5000 + f) (le 2 f ++ le 1 (b2n (s.corFeed f).run1) ++ zeros 1 ++ le 4 first)

def State.countSpectra (s : State) (f : Nat) : State :=
  let x := s.corFeed f
  let b := badSpectra s.mem x.running
  (s.setCorFeed f { x with specErr := satAdd 0xFFFFFFFF x.specErr b.1 }).noteSpectra f b.1 b.2

def corSwapBody : Body := fun atB r s =>
  let f := r.index
  let x := s.corFeed f
  let want := u8 r.params 0
  let n := s.numbered r
  let b := if atB then s.time.ri else n.2
  if !zeroAt r.params 1 3 || (decide (1 < want) && want != 0xFF) then .bad Status.badParam
  else if s.dat.building then .done ((s.setCorFeed f x.exchange).countSpectra f) []
  else if want ≠ 0xFF ∧ want ≠ b2n (!x.run1) then .bad Status.badParam
  else if x.busy then .bad Status.busy
  else if s.swapBarred f b then .bad Status.budget
  else .hold false (s.setCorFeed f { x with swap := some { req := some n.1, at_ := b, pulse := false } })

/-- COR_SWAP (R473-R475, R491). -/
def execCorSwap (q : Nat) (s : State) : Host.Outcome State Fault Refusal :=
  commandRow "COR_SWAP" 0x0504 corSwapBody q s

def corArmBody : Body := fun _ r s =>
  let f := r.index
  let x := s.corFeed f
  let l := u8 r.params 0
  if !zeroAt r.params 1 3 || (decide (63 < l) && l != 0xFF) then .bad Status.badParam
  else if l = 0xFF then .done (s.setCorFeed f { x with arm := none }) []
  else if x.busy then .bad Status.busy
  else .done (s.setCorFeed f { x with arm := some (l, s.genOf r.target) }) []

/-- COR_ARM (R473, R475). -/
def execCorArm (q : Nat) (s : State) : Host.Outcome State Fault Refusal :=
  commandRow "COR_ARM" 0x0505 corArmBody q s

/-- Final reply of a swap. -/
def State.answerCorSwap (s : State) (x : CorSwap) (status : Nat) : State :=
  match x.req with
  | some r => if x.pulse then s.noteResult r status else s.finish r status []
  | none => s

/-- A pending swap meets its boundary B (R472, R474, R90). -/
def State.swapFeed (s : State) (f : Nat) : State :=
  let x := s.corFeed f
  match x.swap with
  | none => s
  | some w =>
    if s.time.ri < w.at_ then s
    else
      let stale : Bool := match w.req with
        | some r => r.gen != 0 && r.gen != s.genOf r.target
        | none => false
      let s' := s.setCorFeed f { x with swap := none }
      if stale then s'.answerCorSwap w Status.staleRole
      else if s.swapBarred f w.at_ then
        (s'.swapFailed f Status.budget w.pulse).answerCorSwap w Status.budget
      else
        let y := { x with swap := none }
        (((s.setCorFeed f { y.exchange with fadeAt := some w.at_ }).countSpectra f)).answerCorSwap w Status.ok

/-- CORRECTION_SWAP (R472, R474). -/
def execCorrectionSwap (feed : Nat) (s : State) : Host.Outcome State Fault Refusal :=
  ran (decide (feed < 1024)) "CORRECTION_SWAP" s (s.swapFeed feed)

/-- At B + 512 the incoming bank runs alone (R472). -/
def State.swapFeedEnds (s : State) (f : Nat) : State :=
  let x := s.corFeed f
  match x.fadeAt with
  | none => s
  | some b =>
    if s.time.ri < b + 512 then s
    else
      (s.setCorFeed f { x with fadeAt := none }).event 0x0501 Sev.notice 0x05 (0x5000 + f)
        (le 2 f ++ le 1 (b2n x.run1) ++ zeros 1 ++ le 4 b)

/-- COR_CROSSFADE_END (R472). -/
def execCorCrossfadeEnd (feed : Nat) (s : State) : Host.Outcome State Fault Refusal :=
  ran (decide (feed < 1024)) "COR_CROSSFADE_END" s (s.swapFeedEnds feed)

/-- A change of the partition size exchanges the banks of every running FIR (R479). -/
def State.exchangeBanks (s : State) : State :=
  s.corMod fun c => { c with
    feed := c.feed.foldl (fun t x =>
      tput CorFeed.reset t x.1 (if x.2.running.nslot = 0 then x.2 else x.2.exchange)) c.feed }

/-! ## Biquad sections (R481-R484) -/

/-- Five coefficients from 20 bytes. -/
def coefsOf (b : List Byte) : List Int := (List.range 5).map fun i => i32 b (4 * i)

/-- Both poles lie strictly inside the unit circle (R483). -/
def coefsOk (c : List Int) : Bool :=
  let a1 := c.getD 3 0
  let a2 := c.getD 4 0
  decide (max a2 (-a2) < 1073741824) && decide (max a1 (-a1) < 1073741824 + a2)

/-- Keys of a section: its own, and its copy while a program crossfade runs a bus twice (R400). -/
def State.sectionKeys (s : State) (u i : Nat) : List Nat :=
  let twice : Bool := unitClass u == 6 && (match s.alm.swap with
    | some x => x.running
    | none => false)
  let k := sectionKey u i
  if twice then [k, k + 65536] else [k]

/-- A section takes a set: STEP keeps its state; FADE runs the old section beside it (R484). -/
def Biquad.adopt (b : Biquad) (c : List Int) (fade : Bool) : Biquad :=
  { b with coef := c, pendc := false, old := if fade then some (b.coef, b.s1, b.s2, 0) else none }

def biquadRecord (k : RecKey) (s : State) : List Byte :=
  match s.heldOf k with
  | some r => r
  | none =>
    let b := tget Biquad.reset s.cor.biquad (sectionKey k.unit k.sub)
    (b.coef.map fun v => leI 4 v).flatten ++ [0]

/-- A section's record takes a value, or is held back where the poles are not inside the circle (R483). -/
def writeBiquad (k : RecKey) (r : List Byte) (s : State) : State :=
  let c := coefsOf r
  let keys := s.sectionKeys k.unit k.sub
  let each := fun (s : State) (f : Biquad → Biquad) =>
    s.corMod fun t => { t with biquad := keys.foldl (fun b i => tmod Biquad.reset b i f) t.biquad }
  if coefsOk c then each (s.setHeld k none) fun b => b.adopt c (u8 r 20 == 1)
  else
    s.holdBack k r fun s =>
      (each s fun b => { b with pendc := true }).event 0x0504 Sev.warning 0x05 k.unit (le 2 k.unit ++ le 1 k.sub)

def biquadCheck (r : Req) (s : State) : Option Nat :=
  let p := r.params
  let n := u8 p 1
  firstFail
    [ (n == 0 || decide (sectionCount r.target < u8 p 0 + n) || decide (1 < u8 p 2) || u8 p 3 != 0 ||
        p.length != 4 + 20 * n, Status.badParam),
      (s.locked r, Status.safetyLock),
      (((List.range n).any fun i => !coefsOk (coefsOf (slice p (4 + 20 * i) 20))), Status.coupling) ]

/-- What COR_BIQUAD does once its check passes. -/
def corBiquadEffect (r : Req) (s : State) : State := s.putAll biquadRecord writeBiquad r

def corBiquadBody : Body := atBoundary biquadCheck corBiquadEffect

/-- COR_BIQUAD (R483, R484, R491). -/
def execCorBiquad (q : Nat) (s : State) : Host.Outcome State Fault Refusal :=
  commandRow "COR_BIQUAD" 0x0510 corBiquadBody q s

/-- Reply data of COR_BIQUAD_GET. -/
def corBiquadGetData (r : Req) (s : State) : List Byte :=
  let bs := (List.range (sectionCount r.target)).map fun i =>
    tget Biquad.reset s.cor.biquad (sectionKey r.target i)
  (bs.map fun b => (b.coef.map fun v => leI 4 v).flatten).flatten
    ++ le 4 (bs.zipIdx.foldl (fun a x => a + b2n x.1.pendc * 2 ^ x.2) 0)

def corBiquadGetBody : Body := query corBiquadGetData

/-- COR_BIQUAD_GET (R483). -/
def execCorBiquadGet (q : Nat) (s : State) : Host.Outcome State Fault Refusal :=
  commandRow "COR_BIQUAD_GET" 0x0511 corBiquadGetBody q s

/-- A section's fade has run its 64 samples: the old section is discarded (R484). -/
def Biquad.settle (b : Biquad) : Biquad :=
  match b.old with
  | some (_, _, _, pos) => if 64 ≤ pos then { b with old := none } else b
  | none => b

/-- BIQUAD_FADE_END (R484). -/
def execBiquadFadeEnd (unit sec : Nat) (s : State) : Host.Outcome State Fault Refusal :=
  ran (decide (0x5000 ≤ unit) && decide (unit < 0x5400) && decide (sec < 16) ||
      decide (0x6000 ≤ unit) && decide (unit < 0x6100) && decide (sec < 8))
    "BIQUAD_FADE_END" s
    (s.corMod fun c => { c with
      biquad := (s.sectionKeys unit sec).foldl (fun b i => tmod Biquad.reset b i Biquad.settle) c.biquad })

/-! ## Limiters and compressors (R485-R490) -/

/-- A field outside [lo, hi]. -/
def outside (lo hi v : Int) : Bool := decide (v < lo) || decide (hi < v)

def limiterBad (b : List Byte) : Bool :=
  decide (1 < u8 b 0) || u8 b 1 != 0 || outside (-5120) 0 (i16 b 2) || outside 5 5000 (u16 b 4) || !zeroAt b 6 2

def compressorBad (b : List Byte) : Bool :=
  decide (1 < u8 b 0) || outside 1 100 (u8 b 1) || outside (-7680) 0 (i16 b 2) ||
    (u16 b 4 != 0 && outside 16 1024 (u16 b 4)) || outside 0 3072 (i16 b 6) || outside 5 20000 (u16 b 8) ||
    outside 5 5000 (u16 b 10) || outside 0 3072 (i16 b 12) || !zeroAt b 14 2

/-- A dynamics unit: feed limiters 0 to 1,023, bus compressors from 1,024 on. -/
def State.dynUnit (s : State) (n : Nat) : DynUnit := tget DynUnit.reset s.cor.dyn n

def dynRecord (k : RecKey) (s : State) : List Byte :=
  (s.dynUnit (unitIndex k.unit)).settings (k.kind == Rec.limiter)

/-- A unit takes its settings, in both programs' buses while both run. -/
def writeDyn (k : RecKey) (r : List Byte) (s : State) : State :=
  let n := unitIndex k.unit
  let twice : Bool := decide (1024 ≤ n) && (match s.alm.swap with
    | some x => x.running
    | none => false)
  s.corMod fun c => { c with
    dyn := (if twice then [n, n + 65536] else [n]).foldl (fun t i =>
      tmod DynUnit.reset t i fun d => { d with set := r }) c.dyn }

def limiterCheck (r : Req) (s : State) : Option Nat :=
  firstFail [ (decide (1024 ≤ r.index) || limiterBad r.params, Status.badParam), (s.locked r, Status.safetyLock) ]

/-- What COR_LIMITER does once its check passes. -/
def corLimiterEffect (r : Req) (s : State) : State := s.putAll dynRecord writeDyn r

def corLimiterBody : Body := atBoundary limiterCheck corLimiterEffect

/-- COR_LIMITER (R487, R490). -/
def execCorLimiter (q : Nat) (s : State) : Host.Outcome State Fault Refusal :=
  commandRow "COR_LIMITER" 0x0520 corLimiterBody q s

def compressorCheck (r : Req) (s : State) : Option Nat :=
  firstFail [ (decide (r.index < 1024) || compressorBad r.params, Status.badParam), (s.locked r, Status.safetyLock) ]

/-- What COR_COMPRESSOR does once its check passes. -/
def corCompressorEffect (r : Req) (s : State) : State := s.putAll dynRecord writeDyn r

def corCompressorBody : Body := atBoundary compressorCheck corCompressorEffect

/-- COR_COMPRESSOR (R489, R490). -/
def execCorCompressor (q : Nat) (s : State) : Host.Outcome State Fault Refusal :=
  commandRow "COR_COMPRESSOR" 0x0521 corCompressorBody q s

def limitDelayCheck (r : Req) (_s : State) : Option Nat :=
  if 2000 < u16 r.params 0 ∨ zeroAt r.params 2 2 = false then some Status.badParam else none

/-- A new LD_US: feed outputs fade out over 64 samples, the delay changes at their end (R485). A datum sets
it at once. -/
def setLimitDelay (r : Req) (s : State) : State :=
  let v := u16 r.params 0
  if s.dat.building then s.corMod fun c => { c with ldUs := v, ldNew := none, ldFade := Fade.full }
  else if s.cor.ldNew.isNone && v == s.cor.ldUs then s
  else s.corMod fun c => { c with
    ldNew := some (v, match c.ldNew with
      | some x => x.2
      | none => s.time.ri + 64)
    ldFade := if c.ldNew.isSome then c.ldFade
      else if c.ldFade.ended then Fade.out 64
      else c.ldFade.turn 64 false }

def corLimitDelayBody : Body := atBoundary limitDelayCheck setLimitDelay

/-- COR_LIMIT_DELAY (R485). -/
def execCorLimitDelay (q : Nat) (s : State) : Host.Outcome State Fault Refusal :=
  commandRow "COR_LIMIT_DELAY" 0x0522 corLimitDelayBody q s

/-- At the end of the fade the delay changes and content fades in (R485). -/
def CorPart.moveDelay (c : CorPart) (ri : Nat) : CorPart :=
  match c.ldNew with
  | some (v, b) => if b ≤ ri then { c with ldUs := v, ldNew := none, ldFade := Fade.start 64 } else c
  | none => c

def corDynStatusBody : Body := fun _ r s =>
  let n := r.index
  let d := s.dynUnit n
  if 1 < u8 r.params 0 ∨ zeroAt r.params 1 3 = false then .bad Status.badParam
  else if u8 r.params 0 = 1 ∧ r.origin = .host ∧ s.levelOf r.slot < 2 then .deny
  else
    let out := d.settings (decide (n < 1024)) ++ leI 2 d.level ++ leI 2 d.now ++ leI 2 d.deepest ++ zeros 2
      ++ le 4 d.blocks
    .done (if u8 r.params 0 = 1 then
      s.corMod fun c => { c with dyn := tmod DynUnit.reset c.dyn n fun d => { d with deepest := 0, blocks := 0 } }
      else s) out

/-- COR_DYN_STATUS (R491). -/
def execCorDynStatus (q : Nat) (s : State) : Host.Outcome State Fault Refusal :=
  commandRow "COR_DYN_STATUS" 0x0523 corDynStatusBody q s

/-! ## Saturation (R492) -/

/-- A block in which a unit saturated is counted, and reported at most once per second. -/
def State.countSaturation (s : State) (unit : Option Nat) : State :=
  let s := match unit with
    | some u => s.corMod fun c => { c with
      satUnit := if c.satBlocks = 0 then u else c.satUnit, satBlocks := c.satBlocks + 1 }
    | none => s
  if s.cor.satBlocks = 0 then s
  else s.oncePerSecond 0x50300 fun s =>
    (s.event 0x0503 Sev.warning 0x05 0x0000 (le 2 s.cor.satUnit ++ zeros 2 ++ le 4 s.cor.satBlocks)).corMod
      fun c => { c with satBlocks := 0 }

end Sys2Proof.Machine
end

