-- ==== Sys2Proof/Machine/SafConfig.lean ====
section
/-!
DEFINITION. Sys2Proof/Machine/SafConfig.lean: the island's configuration record: its sections, their
entries (Tables 12-3 to 12-7 and 12-12), their defaults, and the checks a commit makes (R504-R511,
R516, R522, R524, R531-R534, R538, R539).
-/
namespace Sys2Proof.Machine

/-! ## Sections -/

/-- Where a section stands: by SID, and the sections 4 by their FIRST address. -/
def sectKey (sid : Nat) (body : List Byte) : Nat := sid * 65536 + (if sid = 4 then u16 body 0 else 0)

/-- Put a section in its place, replacing the one there. -/
def putSection (k : Nat) (body : List Byte) : List (Nat × List Byte) → List (Nat × List Byte)
  | [] => [(k, body)]
  | (j, b) :: t =>
    if k < j then (k, body) :: (j, b) :: t
    else if k = j then (k, body) :: t
    else (j, b) :: putSection k body t

/-- The body of a section, empty where it is omitted. -/
def section_ (cfg : List (Nat × List Byte)) (sid : Nat) : List Byte :=
  ((cfg.find? fun x => x.1 == sid * 65536).map (·.2)).getD []

/-- The bodies of the sections 4. -/
def sinkSections (cfg : List (Nat × List Byte)) : List (List Byte) :=
  (cfg.filter fun x => x.1 / 65536 == 4).map (·.2)

/-- A section as SAF_CFG_READ shows it: of sections 4 the first. -/
def readSection (cfg : List (Nat × List Byte)) (sid : Nat) : List Byte :=
  if sid = 4 then (sinkSections cfg).headD [] else section_ cfg sid

/-- Committed sections with the staged ones in their places (R539). -/
def SafPart.merged (x : SafPart) : List (Nat × List Byte) :=
  x.staged.foldl (fun c e => putSection e.1 e.2 c) x.cfg

/-- Length of the record the sections form (R538). -/
def recordLength (cfg : List (Nat × List Byte)) : Nat :=
  cfg.foldl (fun n x => n + (4 + x.2.length + 3) / 4 * 4) 36

/-! ## Entries and their defaults -/

/-- Entry `i` of a section of `n`-byte entries, or its default where the section is omitted. -/
def entryOf (body : List Byte) (n : Nat) (default : List Byte) (i : Nat) : List Byte :=
  if body = [] then default else slice body (n * i) n

/-- A disabled input with the thresholds of Table 12-2. -/
def inputDefault : List Byte :=
  le 1 0 ++ le 1 40 ++ le 2 150 ++ le 2 700 ++ le 2 1200 ++ le 2 2200 ++ le 2 2800 ++ le 1 0xFF ++ zeros 3

/-- SUP_SLOT none, HB_FAB 2, HB_FW 20, HB_HOST 3,000, RETURN_S 0, REPORT_TO 3 s, TRIG_HOLD 3,000. -/
def generalDefault : List Byte :=
  le 1 0xFF ++ le 1 2 ++ le 2 20 ++ le 2 3000 ++ le 2 0 ++ le 2 30 ++ le 2 3000 ++ zeros 4

def SafPart.inputEntry (x : SafPart) (i : Nat) : List Byte := entryOf (section_ x.cfg 1) 16 inputDefault i
def SafPart.reqEntry (x : SafPart) (r : Nat) : List Byte := entryOf (section_ x.cfg 2) 16 (zeros 16) r
def SafPart.zoneEntry (x : SafPart) (z : Nat) : List Byte := entryOf (section_ x.cfg 3) 8 (zeros 8) z
def SafPart.outEntry (x : SafPart) (i : Nat) : List Byte := entryOf (section_ x.cfg 5) 4 (zeros 4) i
def SafPart.general (x : SafPart) : List Byte := entryOf (section_ x.cfg 8) 16 generalDefault 0

/-- Sink addresses and entries of a section 4. -/
def sinkEntries (body : List Byte) : List (Nat × List Byte) :=
  (List.range (u16 body 2)).map fun i => (u16 body 0 + i, slice body (4 + 4 * i) 4)

/-- Every sink with an entry. -/
def allSinks (cfg : List (Nat × List Byte)) : List (Nat × List Byte) :=
  (sinkSections cfg).flatMap sinkEntries

/-- A sink's entry; without one it belongs to no zone. -/
def SafPart.sinkEntry (x : SafPart) (a : Nat) : List Byte :=
  ((allSinks x.cfg).find? fun e => e.1 == a).elim (le 1 0xFF ++ zeros 3) (·.2)

/-- Entries of the supervision table and of the trigger map, 8 bytes each (R531, R532). -/
def eightEntries (body : List Byte) : List (List Byte) :=
  (List.range (u16 body 0)).map fun i => slice body (4 + 8 * i) 8

def SafPart.lineEntries (x : SafPart) : List (List Byte) := eightEntries (section_ x.cfg 6)
def SafPart.trigEntries (x : SafPart) : List (List Byte) := eightEntries (section_ x.cfg 7)

namespace SafCfg
/-! Fields of an input entry (Table 12-3). -/
def inEnabled (e : List Byte) : Bool := bitOf (u8 e 0) 0
def inSupervised (e : List Byte) : Bool := bitOf (u8 e 0) 1
def inLatch (e : List Byte) : Bool := bitOf (u8 e 0) 2
def inReq (e : List Byte) : Option Nat := if u8 e 12 = 0xFF then none else some (u8 e 12)
/-! Fields of a request entry (Table 12-5); an entry of zeros is unused. -/
def reqLevel (e : List Byte) : Nat := u8 e 0
def reqPrio (e : List Byte) : Nat := u8 e 1
def reqDelegates (e : List Byte) : Bool := bitOf (u8 e 2) 0
def reqSrc (e : List Byte) : Nat := u8 e 3
def reqOverlay (e : List Byte) : Nat := u16 e 4
def reqZone (e : List Byte) (z : Nat) : Bool := bitOf (u64 e 8) z
def reqUsed (e : List Byte) : Bool := decide (u8 e 0 ≠ 0)
/-! Fields of a zone entry (Table 12-6). -/
def zoneGain (e : List Byte) (level : Nat) : Int := i16 e (2 * (level - 1))
def zoneEnabled (e : List Byte) : Bool := bitOf (u8 e 6) 0
/-! Fields of a sink entry (Table 12-7). -/
def sinkZone (e : List Byte) : Nat := u8 e 0
def sinkDirectOnly (e : List Byte) : Bool := bitOf (u8 e 1) 0
def sinkTrim (e : List Byte) : Int := i16 e 2
/-! Fields of section 8. -/
def supSlot (g : List Byte) : Nat := u8 g 0
def hbFab (g : List Byte) : Nat := u8 g 1
def hbFwMs (g : List Byte) : Nat := u16 g 2
def hbHostMs (g : List Byte) : Nat := u16 g 4
def returnS (g : List Byte) : Nat := u16 g 6
def reportToMs (g : List Byte) : Nat := 100 * u16 g 8
def trigHoldMs (g : List Byte) : Nat := u16 g 10
end SafCfg

/-! ## What a commit checks (R539) -/

/-- An input entry: an enabled one has DEBOUNCE of at least 4 and strictly rising thresholds up to
3,300 mV (R508). -/
def inputEntryOk (e : List Byte) : Bool :=
  decide (u8 e 0 < 8) && zeroAt e 13 3 && (u8 e 12 == 0xFF || decide (u8 e 12 < 64)) &&
    (!SafCfg.inEnabled e ||
      decide (4 ≤ u8 e 1) && decide (u16 e 2 < u16 e 4) && decide (u16 e 4 < u16 e 6) &&
        decide (u16 e 6 < u16 e 8) && decide (u16 e 8 < u16 e 10) && decide (u16 e 10 ≤ 3300))

/-- A request entry (R511): DELEGATE names an overlay unit, which is island-owned by its stored
record, not by this one. -/
def reqEntryOk (e : List Byte) : Bool :=
  e.all (· == 0) ||
    (decide (1 ≤ u8 e 0) && decide (u8 e 0 ≤ 3) && decide (u8 e 2 < 2) && zeroAt e 6 2 &&
      decide (u8 e 3 < if u8 e 0 = 3 then 24 else 64) &&
      (if SafCfg.reqDelegates e then
        decide (u8 e 0 < 3) && unitClass (u16 e 4) == 13 && validUnit (u16 e 4)
       else u16 e 4 == 0))

def zoneEntryOk (e : List Byte) : Bool :=
  gainOk (i16 e 0) && gainOk (i16 e 2) && gainOk (i16 e 4) && decide (u8 e 6 < 2) && u8 e 7 == 0

/-- An address that can carry island content: an external sink or an LTDM output (Table 12-7). -/
def safSinkAddr (a : Nat) : Bool := Node.external a || inRange a 0x8B00 0x8B0F

def sinkEntryOk (x : Nat × List Byte) : Bool :=
  let e := x.2
  safSinkAddr x.1 && (u8 e 0 == 0xFF || decide (u8 e 0 < 64)) && decide (u8 e 1 < 2) && gainOk (i16 e 2)

def outEntryOk (e : List Byte) : Bool :=
  decide (u8 e 2 < 2) && u8 e 3 == 0 &&
    match u8 e 0 with
    | 1 => decide (1 ≤ u8 e 1) && decide (u8 e 1 ≤ 3)
    | 2 => decide (u8 e 1 < 64)
    | 4 => decide (u8 e 1 < 8)
    | 0 | 3 | 5 => u8 e 1 == 0
    | _ => false

def lineEntryOk (e : List Byte) : Bool := decide (u8 e 1 < 2) && decide (u8 e 4 < 64) && zeroAt e 5 3

def trigEntryOk (e : List Byte) : Bool := decide (u8 e 4 < 64) && decide (u8 e 5 < 2) && zeroAt e 6 2

def generalOk (g : List Byte) : Bool :=
  (u8 g 0 == 0xFF || decide (u8 g 0 < 8)) && inRange (u8 g 1) 1 16 && inRange (u16 g 2) 5 1000 &&
    inRange (u16 g 4) 100 60000 && decide (u16 g 6 ≤ 3600) && inRange (u16 g 8) 25 300 &&
    inRange (u16 g 10) 1500 10000 && zeroAt g 12 4

/-- Some value stands twice in a list. -/
def repeats {α : Type} [BEq α] : List α → Bool
  | [] => false
  | v :: vs => vs.contains v || repeats vs

/-- The stream entries of section 9: receive SI508-SI511, then transmit SO508-SO511 (R534). -/
def islandRx (body : List Byte) (i : Nat) : List Byte := slice body (128 * i) 128
def islandTx (body : List Byte) (i : Nat) : List Byte := slice body (512 + 128 * i) 128

/-- The four receive map entries of R534 and the transmit map: streams, or zones. -/
def islandRxMap (body : List Byte) (i : Nat) : Nat := u16 body (1024 + 2 * i)
def islandTxMap (body : List Byte) (i : Nat) : Nat := u16 body (1040 + 2 * i)

def rxMapOk (v : Nat) : Bool := v == 0xFFFF || decide (v < 256)
def txMapOk (v : Nat) : Bool := v == 0xFF || decide (v < 64)

/-- The island's own stream entries are in range and share no match key with each other or with the
main entries (R261, R539). -/
def State.islandStreamsOk (s : State) (body : List Byte) : Bool :=
  let rx := ((List.range 4).map (islandRx body)).filter Ent.valid
  let tx := ((List.range 4).map (islandTx body)).filter Ent.valid
  let main := (s.mainEntries false).map (·.2.1)
  rx.all (fun e => !rxEntryBad e && !main.any (sharesKey e)) &&
    ((List.range rx.length).all fun i =>
      !(rx.drop (i + 1)).any fun o => sharesKey (rx.getD i []) o) &&
    tx.all (fun e => !txEntryBad e s.rate) &&
    ((List.range 8).all fun i => rxMapOk (islandRxMap body i)) &&
    ((List.range 16).all fun i => txMapOk (islandTxMap body i))

/-- A section present has the length of Table 12-12, and each of its entries is valid. -/
def State.sectionOk (s : State) (sid : Nat) (b : List Byte) : Bool :=
  let each := fun (n count : Nat) (ok : List Byte → Bool) =>
    b.length == n * count && (List.range count).all fun i => ok (slice b (n * i) n)
  let table := fun (most : Nat) (ok : List Byte → Bool) =>
    decide (u16 b 0 ≤ most) && b.length == 4 + 8 * u16 b 0 && zeroAt b 2 2 && (eightEntries b).all ok
  match sid with
  | 1 => each 16 8 inputEntryOk
  | 2 => each 16 64 reqEntryOk
  | 3 => each 8 64 zoneEntryOk
  | 4 => decide (4 ≤ b.length) && b.length == 4 + 4 * u16 b 2 && (sinkEntries b).all sinkEntryOk
  | 5 => each 4 4 outEntryOk
  | 6 => table 128 lineEntryOk
  | 7 => table 64 trigEntryOk
  | 8 => b.length == 16 && generalOk b
  | 9 => b.length == 1072 && s.islandStreamsOk b
  | _ => false

/-- The record the sections form keeps every rule of the chapter (R539). -/
def State.recordGood (s : State) (cfg : List (Nat × List Byte)) : Bool :=
  decide (recordLength cfg ≤ 65536) && cfg.all (fun x => s.sectionOk (x.1 / 65536) x.2) &&
    !repeats ((allSinks cfg).map (·.1)) &&
    !repeats ((eightEntries (section_ cfg 6)).map fun e => (u8 e 0, u16 e 2)) &&
    !repeats ((eightEntries (section_ cfg 7)).map fun e => (u8 e 0, u8 e 1, u16 e 2))

end Sys2Proof.Machine
end

