-- ==== Sys2Proof/Machine/Island.lean ====
section
/-!
DEFINITION. Sys2Proof/Machine/Island.lean: the island's work: faults and safety outputs, requests, winners,
players and zones, what each sink carries, supervised inputs, heartbeats and takeover, field-bus
supervision and triggers (R502, R504-R527, R531, R532, R534).
-/
namespace Sys2Proof.Machine

/-! ## Places in the tables -/

def State.safReq (s : State) (r : Nat) : SafReq := tget SafReq.reset s.saf.req r
def State.setSafReq (s : State) (r : Nat) (x : SafReq) : State :=
  s.safMod fun t => { t with req := tput SafReq.reset t.req r x }
def State.safIn (s : State) (i : Nat) : SafInput := tget SafInput.reset s.saf.inputs i
def State.setSafIn (s : State) (i : Nat) (x : SafInput) : State :=
  s.safMod fun t => { t with inputs := tput SafInput.reset t.inputs i x }
def SafPart.zoneAt (x : SafPart) (z : Nat) : SafZone := tget SafZone.reset x.zone z
def SafPart.playerAt (x : SafPart) (p : Nat) : IslandPlayer := tget IslandPlayer.reset x.player p
def SafPart.sinkAt (x : SafPart) (a : Nat) : SafSink := tget SafSink.reset x.sink a
def SafPart.lineAt (x : SafPart) (e : Nat) : SafLine := tget SafLine.reset x.lines e

/-- The request is held by at least one source (R512). -/
def SafReq.active (r : SafReq) : Bool :=
  r.inputs != 0 || r.latch || r.trigger || r.trigLatch || r.command || r.service || r.peer

/-! Delegation states of SAF_STATUS. -/
namespace Deleg
def start : Nat := 1
def delegated : Nat := 2
def takenOver : Nat := 3
end Deleg

/-! Fault codes of Table 12-15. -/
namespace SafFault
def inputShort : Nat := 1
def inputOpen : Nat := 2
def inputBand : Nat := 3
def lineOpen : Nat := 4
def reportSilent : Nat := 11
def fabricHb : Nat := 12
def firmwareHb : Nat := 13
def hostHb : Nat := 14
def lsClock : Nat := 15
def messageBad : Nat := 16
end SafFault

/-- Every fault present, a bit per code less 1. -/
def SafPart.allFaults (x : SafPart) : Nat :=
  x.lines.foldl (fun n l => n ||| l.2.faults) (x.inFaults.foldl (fun n i => n ||| i.2) x.faults)

/-- Active requests. -/
def SafPart.activeReqs (x : SafPart) : List Nat := (x.req.filter fun r => r.2.active).map (·.1)

/-- Level of a zone: that of its winner (R517). -/
def SafPart.zoneLevel (x : SafPart) (z : Nat) : Nat :=
  match (x.zoneAt z).winner with
  | some r => SafCfg.reqLevel (x.reqEntry r)
  | none => 0

/-! ## Safety outputs (R509, R510) -/

/-- The condition of an output entry holds. -/
def SafPart.outCondition (x : SafPart) (e : List Byte) : Bool :=
  match u8 e 0 with
  | 1 => (List.range 64).any fun z => decide (u8 e 1 ≤ x.zoneLevel z)
  | 2 => decide (1 ≤ x.zoneLevel (u8 e 1))
  | 3 => x.allFaults != 0
  | 4 => (tget SafInput.reset x.inputs (u8 e 1)).state == .active
  | 5 => x.req.any fun r => r.2.active && r.2.deleg == Deleg.takenOver
  | _ => false

/-- Outputs energised, a bit each. -/
def SafPart.outBits (x : SafPart) : Nat :=
  (List.range 4).foldl (fun n i =>
    let e := x.outEntry i
    n + 2 ^ i * b2n (x.ready && u8 e 0 != 0 && x.outCondition e != bitOf (u8 e 2) 0)) 0

/-- SAF_OUT0-SAF_OUT3 and SAF_FAULT_N follow their conditions; `faultN`: the pin is pulled low. -/
def SafPart.refresh (x : SafPart) : SafPart :=
  { x with
    outs := x.outBits
    faultN := x.present && x.ready && !x.mismatch && x.recordOk && !x.crystal }

def State.safRefresh (s : State) : State := s.safMod SafPart.refresh

/-! ## Faults (R545) -/

def State.faultEvent (s : State) (on : Bool) (entry code unit : Nat) : State :=
  if on then s.islandEvent 0x0E05 Sev.error (le 1 entry ++ le 1 code) unit
  else s.islandEvent 0x0E06 Sev.notice (le 1 entry ++ le 1 code) unit

/-- Set or clear a bit of a mask. -/
def withBit (m i : Nat) (on : Bool) : Nat := if bitOf m i == on then m else if on then m + 2 ^ i else m - 2 ^ i

/-- A fault of the island as a whole. -/
def State.islandFault (s : State) (entry code : Nat) (on : Bool) : State :=
  if bitOf s.saf.faults (code - 1) == on then s
  else (s.safMod fun x => { x with faults := withBit x.faults (code - 1) on }).faultEvent on entry code 0

/-- A fault of an input. -/
def State.inputFault (s : State) (i code : Nat) (on : Bool) : State :=
  let m := tget 0 s.saf.inFaults i
  if bitOf m (code - 1) == on then s
  else
    (s.safMod fun x => { x with
      inFaults := tput 0 x.inFaults i (withBit m (code - 1) on) }).faultEvent on i code (0xC000 + i)

/-- A fault of a supervision entry. -/
def State.lineFault (s : State) (e code : Nat) (on : Bool) : State :=
  let l := s.saf.lineAt e
  if bitOf l.faults (code - 1) == on then s
  else
    (s.safMod fun x => { x with
      lines := tput SafLine.reset x.lines e { l with faults := withBit l.faults (code - 1) on } }).faultEvent
        on e code 0

/-! ## Island messages (R528, R530) -/

/-- First byte of the message data area (Table 12-1). -/
def messageArea : Nat := 0x40000800

/-- Directory entry of message `m` (Table 12-9). -/
def State.msgEntry (s : State) (m : Nat) : List Byte := readBytes s.mem (0x40000000 + 32 * m) 32

def State.msgState (s : State) (m : Nat) : Nat := u8 (s.msgEntry m) 8

/-- The message's header. -/
def State.msgHeader (s : State) (m : Nat) : List Byte :=
  readBytes s.mem (messageArea + u32 (s.msgEntry m) 0) 32

/-- Header and samples. -/
def State.msgBytes (s : State) (m : Nat) : List Byte :=
  readBytes s.mem (messageArea + u32 (s.msgEntry m) 0) (u32 (s.msgEntry m) 4)

/-! ## What the island plays (R514-R516, R518, R519) -/

/-- Sample of a message at a position of CD7's 48 kHz: it repeats with its GAP. -/
def State.messageAt (s : State) (m pos : Nat) : Int :=
  let h := s.msgHeader m
  let n := 2 * Msg.count h
  let one := n + 48 * Msg.gapMs h
  if one = 0 ∨ n ≤ pos % one then 0 else sat32 (Config.playSample (s.msgBytes m) 48000 (pos % one))

/-- Largest magnitude of a tone at -6 dBFS. -/
def tonePeak : Int := 1076291388

/-- The built-in tone of a level (R515). -/
def toneAt (level pos : Nat) : Int :=
  if level = 1 then
    (if pos % 96000 < 48000 then clampI (-tonePeak) tonePeak (Config.toneSample 800 (pos % 96000)) else 0)
  else
    let k := pos % 24000
    if k < 12000 then clampI (-tonePeak) tonePeak (Config.toneSample 800 k)
    else clampI (-tonePeak) tonePeak (Config.toneSample 970 (k - 12000))

/-- The sum of gain codes that direct content passes: mute if a term is mute, clamped to R18's range. -/
def contentGain (terms : List Int) : Int :=
  if terms.contains (-32768) then -32768 else clampI (-15360) 3072 (terms.foldl (· + ·) 0)

/-- What zone `z` gives a sink of trim `trim` (R518): tones and live sources have no MLEVEL. -/
def State.zoneSource (s : State) (x : SafPart) (z : Nat) (trim : Int) : SinkOld :=
  let zg := SafCfg.zoneGain (x.zoneEntry z) (x.zoneLevel z)
  if !x.ready then .silence
  else
    match (x.zoneAt z).content with
    | .none => .silence
    | .player p =>
      match (x.playerAt p).msg with
      | some m => .message m (x.playerAt p).pos (contentGain [Msg.level (s.msgHeader m), zg, trim])
      | none => .silence
    | .tone l pos => .tone l pos (contentGain [zg, trim])
    | .live lm => .live lm (contentGain [zg, trim])

/-- The island transmit nodes: channel `c` of SO508 + `i` names a place of the transmit map by the
entry's MAP_BASE. -/
def SafPart.txNodes (x : SafPart) : List (Nat × Nat) :=
  let body := section_ x.cfg 9
  (List.range 4).flatMap fun i =>
    let e := islandTx body i
    if Ent.valid e then
      (List.range (Ent.ch e)).map fun c =>
        (0xC000 + 64 * i + c, if Ent.base e + c < 16 then islandTxMap body (Ent.base e + c) else 0xFF)
    else []

/-- A sink's entry; an island transmit channel is always DIRECT (R534). -/
def SafPart.sinkSettings (x : SafPart) (a : Nat) : List Byte :=
  if 0xC000 ≤ a then le 1 (((x.txNodes.find? fun n => n.1 == a).map (·.2)).getD 0xFF) ++ [1, 0, 0]
  else x.sinkEntry a

/-- The sink has no level-0 content: an LTDM output or an island transmit channel (R517, R534). -/
def ownSink (a : Nat) : Bool := decide (0x8B00 ≤ a)

/-- What a sink carries now (R517, R518). -/
def State.carries (s : State) (x : SafPart) (a : Nat) : SinkOld :=
  let k := x.sinkAt a
  if k.level = 0 then (if ownSink a then .silence else .level0)
  else if !k.direct then .level0
  else s.zoneSource x k.zone (SafCfg.sinkTrim (x.sinkSettings a))

/-! ## Sinks follow winners and carriers (R517-R521) -/

/-- Every sink the record names. -/
def SafPart.sinkList (x : SafPart) : List Nat := (allSinks x.cfg).map (·.1) ++ x.txNodes.map (·.1)

/-- The request's sinks are DELEGATED and this is one of them (R518, R523). -/
def SafPart.delegates (x : SafPart) (r a : Nat) : Bool :=
  let q := tget SafReq.reset x.req r
  q.deleg == Deleg.delegated && decide (SafCfg.reqLevel (x.reqEntry r) < 3) && !ownSink a &&
    !SafCfg.sinkDirectOnly (x.sinkSettings a) && !q.direct.contains a

/-- Level, carrier, zone and winner that a sink is due. -/
def SafPart.sinkTarget (x : SafPart) (a : Nat) : Nat × Bool × Nat × Nat :=
  let z := SafCfg.sinkZone (x.sinkSettings a)
  if z = 0xFF then (0, false, 0xFF, 0xFF)
  else
    match (x.zoneAt z).winner with
    | some r => (x.zoneLevel z, !x.delegates r a, z, r)
    | none => (0, false, z, 0xFF)

/-- The last sample a sink carried. -/
def State.lastCarried (s : State) (a : Nat) : Int :=
  if 0x8B00 ≤ a ∧ a ≤ 0x8B0F then ((tget [] s.saf.ltdm a).getLast?).getD 0 else s.edgeLast a

/-- A sink moves to what it is due: from what it carried under `before`, or from the mixed value where
a crossfade is still under way (R520). -/
def State.settleSink (s : State) (before : SafPart) (a : Nat) : State :=
  let k := s.saf.sinkAt a
  let t := s.saf.sinkTarget a
  if (k.level, k.direct, k.winner) = (t.1, t.2.1, t.2.2.2) then
    s.safMod fun x => { x with sink := tput SafSink.reset x.sink a { k with zone := t.2.2.1 } }
  else
    let old := if k.fade < 32 then SinkOld.value (s.lastCarried a) else s.carries before a
    s.safMod fun x => { x with
      sink := tput SafSink.reset x.sink a
        { level := t.1, direct := t.2.1, zone := t.2.2.1, winner := t.2.2.2, fade := 0, old := old } }

/-- Every sink moves to what it is due, while the island is ready (R521). -/
def State.settleSinks (s : State) (before : SafPart) : State :=
  if s.saf.ready then
    let extra := (s.saf.sink.map (·.1)).filter fun a => !s.saf.sinkList.contains a
    ((s.saf.sinkList ++ extra).foldl (fun s a => s.settleSink before a) s).safRefresh
  else s.safRefresh

/-! ## Winners, players and zones (R513-R515) -/

/-- Rank of a request by level, priority, activation and index: lower wins. -/
def SafPart.ranksBefore (x : SafPart) (a b : Nat) : Bool :=
  let key := fun r : Nat => (3 - SafCfg.reqLevel (x.reqEntry r)) * 256 + (255 - SafCfg.reqPrio (x.reqEntry r))
  let ord := fun r : Nat => (tget SafReq.reset x.req r).since * 64 + r
  decide (key a < key b) || (key a == key b && decide (ord a < ord b))

def SafPart.insertRanked (x : SafPart) (r : Nat) : List Nat → List Nat
  | [] => [r]
  | q :: qs => if x.ranksBefore r q then r :: q :: qs else q :: x.insertRanked r qs

/-- Active requests in the order of R513. -/
def SafPart.ranked (x : SafPart) : List Nat := x.activeReqs.foldl (fun l r => x.insertRanked r l) []

/-- The winner of a zone among ranked requests. -/
def SafPart.winnerOf (x : SafPart) (ranked : List Nat) (z : Nat) : Option Nat :=
  if SafCfg.zoneEnabled (x.zoneEntry z) then ranked.find? fun r => SafCfg.reqZone (x.reqEntry r) z else none

/-- Zones with winners, in the order of R513 applied across zones. -/
def SafPart.wonZones (x : SafPart) (ranked : List Nat) : List (Nat × Nat) :=
  let won := (List.range 64).filterMap fun z => (x.winnerOf ranked z).map fun r => (z, r)
  ranked.flatMap fun r => won.filter fun w => w.2 == r

/-- The message a winner's zone asks a player for, where it is VALID (R514, R515). -/
def State.wantsMessage (s : State) (r : Nat) : Option Nat :=
  let e := s.saf.reqEntry r
  if SafCfg.reqLevel e < 3 ∧ s.msgState (SafCfg.reqSrc e) = 2 then some (SafCfg.reqSrc e) else none

/-- Players with a zone left keep playing; the others stop (R514). -/
def State.keepPlayers (s : State) (won : List (Nat × Nat)) : State :=
  let wanted := won.filterMap fun w => s.wantsMessage w.2
  s.safMod fun x => { x with
    player := x.player.filter fun p => (p.2.msg.map wanted.contains).getD false }

/-- The player that plays message `m`, or a free one started on it. -/
def SafPart.playerFor (x : SafPart) (m : Nat) : Option (Nat × SafPart) :=
  match x.player.find? fun p => p.2.msg == some m with
  | some p => some (p.1, x)
  | none =>
    ((List.range 8).find? fun p => (x.playerAt p).msg.isNone).map fun p =>
      (p, { x with player := tput IslandPlayer.reset x.player p { msg := some m, pos := 0, zones := [] } })

/-- The tone a zone turns to; one that already sounds at this level goes on. -/
def toneContent (level : Nat) : ZoneContent → ZoneContent
  | .tone l pos => if l = level then .tone l pos else .tone level 0
  | .none | .player _ | .live _ => .tone level 0

/-- A zone takes its winner's content: a live source, a player, or a tone, which SAF_PLAYERS_FULL
reports where no player was free (R514-R516). -/
def State.fillZone (s : State) (before : SafPart) (w : Nat × Nat) : State :=
  let e := s.saf.reqEntry w.2
  let lv := SafCfg.reqLevel e
  let old := before.zoneAt w.1
  let put := fun (x : SafPart) (c : ZoneContent) =>
    { x with zone := tput SafZone.reset x.zone w.1 { winner := some w.2, content := c } }
  if lv = 3 then s.safMod fun x => put x (.live (SafCfg.reqSrc e))
  else
    match s.wantsMessage w.2 with
    | none => s.safMod fun x => put x (toneContent lv old.content)
    | some m =>
      match s.saf.playerFor m with
      | some r => { s with saf := put r.2 (.player r.1) }
      | none =>
        let c := toneContent lv old.content
        let s := s.safMod fun x => put x c
        if c = old.content ∧ old.winner = some w.2 then s
        else s.islandEvent 0x0E07 Sev.warning (le 1 w.2 ++ le 1 w.1)

/-- Zones of each player. -/
def SafPart.zonesOf (x : SafPart) (p : Nat) : List Nat :=
  (x.zone.filter fun z => z.2.content == .player p).map (·.1)

/-- Every winner, player and sink is judged afresh (R513). -/
def State.evaluate (s : State) : State :=
  if !s.saf.ready then s
  else
    let before := s.saf
    let won := before.wonZones before.ranked
    let s := (s.keepPlayers won).safMod fun x => { x with zone := [] }
    let s := won.foldl (fun s w => s.fillZone before w) s
    let s := s.safMod fun x => { x with
      player := x.player.map fun p => (p.1, { p.2 with zones := x.zonesOf p.1 }) }
    s.settleSinks before

/-! ## Requests (R511, R512, R523) -/

/-- The first missing heartbeat's fault code, if one is missing. -/
def SafPart.missingCode (x : SafPart) : Option Nat :=
  ((List.range 3).find? fun i => bitOf x.hbMissing i).map (· + SafFault.fabricHb)

/-- A delegating request in DIRECT_START or DELEGATED is taken over (R523). -/
def State.takeOverReq (s : State) (code r : Nat) : State :=
  let q := s.safReq r
  if q.active && (q.deleg == Deleg.start || q.deleg == Deleg.delegated) then
    (s.setSafReq r { q with deleg := Deleg.takenOver, boundaryA := none, direct := [] }).islandEvent
      0x0E04 Sev.critical (le 1 r ++ le 1 code)
  else s

/-- SAF_REQUEST's severity: by level when active, NOTICE on release. -/
def requestSev (level : Nat) (on : Bool) : Nat :=
  if !on then Sev.notice else if level = 1 then Sev.warning else Sev.critical

/-- A source of request `r` changes; the first to hold it activates it, the last to leave it ends it.
Sources: 1 input, 2 trigger, 3 command, 4 service port, 5 PEER. -/
def State.changeReq (s : State) (r source : Nat) (f : SafReq → SafReq) : State :=
  let e := s.saf.reqEntry r
  let x := s.safReq r
  let y := f x
  let lv := SafCfg.reqLevel e
  if !SafCfg.reqUsed e || x == y then s
  else if x.active == y.active then s.setSafReq r y
  else if y.active then
    let s := s.setSafReq r { y with
      since := s.time.elapsed, deleg := if SafCfg.reqDelegates e then Deleg.start else 0, boundaryA := none, direct := [] }
    let s := s.islandEvent 0x0E01 (requestSev lv true) (le 1 r ++ le 1 lv ++ [1] ++ le 1 source)
    match s.saf.missingCode with
    | some c => (s.takeOverReq c r).evaluate
    | none => s.evaluate
  else
    let s := s.setSafReq r SafReq.reset
    (s.islandEvent 0x0E01 (requestSev lv false) (le 1 r ++ le 1 lv ++ [0] ++ le 1 source)).evaluate

/-! ## Supervised inputs (R504-R508) -/

/-- Bands of Table 12-2: 0 NORMAL, 1 ACTIVE, 2 SHORT, 3 OPEN, 4 BETWEEN. -/
def bandOf (e : List Byte) (mv : Nat) : Nat :=
  if !SafCfg.inSupervised e then (if mv ≤ u16 e 4 then 1 else 0)
  else if mv < u16 e 2 then 2
  else if mv ≤ u16 e 4 then 1
  else if u16 e 6 ≤ mv ∧ mv ≤ u16 e 8 then 0
  else if u16 e 10 ≤ mv then 3
  else 4

def InState.ofBand : Nat → InState
  | 1 => .active
  | 2 => .short
  | 3 => .opened
  | _ => .normal

def InState.code : InState → Nat
  | .normal => 0 | .active => 1 | .short => 2 | .opened => 3

/-- One sample of input `i` (R504): its band, and the run of equal samples. -/
def State.sampleInput (s : State) (i mv : Nat) : State :=
  let e := s.saf.inputEntry i
  let x := s.safIn i
  if !SafCfg.inEnabled e then s.setSafIn i { SafInput.reset with mv := mv }
  else
    let b := bandOf e mv
    s.setSafIn i { x with
      band := b, mv := mv, run := if b = x.band then min 65535 (x.run + 1) else 1
      between := if b = 4 then (if x.band = 4 then x.between else some s.time.elapsed) else none }

/-- An input takes a state: its faults, its event and its request follow (R505-R507). -/
def State.inputTakes (s : State) (i : Nat) (st : InState) : State :=
  let e := s.saf.inputEntry i
  let x := s.safIn i
  let s := s.setSafIn i { x with state := st }
  let s := if x.state = st then s
    else s.islandEvent 0x0E02 Sev.notice (le 1 i ++ le 1 st.code) (0xC000 + i)
  let s := match st with
    | .short => s.inputFault i SafFault.inputShort true
    | .opened => s.inputFault i SafFault.inputOpen true
    | .normal | .active =>
      ((s.inputFault i SafFault.inputShort false).inputFault i SafFault.inputOpen false).inputFault i
        SafFault.inputBand false
  match SafCfg.inReq e with
  | none => s.safRefresh
  | some r =>
    (if st = .active then
      s.changeReq r 1 fun q => { q with
        inputs := withBit q.inputs i true, latch := q.latch || SafCfg.inLatch e }
     else s.changeReq r 1 fun q => { q with inputs := withBit q.inputs i false }).safRefresh

/-- DEBOUNCE samples have fallen in a band that is not the input's state, or that ends its BETWEEN
fault. -/
def State.inputDue (s : State) (i : Nat) : Bool :=
  let e := s.saf.inputEntry i
  let x := s.safIn i
  let need := if SafCfg.inSupervised e || decide (4 ≤ u8 e 1) then u8 e 1 else 1
  s.saf.ready && SafCfg.inEnabled e && x.band != 4 && decide (need ≤ x.run) &&
    (x.state != InState.ofBand x.band ||
      (decide (x.band < 2) && bitOf (tget 0 s.saf.inFaults i) (SafFault.inputBand - 1)))

/-- INPUT_STATE_CHANGE (R505-R507, R513). -/
def execInputStateChange (i : Nat) (s : State) : Host.Outcome State Fault Refusal :=
  ran (decide (i < 8)) "INPUT_STATE_CHANGE" s
    (if s.inputDue i then s.inputTakes i (InState.ofBand (s.safIn i).band) else s)

/-- 1 s in BETWEEN without interruption (R505). -/
def State.inputBandOut (s : State) (i : Nat) : State :=
  match (s.safIn i).between with
  | some t =>
    if s.saf.ready ∧ t + second ≤ s.time.elapsed then (s.inputFault i SafFault.inputBand true).safRefresh else s
  | none => s

/-- INPUT_BAND_TIMEOUT (R505). -/
def execInputBandTimeout (i : Nat) (s : State) : Host.Outcome State Fault Refusal :=
  ran (decide (i < 8)) "INPUT_BAND_TIMEOUT" s (s.inputBandOut i)

/-- At ready, and at a commit, an input takes the band of its last sample at once (R541). -/
def State.resenseInput (s : State) (i : Nat) : State :=
  let e := s.saf.inputEntry i
  let s := s.sampleInput i (s.safIn i).mv
  if !SafCfg.inEnabled e then
    ((s.inputFault i SafFault.inputShort false).inputFault i SafFault.inputOpen false).inputFault i
      SafFault.inputBand false
  else if (s.safIn i).band = 4 then s
  else s.inputTakes i (InState.ofBand (s.safIn i).band)

/-! ## The override at the output edge (R47-R49, R519, R520) -/

/-- Content of a source at a position of 48 kHz counted from its own, before its gain. -/
def State.contentAt (s : State) (live : Nat → Int → Int) (k : Int) : SinkOld → Int
  | .message m pos _ => if (pos : Int) + k < 0 then 0 else s.messageAt m ((pos : Int) + k).toNat
  | .tone l pos _ => if (pos : Int) + k < 0 then 0 else toneAt l ((pos : Int) + k).toNat
  | .live lm _ => live lm k
  | .value _ | .level0 | .silence => 0

def SinkOld.gain : SinkOld → Int
  | .message _ _ g => g
  | .tone _ _ g => g
  | .live _ g => g
  | .value _ | .level0 | .silence => 0

/-- The source as many samples of 48 kHz on. -/
def SinkOld.advance (n : Nat) : SinkOld → SinkOld
  | .message m pos g => .message m (pos + n) g
  | .tone l pos g => .tone l (pos + n) g
  | .live lm g => .live lm g
  | .value v => .value v
  | .level0 => .level0
  | .silence => .silence

/-- `n` samples of a source at a sink: island content reaches a main-die sink through its rate follower,
an LTDM output directly (R519). -/
def State.sourceBlock (s : State) (live : Nat → Int → Int) (a rate n : Nat) (level0 : List Int)
    (src : SinkOld) : List Int :=
  match src with
  | .value v => List.replicate n v
  | .level0 => padTo n level0
  | .silence => List.replicate n 0
  | .message _ _ g | .tone _ _ g | .live _ g =>
    let m := n * 48000 / rate
    let raw :=
      if 0x8B00 ≤ a ∧ a ≤ 0x8B0F then (List.range n).map fun j : Nat => s.contentAt live (j : Int) src
      else
        let w := (List.range (m + 12)).map fun j : Nat => s.contentAt live ((j : Int) - 12) src
        (List.range n).map fun j => Config.followSample rate w j
    raw.map fun v => sat32 (mulGain (sat32 v) (gainLin g))

/-- What sink `a` carries for `n` samples, its level-0 content given (R48, R49, R518, R520). -/
def State.override (s : State) (live : Nat → Int → Int) (a rate n : Nat) (level0 : List Int) : List Int :=
  let k := s.saf.sinkAt a
  let now := s.sourceBlock live a rate n level0 (s.carries s.saf a)
  if 32 ≤ k.fade then now
  else crossBlock k.fade (s.sourceBlock live a rate n level0 k.old) now

/-- An LTDM output slot. -/
def ltdmOut (a : Nat) : Bool := inRange a 0x8B00 0x8B0F

/-- Sinks' crossfades, players and tones after `m` samples of island content, `n` samples at a main-die
sink; with none there, only the LTDM outputs go on. -/
def SafPart.pass (x : SafPart) (n m : Nat) : SafPart :=
  { x with
    sink := x.sink.filterMap fun k =>
      let d := if ltdmOut k.1 then m else n
      let y := { k.2 with
        fade := min 32 (k.2.fade + d)
        old := if k.2.fade + d < 32 then k.2.old.advance (if d = 0 then 0 else m) else SinkOld.level0 }
      if y = SafSink.reset then none else some (k.1, y)
    player := x.player.map fun p => (p.1, { p.2 with pos := p.2.pos + m })
    zone := x.zone.map fun z =>
      match z.2.content with
      | .tone l pos => (z.1, { z.2 with content := .tone l (pos + m) })
      | .none | .player _ | .live _ => z }

/-- The LTDM outputs for `n` samples of 48 kHz. -/
def State.ltdmBlock (s : State) (live : Nat → Int → Int) (n : Nat) : State :=
  let out := (List.range 16).foldl (fun t i =>
    tput [] t (0x8B00 + i) (s.override live (0x8B00 + i) 48000 n [])) []
  s.safMod fun x => { x with ltdm := if x.present then out else [] }

/-- A live source of a block: LTDM input slots from the block's inputs, then the island receive
channels from the streams' frames; one that is absent reads zero (R516, R534). -/
def State.liveSource (s : State) (inputs : List (Nat × List Int)) (frames : Tab (List (List Int))) (lm : Nat)
    (k : Int) : Int :=
  if k < 0 then 0
  else if lm < 16 then
    ((inputs.find? fun x => x.1 == 0x8B00 + lm).elim [] (·.2)).getD k.toNat 0
  else
    let v := islandRxMap (section_ s.saf.cfg 9) (lm - 16)
    if v = 0xFFFF ∨ (s.rx (508 + v / 64)).state ≠ 2 then 0
    else (channelOf (tget [] frames (508 + v / 64)) (v % 64)).getD k.toNat 0

/-- The main die paces the island's content with its blocks while they tick. -/
def State.blocksPace (s : State) : Bool := !s.sys.inReset && s.isReady Rdy.fabric && !s.time.withheld

/-- Without block ticks the island's content moves on in CD7 itself: 12 samples of 48 kHz between two
input samples, with the LTDM outputs. -/
def State.islandPace (s : State) (ins : List (Nat × List Int)) : State :=
  if s.saf.ready && !s.blocksPace then
    (s.ltdmBlock (s.liveSource ins []) 12).safMod fun x => x.pass 0 12
  else s

/-- Every input is sampled (R504). -/
def State.sampleInputs (s : State) (mv : List Nat) : State :=
  if s.saf.ready then
    (List.range 8).foldl (fun s i => s.sampleInput i (mv.getD i 0)) s
  else s.safMod fun x => { x with
    inputs := if x.present then
        (List.range 8).foldl (fun t i =>
          tput SafInput.reset t i { tget SafInput.reset x.inputs i with mv := mv.getD i 0 }) x.inputs
      else x.inputs }

/-- ISLAND_INPUT_SAMPLE (R504): the pin voltages in mV, and the LTDM inputs' 12 samples since. -/
def execIslandInputSample (mv : List Nat) (ins : List (Nat × List Int)) (s : State) :
    Host.Outcome State Fault Refusal :=
  goOn s ((s.sampleInputs mv).islandPace ins)

/-! ## Heartbeats and takeover (R522-R524) -/

/-- Requests in a delegation state are taken over, and their sinks turn DIRECT (R523). -/
def State.takeOver (s : State) (code : Nat) : State :=
  let before := s.saf
  ((s.saf.activeReqs).foldl (fun s r => s.takeOverReq code r) s).settleSinks before

/-- Heartbeat `i` (0 fabric, 1 firmware, 2 host) is judged missing. -/
def State.beatMissing (s : State) (i : Nat) : State :=
  if !s.saf.ready || bitOf s.saf.hbMissing i then s
  else
    let s := s.safMod fun x => { x with hbMissing := withBit x.hbMissing i true, healthy := none }
    ((s.islandFault 0 (SafFault.fabricHb + i) true).takeOver (SafFault.fabricHb + i)).safRefresh

/-- Heartbeat `i` is back. -/
def State.beatBack (s : State) (i : Nat) : State :=
  if !bitOf s.saf.hbMissing i then s
  else
    let s := s.safMod fun x =>
      let m := withBit x.hbMissing i false
      { x with hbMissing := m, healthy := if m = 0 then some s.time.elapsed else none }
    (s.islandFault 0 (SafFault.fabricHb + i) false).safRefresh

/-- The fabric's heartbeat of a block tick, raised or withheld (R345, R522). A withheld one that is not
yet missing starts the count of R523 step 2 again. -/
def State.fabricBeat (s : State) (on : Bool) : State :=
  if !s.saf.present then s
  else if on then
    (s.safMod fun x => { x with fabMiss := 0, fabLast := s.time.elapsed }).beatBack 0
  else
    s.safMod fun x => { x with
      fabMiss := x.fabMiss + 1
      req := x.req.map fun q => (q.1, { q.2 with beatsOk := false }) }

/-- The fabric heartbeat is missing (R522). -/
def State.fabricMissing (s : State) : Bool :=
  let n := SafCfg.hbFab s.saf.general
  decide (n ≤ s.saf.fabMiss) || decide (s.saf.fabLast + n * s.blockNs < s.time.elapsed)

/-- FABRIC_HB_MISS (R522, R523). -/
def execFabricHbMiss (s : State) : Host.Outcome State Fault Refusal :=
  goOn s (if s.fabricMissing then s.beatMissing 0 else s)

/-- FIRMWARE_HEARTBEAT: from running firmware (R522). -/
def execFirmwareHeartbeat (s : State) : Host.Outcome State Fault Refusal :=
  goOn s (if s.sys.running && s.saf.present then
    (s.safMod fun x => { x with fwLast := s.time.elapsed }).beatBack 1 else s)

/-- FIRMWARE_HB_TIMEOUT (R522, R523). -/
def execFirmwareHbTimeout (s : State) : Host.Outcome State Fault Refusal :=
  goOn s (if s.saf.fwLast + SafCfg.hbFwMs s.saf.general * milli ≤ s.time.elapsed then s.beatMissing 1 else s)

/-- HOST_HB_TIMEOUT: not judged while SUP_SLOT is 0xFF (R522, R523). -/
def execHostHbTimeout (s : State) : Host.Outcome State Fault Refusal :=
  goOn s (if SafCfg.supSlot s.saf.general ≠ 0xFF ∧
      s.saf.hostLast + SafCfg.hbHostMs s.saf.general * milli ≤ s.time.elapsed then s.beatMissing 2 else s)

/-- A TAKEN_OVER request returns once every heartbeat has been present for RETURN_S (R524). -/
def State.delegReturn (s : State) (r : Nat) : State :=
  let q := s.safReq r
  let t := SafCfg.returnS s.saf.general
  match s.saf.healthy with
  | some since =>
    if s.saf.ready && t != 0 && q.active && q.deleg == Deleg.takenOver &&
        decide (since + t * second ≤ s.time.elapsed) then
      (s.setSafReq r { q with deleg := Deleg.start, boundaryA := none, direct := [] }).settleSinks s.saf
    else s
  | none => s

/-- DELEGATION_RETURN (R524). -/
def execDelegationReturn (r : Nat) (s : State) : Host.Outcome State Fault Refusal :=
  ran (decide (r < 64)) "DELEGATION_RETURN" s (s.delegReturn r)

/-- Sinks of a request's zones whose level-0 value no SAFE chain of the running program writes (R523). -/
def State.keptDirect (s : State) (r : Nat) : List Nat :=
  let x := s.saf
  let safe := match s.runningProg with
    | some g => (g.insn.filter fun i : Insn => i.isStore && i.safe).map Insn.dst
    | none => []
  (allSinks x.cfg).filterMap fun e =>
    let z := SafCfg.sinkZone e.2
    if z ≠ 0xFF ∧ SafCfg.reqZone (x.reqEntry r) z = true ∧ ownSink e.1 = false ∧
        SafCfg.sinkDirectOnly e.2 = false ∧ safe.contains e.1 = false then some e.1 else none

/-- D + 3 blocks after A, every fabric heartbeat since having arrived, the request is DELEGATED; a
heartbeat withheld meanwhile starts the count again at the next tick (R523 step 2). -/
def State.handOff (s : State) (r : Nat) : State :=
  let q := s.safReq r
  match q.boundaryA with
  | some a =>
    if !(s.saf.ready && q.active && q.deleg == Deleg.start && s.saf.hbMissing == 0) then s
    else if !q.beatsOk then s.setSafReq r { q with boundaryA := some s.time.ri, beatsOk := true }
    else if s.time.ri < a + (profDepth s.fab.active + 3) * s.blockLen then s
    else
      let kept := s.keptDirect r
      let before := s.saf
      let s := s.setSafReq r { q with deleg := Deleg.delegated, direct := kept }
      (s.islandEvent 0x0E03 Sev.notice (le 1 r ++ zeros 3 ++ le 2 kept.length)).settleSinks before
  | none => s

/-- DELEGATION_HANDOFF (R523). -/
def execDelegationHandoff (r : Nat) (s : State) : Host.Outcome State Fault Refusal :=
  ran (decide (r < 64)) "DELEGATION_HANDOFF" s (s.handOff r)

/-- Every delegated request turns DIRECT and begins again from DIRECT_START (Table 13-6 step 4). -/
def State.undelegate (s : State) : State :=
  let before := s.saf
  (s.safMod fun x => { x with
    req := x.req.map fun q =>
      (q.1, if q.2.deleg == Deleg.start || q.2.deleg == Deleg.delegated then
          { q.2 with deleg := Deleg.start, boundaryA := none, direct := [] } else q.2) }).settleSinks before

/-! ## Field-bus supervision and triggers (R531, R532) -/

/-- What a REPORT does at one entry (Table 12-11); it also ends REPORT_SILENT. -/
def State.reportAt (s : State) (e lstate : Nat) : State :=
  let l := s.saf.lineAt e
  let s := s.safMod fun x => { x with lines := tput SafLine.reset x.lines e { l with last := some s.time.elapsed } }
  let s := s.lineFault e SafFault.reportSilent false
  if lstate = 0 then
    (List.range 7).foldl (fun s i => s.lineFault e (SafFault.lineOpen + i) false) s
  else if lstate ≤ 7 then s.lineFault e (SafFault.lineOpen + lstate - 1) true
  else s

/-- A REPORT of a node's channel (R531). -/
def State.report (s : State) (node : Nat) (b : List Byte) : State :=
  let hits := (s.saf.lineEntries.zipIdx).filter fun x =>
    bitOf (u8 x.1 1) 0 && u8 x.1 0 == node && u16 x.1 2 == u16 b 0
  if hits = [] then s.safMod fun x => { x with supUnknown := (x.supUnknown + 1) % 4294967296 }
  else (hits.foldl (fun s x => s.reportAt x.2 (u8 b 2)) s).safRefresh

/-- A TRIGGER of a gateway (R532): every matching entry raises its request. -/
def State.trigger (s : State) (node : Nat) (b : List Byte) : State :=
  let hits := s.saf.trigEntries.filter fun e => u8 e 0 == node && u8 e 1 == u8 b 2 && u16 e 2 == u16 b 0
  if hits = [] then s.safMod fun x => { x with trigUnknown := (x.trigUnknown + 1) % 4294967296 }
  else
    hits.foldl (fun s e =>
      let until_ := s.time.elapsed + SafCfg.trigHoldMs s.saf.general * milli
      s.changeReq (u8 e 4) 2 fun q =>
        if bitOf (u8 e 5) 0 then { q with trigLatch := true }
        else { q with trigger := true, trigUntil := until_ }) s

/-- The island empties Q243 while it is ready. -/
def State.drainSafety (s : State) : Nat → State
  | 0 => s
  | fuel + 1 =>
    if s.saf.ready then
      match s.popPacket 243 with
      | (s', []) => s'
      | (s', p) =>
        let app := (slice p 32 (u16 p 2)).drop 14
        let b := slice app 8 (u16 app 6)
        let s' := if u16 p 0 = 0xFFFF then s'
          else if u8 app 1 = 4 then s'.report (u8 app 2) b
          else if u8 app 1 = 5 then s'.trigger (u8 app 2) b
          else s'
        s'.drainSafety fuel
    else s

/-- A REPORT or TRIGGER frame: through the filter to Q243 in hardware, and a copy to Q74 for the control
cluster (R238, R239, Table 5-9). -/
def State.safetyReceive (s : State) (f : List Byte) : State :=
  if fbFrameOk f then
    (((s.deliverFrame 243 4 0 0xFF 0 0 f).drainSafety 260).deliverFrame 74 4 0 0xFF 0 0 f).firmwareTakes 74 260
  else s.countPort 4 Ctr.appCrc 1

/-- FB_REPORT (R531, R239). -/
def execFbReport (f : List Byte) (s : State) : Host.Outcome State Fault Refusal :=
  goOn s (if isFbFrame f 4 then s.safetyReceive f else s)

/-- FB_TRIGGER (R532, R239). -/
def execFbTrigger (f : List Byte) (s : State) : Host.Outcome State Fault Refusal :=
  goOn s (if isFbFrame f 5 then s.safetyReceive f else s)

/-- An enabled entry without a REPORT for REPORT_TO (R531). -/
def State.reportSilence (s : State) (e : Nat) : State :=
  let entry := s.saf.lineEntries.getD e []
  let since := max s.saf.readyAt ((s.saf.lineAt e).last.getD 0)
  if s.saf.ready && bitOf (u8 entry 1) 0 &&
      decide (since + SafCfg.reportToMs s.saf.general * milli ≤ s.time.elapsed) then
    (s.lineFault e SafFault.reportSilent true).safRefresh
  else s

/-- REPORT_SILENT (R531). -/
def execReportSilent (e : Nat) (s : State) : Host.Outcome State Fault Refusal :=
  ran (decide (e < 128)) "REPORT_SILENT" s (s.reportSilence e)

/-- TRIG_HOLD after the last matching frame a request without LATCH is released (R532). -/
def State.triggerEnds (s : State) (r : Nat) : State :=
  let q := s.safReq r
  if s.saf.ready && q.trigger && decide (q.trigUntil ≤ s.time.elapsed) then
    s.changeReq r 2 fun q => { q with trigger := false }
  else s

/-- TRIGGER_HOLD_EXPIRE (R532). -/
def execTriggerHoldExpire (r : Nat) (s : State) : Host.Outcome State Fault Refusal :=
  ran (decide (r < 64)) "TRIGGER_HOLD_EXPIRE" s (s.triggerEnds r)

/-! ## The island's clock (R501, R503) -/

/-- CD7 runs from the crystal, or from loop LS again (R501). -/
def State.lsCrystal (s : State) (on : Bool) : State :=
  ((s.safMod fun x => { x with crystal := on }).islandFault 0 SafFault.lsClock on).safRefresh

/-- Once a second island time steps or slews towards device time (R503). -/
def State.compareTime (s : State) : State :=
  let usable := s.isReady Rdy.time && !(s.loop 0).fallback
  let due := match s.saf.compared with
    | some t => decide (t + second ≤ s.time.elapsed)
    | none => true
  if !s.saf.present then s
  else if !usable then s.safMod fun x => { x with slewPpb := 0 }
  else if !due then s
  else
    let d : Int := (s.time.now.nanos : Int) - (s.saf.time.nanos : Int)
    s.safMod fun x =>
      if d.natAbs ≤ milli then
        { x with compared := some s.time.elapsed, slewPpb := clampI (-100000) 100000 d }
      else { x with compared := some s.time.elapsed, time := s.time.now, slewPpb := 0 }

/-- ISLAND_TIME_COMPARE (R503). -/
def execIslandTimeCompare (s : State) : Host.Outcome State Fault Refusal := goOn s s.compareTime

end Sys2Proof.Machine
end

