-- ==== Sys2Proof/Machine/ProfileChange.lean ====
section
/-!
DEFINITION. Sys2Proof/Machine/ProfileChange.lean: the boundary at which a profile change applies (R185,
R186, R282, R366-R369, R441, R479).
-/
namespace Sys2Proof.Machine

/-! ## Render indices across a change of rate (R185, R186) -/

/-- A render index kept at its place in time (R186). -/
def convertRi (a b x : Nat) : Nat :=
  if profRate a = profRate b then x else if profRate b = 96000 then 2 * x else x / 2

/-- A render index from which samples have been counted since: the samples done stay done (R186). -/
def rebaseRi (old new x : Nat) : Nat := new - (old - x)

def Req.convert (f : Nat → Nat) (r : Req) : Req := { r with at? := r.at?.map f }

def Pending.convert (f : Nat → Nat) (p : Pending) : Pending := { p with req := p.req.convert f, due := f p.due }

def Motion.convert (f : Nat → Nat) (m : Motion) : Motion := { m with t0 := f m.t0, t1 := f m.t1 }

def AlmSwap.convert (f g : Nat → Nat) (x : AlmSwap) : AlmSwap :=
  { x with req := x.req.map (Req.convert f), at_ := if x.running then g x.at_ else f x.at_ }

def CorFeed.convert (f g : Nat → Nat) (x : CorFeed) : CorFeed :=
  { x with
    swap := x.swap.map fun w => { w with req := w.req.map (Req.convert f), at_ := f w.at_ }
    fadeAt := x.fadeAt.map g }

def ProgState.convert (g : Nat → Nat) (p : ProgState) : ProgState :=
  { p with delay := p.delay.map fun d => (d.1, { d.2 with upTo := g d.2.upTo }) }

def PairPart.convert (f : Nat → Nat) (p : PairPart) : PairPart :=
  { p with
    peer := { p.peer with launchedRi := f p.peer.launchedRi, ri := f p.peer.ri }
    beats := p.beats.map f, since := f p.since, switchRi := p.switchRi.map f
    unfinished := p.unfinished.map f, holdAt := p.holdAt.map f
    handover := p.handover.map fun h => { h with h := f h.h }
    joinAt := p.joinAt.map f, selfHold := p.selfHold.map f, lastTake := f p.lastTake
    replay := p.replay.map fun x => (f x.1, x.2) }

def SafPart.convert (f : Nat → Nat) (x : SafPart) : SafPart :=
  { x with req := x.req.map fun q => (q.1, { q.2 with boundaryA := q.2.boundaryA.map f }) }

def DatPart.convert (f : Nat → Nat) (d : DatPart) : DatPart :=
  { d with
    boundary := d.boundary.map f
    ovl := d.ovl.map fun o => (o.1, { o.2 with resumeDue := o.2.resumeDue.map f }) }

/-- Every render index the device holds is converted (R186). -/
def Flight.convert (f : Nat → Nat) (x : Flight) : Flight := { x with ri := f x.ri, due := f x.due }

def State.convertAll (s : State) (f g : Nat → Nat) : State :=
  let alm := s.alm
  { s with
    host := { s.host with pending := s.host.pending.map (Pending.convert f) }
    time := { s.time with
      ri := f s.time.ri, lastUsed := f s.time.lastUsed
      loops := s.time.loops.map fun l => (l.1, { l.2 with realign := l.2.realign.map fun x => (f x.1, x.2) }) }
    fab := { s.fab with lastMissRi := f s.fab.lastMissRi, gateDue := s.fab.gateDue.map fun x => (f x.1, x.2) }
    obj := { s.obj with obj := s.obj.obj.map fun o => (o.1, { o.2 with motion := o.2.motion.map (Motion.convert f) }) }
    cor := { s.cor with
      feed := s.cor.feed.map fun x => (x.1, x.2.convert f g), ldNew := s.cor.ldNew.map fun x => (x.1, g x.2) }
    str := { s.str with tx := s.str.tx.map fun x => (x.1, { x.2 with riBase := f x.2.riBase }) }
    alm := { alm with
      swap := alm.swap.map (AlmSwap.convert f g), prog := alm.prog.convert g, progNew := alm.progNew.convert g
      edge := alm.edge.convert f, flight := alm.flight.map (Flight.convert f), histEnd := g alm.histEnd }
    pair := s.pair.convert f, saf := s.saf.convert f, dat := s.dat.convert f }

def State.convertRis (s : State) (a b : Nat) : State :=
  if profRate a = profRate b then s
  else s.convertAll (convertRi a b) (rebaseRi s.time.ri (convertRi a b s.time.ri))

/-! ## What the target profile holds -/

/-- Tap entries beyond a profile's capacity move to free entries below it, or are freed (R441). -/
def packTaps (n : Nat) (l : Tab Tap) : Tab Tap :=
  (l.filter fun x => decide (n ≤ x.1)).foldl (fun t x =>
    let k := firstFree 0 t
    if k < n then tput Tap.reset t k x.2 else t) (l.filter fun x => decide (x.1 < n))

/-- Groups take their engines; those of the highest numbers that do not fit are suspended (R282). -/
def State.placeEngines (s : State) : State :=
  let plan := s.enginePlan s.fab.active
  s.groupsInUse.foldl (fun s g =>
    s.setGroup g { s.group g with
      suspended := plan.1.contains g, engine := ((plan.2.find? fun x => x.1 == g).map (·.2)).getD 0 }) s

/-- Feeds beyond the target's capacity lose their filter state (R369, R460). -/
def State.restFeeds (s : State) (a p : Nat) : State :=
  s.corMod fun c => ((List.range (profFeeds a)).filter fun f => decide (profFeeds p ≤ f)).foldl
    (fun c f => c.clearUnit (0x5000 + f) true) c

/-- Profile `p` becomes active at this boundary (R367-R369). A change of depth keeps the newest block
taken and releases it by the target's depth (R368). `swapBanks`: a change of the partition size
exchanges the banks of running FIRs (R479), as every change but a datum's does. -/
def State.takeProfile (s : State) (p : Nat) (swapBanks : Bool) : State :=
  let a := s.fab.active
  let s := if swapBanks && profPart a != profPart p then s.exchangeBanks else s
  let s := s.convertRis a p
  let ri := s.time.ri
  let moved := changesShape a p
  let s := s.fabMod fun f =>
    let f := { f with
      active := p, pend := none, readyRi := none, shed := 0, ample := 0, short := 0, shedAmple := 0
      gateDue := some (ri + profLen p, BitVec.ofNat 32 (profPowered p))
      floor := bandFloor (profBand p), fade := if moved then Fade.start 64 else f.fade }
    { f with ceil := if f.vfrozen then f.ceil else f.ceilNow }
  let s := if moved then
      { s with alm := { s.alm with
          edge := if profRate a = profRate p ∧ profLen a = profLen p then s.alm.edge else Flight.reset
          flight := (s.alm.flight.getLast?.map fun x =>
            { x with due := ri + profDepth p * profLen p }).toList } }
    else s
  let s := (s.objMod fun t => { t with tap := packTaps (profTaps p) t.tap }).markDue fun _ => true
  let s := ((s.restFeeds a p).placeEngines.judgeStreams).judgeSerials
  (s.aimVcode).event 0x0140 Sev.notice 0x01 0x0000 (le 1 p ++ le 1 a ++ zeros 2 ++ le 4 ri)

/-- A pending profile change meets an eligible boundary with its prerequisites (R367). One that a datum
carries waits for the datum (Table 13-6 step 6). -/
def State.profileChange (s : State) : State :=
  match s.fab.pend with
  | none => s
  | some p =>
    if s.dat.phase ≠ 3 ∧ s.isReady Rdy.fabric = true ∧ s.changeAt p s.time.ri = true then s.takeProfile p true else s

/-- PROFILE_CHANGE_APPLY (R367). -/
def execProfileChangeApply (s : State) : Host.Outcome State Fault Refusal := goOn s s.profileChange

end Sys2Proof.Machine
end

