-- ==== Sys2Proof/Machine/Stack.lean ====
section
/-!
DEFINITION. Sys2Proof/Machine/Stack.lean: every record that a field or an overlay can write, by its key
(Table 13-2), and how an overlay goes on and comes off the stack of layers: covering and uncovering
keys, the running program, the profile and the SAFE objects (R89, R425, R552, R563-R566, R570).
-/
namespace Sys2Proof.Machine

/-! ## Records by key (Table 13-2) -/

/-- The record of a key as written. -/
def recordOf (k : RecKey) (s : State) : List Byte :=
  let n := k.kind
  if n = Rec.strEnable ∨ n = Rec.stream then streamRecord k s
  else if n = Rec.object ∨ n = Rec.objEnable then objectRecord k s
  else if n = Rec.feed then feedRecord k s
  else if n = Rec.tdm ∨ n = Rec.tdmMask then tdmRecord k s
  else if n = Rec.loop then loopRecord k s
  else if n = Rec.zone then zoneRecord k s
  else if n = Rec.biquad then biquadRecord k s
  else if n = Rec.limiter ∨ n = Rec.compressor then dynRecord k s
  else if n = Rec.gain then gainRecord k s
  else if n = Rec.sinkFade then sinkFadeRecord k s
  else if n = Rec.busScale then busScaleRecord k s
  else if n = Rec.laneEnable then laneRecord k s
  else if n = Rec.program then le 1 s.alm.running
  else if n = Rec.profile then le 1 (s.fab.pend.getD s.fab.active)
  else []

/-- A record takes a value under its own rules; the program and the profile follow by their own way
(followProgram, followProfile). -/
def putRecord (k : RecKey) (r : List Byte) (s : State) : State :=
  let n := k.kind
  if n = Rec.strEnable ∨ n = Rec.stream then writeStream k r s
  else if n = Rec.object ∨ n = Rec.objEnable then writeObject k r s
  else if n = Rec.feed then writeFeed k r s
  else if n = Rec.tdm ∨ n = Rec.tdmMask then writeTdm k r s
  else if n = Rec.loop then writeLoop k r s
  else if n = Rec.zone then writeZone k r s
  else if n = Rec.biquad then writeBiquad k r s
  else if n = Rec.limiter ∨ n = Rec.compressor then writeDyn k r s
  else if n = Rec.gain then writeGain k r s
  else if n = Rec.sinkFade then writeSinkFade k r s
  else if n = Rec.busScale then writeBusScale k r s
  else if n = Rec.laneEnable then writeLane k r s
  else s

/-! ## Units (R89, R570) -/

/-- A coupled set of the unit is written and not consistent (Table 13-9). -/
def State.unitPending (s : State) (u : Nat) : Bool :=
  s.str.pendc.contains u || (s.dat.held.any fun h => h.1.unit == u && h.1.kind != Rec.loop) ||
    (unitClass u == 3 &&
      ((s.ser_ (unitIndex u)).pendc || !s.tdmOk (unitIndex u) (tdmWritten (s.ser_ (unitIndex u))))) ||
    (unitClass u == 4 && (s.object (unitIndex u)).pendc)

/-- The coupled set that a key belongs to is not consistent. -/
def State.keyPending (s : State) (k : RecKey) : Bool :=
  if k.kind = Rec.loop then (s.heldOf k).isSome
  else decide (k.unit ≠ 0xF000) && s.unitPending k.unit

/-- The role record of a unit: the record of its own that a datum or an overlay can change. -/
def roleRecord (s : State) (u : Nat) : List Byte :=
  let i := unitIndex u
  match unitClass u with
  | 1 => s.streamEntry u ++ ((s.rx i).run.flatMap fun v => le 2 v)
  | 2 => s.streamEntry u ++ ((s.tx i).run.flatMap fun v => le 2 v)
  | 3 => tdmWritten (s.ser_ i)
  | 4 => s.objRec i
  | 5 => s.feedRec i
  | 6 => le 8 (((s.runningProg.getD Prog.empty).bus.find? fun b => b.1 == i).elim 0 fun b => b.2.2 + 1)
  | 7 => (s.dynUnit i).set
  | 8 => le 1 (s.chan i).owner
  | 9 =>
    let q := s.queue i
    le 1 q.log2 ++ le 1 q.owner ++ le 2 q.producer ++ le 2 q.consumer
  | 10 => windowData s i
  | 11 =>
    let n := s.node i
    if n.fixed then le 2 n.vendor ++ le 2 n.model ++ le 8 n.serial else []
  | 12 => (s.wakePattern i).record
  | _ => []

/-- A unit has another role (R89): a bus that had none, or has none now, has no other one. -/
def anotherRole (u : Nat) (old new : List Byte) : Bool :=
  new != old && !(unitClass u == 6 && (old == le 8 0 || new == le 8 0))

/-- Units of a list whose role record is not `old` any more take their next generation (R89); `gens` are the
generations as they stood, so that one moved on the way does not count twice. -/
def State.bumpRoles (s : State) (old : Nat → List Byte) (gens : Tab Nat) (us : List Nat) : State :=
  let s := { s with host := { s.host with unitGens := gens } }
  us.foldl (fun s u => if anotherRole u (old u) (roleRecord s u) then s.bumpGen u else s) s

/-! ## DAT_FIELD (R552) -/

/-- A DAT_FIELD write outside the bounds of R552, or at a claimed entry or a SAFE object. -/
def fieldInvalid (s : State) (target : Nat) (p : List Byte) : Bool :=
  let set := u8 p 0
  let w := u8 p 1
  let o := u16 p 2
  let within := fun n => decide (o + w ≤ n)
  (w != 1 && w != 2 && w != 4) || o % w != 0 ||
    !(if set = 0 then
        match unitClass target with
        | 1 | 2 => within 128 && !s.claimedStream target
        | 3 => within 16
        | 4 => within 48 && !(s.object (unitIndex target)).safe
        | 5 => within 36
        | _ => false
      else decide (set ≤ 2) && target == 0xF000 && decide (1 ≤ o) && within 28)

/-! ## The program and the profile (R365, R366, R566) -/

/-- Highest active overlay that covers a kind of key. -/
def State.topLayer (s : State) (kind : Nat) : Option Nat :=
  (s.layers.filter fun n => (ovlPatches s n).any fun p => p.key.kind == kind).getLast?

def programKey : RecKey := { kind := Rec.program, unit := 0xF000, sub := 0 }
def profileKey : RecKey := { kind := Rec.profile, unit := 0xF000, sub := 0 }

/-- The bank whose program the layers ask for: the highest layer's, else the base program's. -/
def State.wantedBank (s : State) : Nat :=
  match s.topLayer Rec.program with
  | some n => (s.ovl n).bank
  | none => ((s.baseOf programKey).map fun b => u8 b 0).getD s.alm.running

/-- The profile the layers ask for. -/
def State.wantedProfile (s : State) : Nat :=
  let base := (s.baseOf profileKey).getD (recordOf profileKey s)
  u8 (s.layered profileKey base) 0

/-- The wanted program is swapped in at this boundary where another runs. -/
def State.followProgram (s : State) (window : Nat) : State :=
  if s.wantedBank = s.alm.running then s else s.scheduleSwap none s.time.ri window

/-- The wanted profile is requested where another is active or pending (R366). -/
def State.followProfile (s : State) : State :=
  let p := s.wantedProfile
  if p = s.fab.pend.getD s.fab.active then s else s.requestProfile p

/-- Budget of the profile that the layers ask for, with the program that they ask for (R365). -/
def State.layersOverBudget (s : State) : Bool :=
  let t := s.almMod fun a => { a with running := s.wantedBank }
  decide (s.wantedProfile ≠ s.fab.active) && (t.budgetFail s.wantedProfile).isSome

/-! ## Putting an overlay on and taking it off (R564-R566) -/

/-- Keys that an overlay covers. -/
def ovlKeys (s : State) (n : Nat) : List RecKey := ((ovlPatches s n).map Patch.key).eraseDups

/-- WINDOW of an overlay's ALM_SWAP. -/
def ovlWindow (s : State) (n : Nat) : Nat :=
  ((ovlEntries s n).find? fun e => e.op == 0x0602).elim 0 fun e => u16 e.params 0

/-- A key keeps its base value while layers cover it. -/
def State.coverKey (s : State) (k : RecKey) : State :=
  if (s.baseOf k).isSome then s else s.setBase k (some (recordOf k s))

/-- A key takes the value of the highest layer that covers it. -/
def State.refreshKey (s : State) (k : RecKey) : State :=
  match s.baseOf k with
  | some b => putRecord k (s.layered k b) s
  | none => s

/-- A key that no layer covers any more takes its base value (R566). -/
def State.uncoverKey (s : State) (k : RecKey) : State :=
  if s.layers.any fun n => (ovlKeys s n).contains k then s.refreshKey k
  else
    match s.baseOf k with
    | some b => (putRecord k b s).setBase k none
    | none => s

/-- Objects that active island-owned overlays name are SAFE, and no others (R425, R563). -/
def State.judgeSafe (s : State) : State :=
  let named := ((s.layers.filter (ovlIsland s)).flatMap fun n =>
    ((ovlEntries s n).filter fun e => unitClass e.target == 4).map fun e => unitIndex e.target).eraseDups
  let was := (s.obj.obj.filter fun o => o.2.safe).map (·.1)
  (named ++ was).foldl (fun s i =>
    let on := named.contains i
    if (s.object i).safe = on then s else s.modObject i fun x => { x with safe := on, due := true }) s

/-- Overlay `n` becomes the latest layer, and every key of it follows (R562, R564). -/
def State.stackOn (s : State) (n : Nat) : State :=
  let old := s
  let order := s.dat.orders + 1
  let s := { s with dat := { s.dat with orders := order } }
  let s := s.setOvl n { s.ovl n with
    active := true, suspended := false, waiting := false, resumeDue := none, order := order
    record := ovlRecord s n, bank := s.idleBank }
  let keys := ovlKeys s n
  let s := keys.foldl (fun t k =>
    if (t.baseOf k).isSome then t else t.setBase k (some (recordOf k old))) s
  let s := keys.foldl State.refreshKey s
  let s := (s.bumpRoles (roleRecord old) old.host.unitGens (keys.map RecKey.unit).eraseDups).judgeSafe
  (s.followProgram (ovlWindow s n)).followProfile

/-- Overlay `n` leaves the stack; `suspend`: it waits for a place (R565, R566). -/
def State.stackOff (s : State) (n : Nat) (suspend : Bool) : State :=
  let old := s
  let keys := ovlKeys s n
  let window := ovlWindow s n
  let s := s.setOvl n { s.ovl n with
    active := suspend, suspended := suspend, waiting := false, resumeDue := none
    record := if suspend then (s.ovl n).record else [] }
  let profile := if keys.contains profileKey then s.wantedProfile else s.fab.pend.getD s.fab.active
  let bank := if keys.contains programKey then s.wantedBank else s.alm.running
  let s := keys.foldl State.uncoverKey s
  let s := (s.bumpRoles (roleRecord old) old.host.unitGens (keys.map RecKey.unit).eraseDups).judgeSafe
  let s := if bank = s.alm.running then s else s.scheduleSwap none s.time.ri window
  if profile = s.fab.pend.getD s.fab.active then s else s.requestProfile profile

/-- The running program would have to swap while a swap is pending or runs (R399). -/
def State.swapStuck (s t : State) : Bool := s.alm.swap.isSome && t.alm.swap != s.alm.swap

end Sys2Proof.Machine
end

