-- ==== Sys2Proof/Machine/Overlay.lean ====
section
/-!
DEFINITION. Sys2Proof/Machine/Overlay.lean: overlay records, their checks, and the opcodes that store,
apply, remove and query them; staged fields (R546-R548, R561-R571, R576, Tables 13-2, 13-8, 13-13).
-/
namespace Sys2Proof.Machine

/-! ## Entries as commands (R546, Table 13-2) -/

/-- An entry as a command: GEN unchecked, no AT_RI (R546). -/
def Entry.req (e : Entry) (s : State) : Req :=
  { origin := .entry, slot := s.host.privSlot, k := 0, seq := 0, op := e.op, flags := 0
    target := e.target, gen := 0, params := e.params, at? := none, order := 0, mseq := none }

/-- Bodies of the opcodes that an overlay admits, but for DAT_PROFILE and DAT_FIELD. -/
def overlayBody (op : Nat) : Option Body :=
  match op with
  | 0x0302 => some strEnableBody
  | 0x0321 => some strTdmMaskBody
  | 0x0401 => some objSetBody
  | 0x0403 => some objEnableBody
  | 0x0404 => some objSetGainBody
  | 0x0405 => some objSetSourceBody
  | 0x0412 => some objZoneSetBody
  | 0x0502 => some feedTrimBody
  | 0x0510 => some corBiquadBody
  | 0x0520 => some corLimiterBody
  | 0x0521 => some corCompressorBody
  | 0x0602 => some almSwapBody
  | 0x0603 => some almSetGainBody
  | 0x0606 => some almSinkFadeBody
  | 0x0607 => some almBusScaleBody
  | 0x0609 => some almDirectEnableBody
  | _ => none

def overlayAdmits (op : Nat) : Bool := (overlayBody op).isSome || op == 0x0240 || op == 0x0241

/-- The checks that a command of the opcode meets before its own (R27, R670). -/
def entryCommon (s : State) (r : Req) : Option Nat :=
  match opInfo r.op with
  | none => some Status.badOpcode
  | some i =>
    firstFail
      [ (r.target != 0 && !validUnit r.target, Status.badParam),
        (!inCapacity s.fab.active r.target, Status.budget),
        (decide (r.params.length < i.plenLo) || decide (i.plenHi < r.params.length), Status.badLength),
        (!i.takes r.target, Status.badParam) ]

/-- What an opcode does to the state at its boundary, or the status it fails with. -/
def applyBody (body : Body) (r : Req) (s : State) : Except Nat State :=
  match body true r s with
  | .fail st _ => .error st
  | .deny => .error Status.noAccess
  | .done t _ => .ok t
  | .boundary => .ok s
  | .deferred t => .ok t
  | .hold _ t => .ok t
  | .both t _ => .ok t
  | .only f => .ok (f s)

/-- The own checks of one overlay entry. -/
def ovlEntryFail (s : State) (island : Bool) (e : Entry) : Option Nat :=
  let p := e.params
  if e.op = 0x0241 then
    if p.length ≠ 4 then some Status.badLength
    else if island ∨ e.target ≠ 0xF000 ∨ 4 < u8 p 0 ∨ zeroAt p 1 3 = false then some Status.badParam
    else none
  else if e.op = 0x0240 then
    if p.length ≠ 8 then some Status.badLength
    else if validUnit e.target = false ∨ fieldInvalid s e.target p = true then some Status.badParam
    else if inCapacity s.fab.active e.target = false then some Status.budget
    else none
  else
    let r := e.req s
    match entryCommon s r with
    | some st => some st
    | none =>
      match (overlayBody e.op).map fun b => applyBody b r s with
      | some (.error st) => some st
      | some (.ok _) => none
      | none => some Status.badParam

/-! ## Checks (R561-R563, R565) -/

/-- The header, length and CRC of a record (Table 13-8). -/
def ovlFrameFail (s : State) (n : Nat) : Option Nat :=
  let b := ovlBytes s n
  let len := Ov.len b
  firstFail
    [ (u32 b 0 != 0x594C564F || u16 b 4 != 1 || u16 b 6 != 32 || u64 b 8 == 0 || decide (len < 36) ||
        decide (16384 < len) || decide (2 ≤ u8 b 27) || !zeroAt b 30 2, Status.badParam),
      (u32 b (len - 4) != crc32c (b.take (len - 4)), Status.crc),
      (u64 b 16 != 0 && u64 b 16 != s.dat.id, Status.badParam),
      ((parseEntries (slice b 32 (len - 36)) (Ov.count b)).isNone, Status.badParam),
      (!(ovlEntries s n).all fun e => overlayAdmits e.op, Status.badParam) ]

/-- A coupled set that the overlay touches would not be consistent after stacking. -/
def ovlUncoupled (s : State) (n : Nat) : Bool := (ovlKeys s n).any (s.stackOn n).keyPending

/-- Statuses of an overlay's profile (R365, R478). -/
def ovlProfileFail (s : State) (n : Nat) : Option Nat :=
  let t := s.setOvl n { s.ovl n with
    active := true, suspended := false, order := s.dat.orders + 1, bank := s.idleBank }
  if (ovlKeys s n).contains profileKey = false then none
  else firstFail [(t.layersOverBudget, Status.budget), (s.partitionBusy t.wantedProfile, Status.busy)]

/-- Every check of R562 on an overlay that is to become active. -/
def ovlFail (s : State) (n : Nat) : Option Nat :=
  match ovlFrameFail s n with
  | some st => some st
  | none =>
    match (ovlEntries s n).findSome? (ovlEntryFail s (ovlIsland s n)) with
    | some st => some st
    | none =>
      match (if ovlUncoupled s n then some Status.coupling else ovlProfileFail s n) with
      | some st => some st
      | none => if s.swapStuck (s.stackOn n) then some Status.busy else none

/-- Overlays in force. -/
def State.activeCount (s : State) : Nat := s.layers.length

def ovlUnit (n : Nat) : Nat := 0xD000 + n

def State.ovlApplied (s : State) (n : Nat) (on : Bool) : State :=
  s.event 0x0203 Sev.notice 0x02 (ovlUnit n) (le 1 n ++ le 1 (b2n on))

def State.ovlFailed (s : State) (n status : Nat) : State :=
  s.event 0x0204 Sev.warning 0x02 (ovlUnit n) (le 1 n ++ zeros 1 ++ le 2 status)

def State.ovlSuspended (s : State) (n : Nat) (on : Bool) : State :=
  s.event 0x0205 Sev.warning 0x02 (ovlUnit n) (le 1 n ++ le 1 (b2n on))

/-! ## Storing and querying (R561, R563, R576) -/

/-- The bytes lie in one readable region of the address map. -/
def oneRegion (a n : Nat) : Bool :=
  let z := a + n - 1
  (isField a && isField z) || (isLong a && isLong z) || (isFlash a && isFlash z) || (isHostMem a && isHostMem z)

/-- DAT_OVL_STORE. A record with ISLAND needs level 3, and the service port while the safety lock is set. -/
def datOvlStoreBody : Body := fun _ r s =>
  let a := u64 r.params 0
  let n := u32 r.params 8
  let o := s.ovl r.index
  let b := s.sourceRead r a (min n 16384)
  let island := decide (28 ≤ n) && Ov.island b
  if zeroAt r.params 12 4 = false ∨ n = 0 ∨ 16384 < n ∨ oneRegion a n = false then .bad Status.badParam
  else if r.mayRead s a n = false then .bad Status.noAccess
  else if island = true ∧ r.origin = .host ∧ s.levelOf r.slot < 3 then .deny
  else if s.unmirrored r a n = true then .bad Status.pairRole
  else if island = true ∧ s.safetyLocked r = true then .bad Status.safetyLock
  else if s.isReady Rdy.longStore = false then .bad Status.notReady
  else if o.active = true ∨ o.waiting = true then .bad Status.busy
  else .done { s.setOvl r.index { o with stored := true } with mem := writeBytes s.mem (overlayBase r.index) b } []

/-- DAT_OVL_STORE (R561, R563, R576). -/
def execDatOvlStore (q : Nat) (s : State) : Host.Outcome State Fault Refusal :=
  commandRow "DAT_OVL_STORE" 0x0210 datOvlStoreBody q s

/-- Reply data of DAT_OVL_GET. -/
def datOvlGetData (r : Req) (s : State) : List Byte :=
  let o := s.ovl r.index
  let st := if !o.stored then 0 else if o.suspended then 3 else if o.active then 2 else 1
  le 1 st ++ zeros 3 ++ (if o.stored then (ovlBytes s r.index).take 32 else zeros 32)

def datOvlGetBody : Body := query datOvlGetData

/-- DAT_OVL_GET (R561). -/
def execDatOvlGet (q : Nat) (s : State) : Host.Outcome State Fault Refusal :=
  commandRow "DAT_OVL_GET" 0x0213 datOvlGetBody q s

/-! ## Host overlays (R562-R566) -/

/-- What refuses a host's DAT_OVL_APPLY; one in force already changes nothing. -/
def State.applyFail (s : State) (n : Nat) : Option Nat :=
  if (s.ovl n).stored = false then some Status.badParam
  else if ovlIsland s n then some Status.safetyLock
  else if (s.ovl n).active then none
  else if 4 ≤ s.activeCount then some Status.noSpace
  else ovlFail s n

def datOvlApplyBody : Body := fun _ r s =>
  match s.applyFail r.index with
  | some st => .bad st
  | none => .boundary

/-- DAT_OVL_APPLY (R562). -/
def execDatOvlApply (q : Nat) (s : State) : Host.Outcome State Fault Refusal :=
  commandRow "DAT_OVL_APPLY" 0x0211 datOvlApplyBody q s

/-- What refuses a DAT_OVL_REMOVE (R563, R566). -/
def State.removeFail (s : State) (n : Nat) : Option Nat :=
  let o := s.ovl n
  let t := s.setOvl n { o with active := false, suspended := false }
  if ovlIsland s n = true ∧ o.stored = true then some Status.safetyLock
  else if o.active = false then none
  else if (ovlKeys s n).contains profileKey = true ∧ t.layersOverBudget = true then some Status.budget
  else if s.swapStuck (s.stackOff n false) then some Status.busy
  else none

def datOvlRemoveBody : Body := fun _ r s =>
  match s.removeFail r.index with
  | some st => .bad st
  | none => .boundary

/-- DAT_OVL_REMOVE (R566). -/
def execDatOvlRemove (q : Nat) (s : State) : Host.Outcome State Fault Refusal :=
  commandRow "DAT_OVL_REMOVE" 0x0212 datOvlRemoveBody q s

/-- Suspended host overlays, lowest layer first. -/
def State.suspendedOvls (s : State) : List Nat :=
  ((List.range 64).filter fun n => (s.ovl n).suspended).foldl (fun acc n => insertLayer s n acc) []

/-- Island overlays that wait for a place (R565). -/
def State.waitingOvls (s : State) : List Nat := (List.range 64).filter fun n => (s.ovl n).waiting

/-- Places that have come free call the highest suspended overlays back at the next boundary, once the
island's own have theirs (R565). -/
def State.callBack (s : State) : State :=
  let free := 4 - s.activeCount - s.waitingOvls.length
  (s.suspendedOvls.reverse.take free).foldl (fun s n =>
    if (s.ovl n).resumeDue.isSome then s
    else s.setOvl n { s.ovl n with resumeDue := some s.nextBoundary }) s

/-- Remove an overlay at this boundary. -/
def State.removeOvl (s : State) (n : Nat) : State :=
  let o := s.ovl n
  if o.suspended then (s.setOvl n { o with active := false, suspended := false, resumeDue := none, record := [] }).ovlApplied n false
  else if o.active then ((s.stackOff n false).ovlApplied n false).callBack
  else s

/-- Apply an overlay at this boundary, its checks made. -/
def State.applyOvl (s : State) (n : Nat) : State := if (s.ovl n).active then s else (s.stackOn n).ovlApplied n true

/-- Commands due at or before this boundary, in order of acceptance (R86). -/
def State.dueCommands (s : State) : List Pending := s.host.pending.filter fun p => decide (p.due ≤ s.time.ri)

def State.dropPending (s : State) (p : Pending) : State :=
  { s with host := { s.host with pending := s.host.pending.erase p } }

/-- An overlay command applies by its own row, in its place among the commands due (R568). -/
def Pending.isOverlay (p : Pending) : Bool := p.req.op == 0x0211 || p.req.op == 0x0212

/-- The first command due is the overlay command `op` of overlay `n`: it is rechecked, and applies. -/
def State.overlayBoundary (s : State) (op n : Nat) : State :=
  match s.dueCommands with
  | [] => s
  | p :: _ =>
    if p.req.op ≠ op ∨ p.req.index ≠ n then s
    else
      let s := s.dropPending p
      let stale := p.req.gen != 0 && p.req.gen != s.genOf p.req.target
      match (if stale then some Status.staleRole
             else if op = 0x0211 then s.applyFail n else s.removeFail n) with
      | some st => (if op = 0x0211 then s.ovlFailed n st else s).finish p.req st []
      | none => (if op = 0x0211 then s.applyOvl n else s.removeOvl n).finish p.req Status.ok []

/-- OVERLAY_APPLY_BOUNDARY (R562, R568). -/
def execOverlayApplyBoundary (n : Nat) (s : State) : Host.Outcome State Fault Refusal :=
  ran (decide (n < 64)) "OVERLAY_APPLY_BOUNDARY" s (s.overlayBoundary 0x0211 n)

/-- OVERLAY_REMOVE_BOUNDARY (R566, R568). -/
def execOverlayRemoveBoundary (n : Nat) (s : State) : Host.Outcome State Fault Refusal :=
  ran (decide (n < 64)) "OVERLAY_REMOVE_BOUNDARY" s (s.overlayBoundary 0x0212 n)

/-- A suspended overlay meets the boundary after a place came free: its checks are repeated (R565). -/
def State.resumeOvl (s : State) (n : Nat) : State :=
  let o := s.ovl n
  match o.resumeDue with
  | none => s
  | some b =>
    if !o.suspended || decide (s.time.ri < b) then s
    else if 4 ≤ s.activeCount then s.setOvl n { o with resumeDue := none }
    else
      let t := s.setOvl n { o with active := false, suspended := false, resumeDue := none }
      match ovlFail t n with
      | some st => (t.setOvl n { t.ovl n with record := [] }).ovlFailed n st
      | none => (t.stackOn n).ovlSuspended n false

/-- OVERLAY_RESUME (R565). -/
def execOverlayResume (n : Nat) (s : State) : Host.Outcome State Fault Refusal :=
  ran (decide (n < 64)) "OVERLAY_RESUME" s (s.resumeOvl n)

/-! ## Island-owned overlays (R563, R565) -/

/-- The lowest host overlay in force. -/
def State.lowestHost (s : State) : Option Nat := s.layers.find? fun n => !ovlIsland s n

/-- The lowest host overlay gives up its place (R565). -/
def State.suspendLowest (s : State) : State :=
  match s.lowestHost with
  | some h => (s.stackOff h true).ovlSuspended h true
  | none => s

/-- The island applies overlay `n` at this boundary; the result says whether it is in force. An overlay that
finds no place waits, and is reported once. -/
def State.islandApply (s : State) (n : Nat) : State × Bool :=
  let o := s.ovl n
  let wait := fun st => (if o.waiting then s else (s.ovlFailed n st), false)
  if o.active then (s, true)
  else if o.stored = false ∨ ovlIsland s n = false then wait Status.badParam
  else if 4 ≤ s.activeCount ∧ s.lowestHost.isNone then
    ((wait Status.noSpace).1.setOvl n { o with waiting := true }, false)
  else
    let t := if 4 ≤ s.activeCount then s.suspendLowest else s
    match ovlFail t n with
    | some st => (s.ovlFailed n st, false)
    | none => (t.applyOvl n, true)

/-! ## Staged fields (R571) -/

def State.stage (s : State) (i : Nat) : List (Nat × List Byte) := tget [] s.dat.stages i

def State.setStage (s : State) (i : Nat) (l : List (Nat × List Byte)) : State :=
  { s with dat := { s.dat with stages := tput [] s.dat.stages i l } }

def datStageBody : Body := fun _ r s =>
  if fieldInvalid s r.target r.params then .bad Status.badParam
  else if 256 ≤ (s.stage r.slot).length then .bad Status.noSpace
  else .done (s.setStage r.slot (s.stage r.slot ++ [(r.target, r.params)])) []

/-- DAT_STAGE (R552, R571). -/
def execDatStage (q : Nat) (s : State) : Host.Outcome State Fault Refusal :=
  commandRow "DAT_STAGE" 0x0220 datStageBody q s

/-- Patches of a slot's stage. -/
def State.stagePatches (s : State) (i : Nat) : List Patch := (s.stage i).flatMap fun w => fieldPatches w.1 w.2

/-- Every staged write, each on the base value of its key (R567, R571). -/
def State.commitStage (s : State) (i : Nat) : State :=
  (s.stagePatches i).foldl (fun s p => s.putPatch recordOf putRecord p) s

def datCommitBody : Body := fun atB r s =>
  let t := s.commitStage r.slot
  if zeroAt r.params 2 2 = false ∨ u16 r.params 0 ≠ (s.stage r.slot).length then .bad Status.badParam
  else if s.islandCovers (s.stagePatches r.slot) ∨
      (s.stage r.slot).any (fun w => unitClass w.1 == 4 && (s.object (unitIndex w.1)).safe) then
    .bad Status.safetyLock
  else if (s.stagePatches r.slot).any fun p => t.keyPending p.key then .bad Status.coupling
  else if atB then .done (t.setStage r.slot []) []
  else .boundary

/-- DAT_COMMIT (R571). -/
def execDatCommit (q : Nat) (s : State) : Host.Outcome State Fault Refusal :=
  commandRow "DAT_COMMIT" 0x0221 datCommitBody q s

def datDiscardBody : Body := fun _ r s => .done (s.setStage r.slot []) []

/-- DAT_DISCARD (R571). -/
def execDatDiscard (q : Nat) (s : State) : Host.Outcome State Fault Refusal :=
  commandRow "DAT_DISCARD" 0x0222 datDiscardBody q s

end Sys2Proof.Machine
end

