-- ==== Sys2Proof/Machine/DatumImage.lean ====
section
/-!
DEFINITION. Sys2Proof/Machine/DatumImage.lean: the datum image, its checks, the reset state of the tables
that a datum starts from, and the tables its entries build (R44, R122, R123, R546-R554, R557, Tables
13-2 to 13-4, 13-7).
-/
namespace Sys2Proof.Machine

/-! ## The image (R553, Table 13-4) -/

namespace Dm
def id (b : List Byte) : Nat := u64 b 8
def len (b : List Byte) : Nat := u32 b 16
def count (b : List Byte) : Nat := u32 b 20
def entOff (b : List Byte) : Nat := u32 b 24
def entLen (b : List Byte) : Nat := u32 b 28
def blobOff (b : List Byte) : Nat := u32 b 32
def blobLen (b : List Byte) : Nat := u32 b 36
def entryBytes (b : List Byte) : List Byte := slice b (entOff b) (entLen b)
def entries (b : List Byte) : List Entry := (parseEntries (entryBytes b) (count b)).getD []
/-- The DAT_PROFILE entry's profile and render loop. -/
def profile (b : List Byte) : Nat := ((entries b).find? fun e => e.op == 0x0241).elim 0 fun e => u8 e.params 0
def render (b : List Byte) : Nat := ((entries b).find? fun e => e.op == 0x0241).elim 1 fun e => u8 e.params 1
end Dm

/-- Largest image (R553). -/
def imageMost : Nat := 67108864

def headerBad (b : List Byte) (n : Nat) : Bool :=
  decide (n < 68) || decide (imageMost < n) || u32 b 0 != 0x4D555444 || u16 b 4 != 1 || u16 b 6 != 64 ||
    Dm.id b == 0 || Dm.len b != n || Dm.entOff b % 8 != 0 || decide (Dm.entOff b < 64) ||
    decide (n < Dm.entOff b + Dm.entLen b + 4) || Dm.blobOff b % 8 != 0 ||
    decide (n < Dm.blobOff b + Dm.blobLen b + 4) || (Dm.blobOff b == 0 && Dm.blobLen b != 0) || !zeroAt b 40 24

/-- Entries framed under R547 at the front of `b`, up to `n`. -/
def framedEntries (b : List Byte) : Nat → Nat
  | 0 => 0
  | n + 1 =>
    let plen := u16 b 4
    let span := entrySpan plen
    if b.length < span ∨ b.length < 8 ∨ u16 b 6 ≠ 0 ∨ (slice b (8 + plen) (span - 8 - plen)).any (· != 0) then 0
    else framedEntries (b.drop span) n + 1

/-- Bodies of the opcodes that a datum admits and that are commands, but for ALM_LOAD and
OBJ_MESH_LOAD, whose images lie in the datum (Table 13-2). -/
def datumBody (op : Nat) : Option Body :=
  match op with
  | 0x0105 => some sysSetWindowBody
  | 0x0106 => some sysAssignChannelBody
  | 0x0141 => some sysFabSetMarginBody
  | 0x0170 => some sysGpioConfigBody
  | 0x0301 => some strBindBody
  | 0x0303 => some strSetMapBody
  | 0x0305 => some strAsrcConfigBody
  | 0x0320 => some strTdmConfigBody
  | 0x0322 => some strAesConfigBody
  | 0x0323 => some strWclkConfigBody
  | 0x0410 => some objRenderConfigBody
  | 0x0501 => some feedSetBody
  | 0x0503 => some corAllocBody
  | 0x0504 => some corSwapBody
  | 0x0522 => some corLimitDelayBody
  | 0x0605 => some almSetConfigBody
  | 0x0608 => some almDirectSetBody
  | 0x060C => some almTestgenBody
  | 0x0705 => some merServoBody
  | 0x070A => some merSetLateToleranceBody
  | 0x070B => some merPortDelayBody
  | 0x0710 => some merLoopConfigBody
  | 0x0900 => some netPortConfigBody
  | 0x0903 => some netSetRuleBody
  | 0x0904 => some netSetMcastBody
  | 0x0905 => some netSetWakeBody
  | 0x0910 => some netFbConfigBody
  | 0x0602 => none
  | op => overlayBody op

/-- Opcodes 0x0240 to 0x0247 (Table 13-3). -/
def datumOnly (op : Nat) : Bool := decide (0x0240 ≤ op) && decide (op ≤ 0x0247)

def datumAdmits (op : Nat) : Bool := (datumBody op).isSome || op == 0x0601 || op == 0x0413 || datumOnly op

/-! ## Entries that are no commands (Table 13-3) -/

/-- A producer or consumer code (R549). -/
def roleCodeOk (v : Nat) : Bool :=
  decide (v < 8) || (decide (0x100 ≤ v) && decide (v < 0x120)) || v == 0x200 || v == 0x300

/-- Cells of the assignable banks (R122). -/
def State.assignedCells (s : State) : Nat :=
  (s.queues.filter fun q => decide (128 ≤ q.1) && decide (q.1 < 240)).foldl
    (fun n q => n + if q.2.log2 = 0 then 0 else 2 * 2 ^ q.2.log2) 0

/-- DAT_QUEUE (R122, R549). -/
def datQueue (q : Nat) (p : List Byte) (s : State) : Except Nat State :=
  let log := u8 p 0
  let prod := u16 p 4
  let cons := u16 p 6
  let t := s.setQueue q { s.queue q with log2 := log, owner := u8 p 1, producer := prod, consumer := cons }
  if q < 128 ∨ 240 ≤ q ∨ (log ≠ 0 ∧ log < 4) ∨ 12 < log ∨ 7 < u8 p 1 ∨ zeroAt p 2 2 = false ∨
      zeroAt p 8 4 = false then .error Status.badParam
  else if log = 0 ∧ (prod ≠ 0xFFFF ∨ cons ≠ 0xFFFF) then .error Status.badParam
  else if log ≠ 0 ∧ (roleCodeOk prod && roleCodeOk cons) = false then .error Status.badParam
  else if 17408 < t.assignedCells then .error Status.badParam
  else .ok t

/-- DAT_RESERVE (R44, R550). -/
def datReserve (p : List Byte) (s : State) : Except Nat State :=
  let f := u16 p 0
  let n := u16 p 2
  let use := u8 p 4
  if f < 864 ∨ n = 0 ∨ 1024 < f + n ∨ use = 0 ∨ 3 < use ∨ zeroAt p 5 3 = false ∨
      (s.dat.reserve.any fun r => decide (f < r.1 + r.2.1) && decide (r.1 < f + n)) = true then .error Status.badParam
  else .ok { s with dat := { s.dat with reserve := s.dat.reserve ++ [(f, n, use)] } }

/-- DAT_NETWORK (R208). -/
def datNetwork (p : List Byte) (s : State) : Except Nat State :=
  if 2 < u8 p 0 ∨ 1 < u8 p 1 ∨ 2 < u8 p 2 ∨ 32 < u8 p 3 ∨ 128 < u8 p 12 ∨ zeroAt p 13 3 = false then .error Status.badParam
  else .ok { s with dat := { s.dat with network := tput [] s.dat.network (u8 p 0) p } }

/-- One line of DAT_NODE_TABLE: index, vendor, model, serial. -/
def nodeLine (p : List Byte) (i : Nat) : Nat × Nat × Nat × Nat :=
  (u8 p (4 + 16 * i), u16 p (6 + 16 * i), u16 p (8 + 16 * i), u64 p (12 + 16 * i))

/-- A listed index is reserved for its identity (R242, R550). -/
def State.fixNode (s : State) (x : Nat × Nat × Nat × Nat) : State :=
  let n := s.node x.1
  let same := n.known && n.vendor == x.2.1 && n.model == x.2.2.1 && n.serial == x.2.2.2
  s.setNode x.1 (if same then { n with fixed := true } else
    { FbNode.reset with vendor := x.2.1, model := x.2.2.1, serial := x.2.2.2, known := true, fixed := true })

/-- DAT_NODE_TABLE (R242, R550). -/
def datNodeTable (p : List Byte) (s : State) : Except Nat State :=
  let n := u8 p 0
  let lines := (List.range n).map (nodeLine p)
  if 32 < n ∨ zeroAt p 1 3 = false then .error Status.badParam
  else if p.length ≠ 4 + 16 * n then .error Status.badLength
  else if (lines.any fun x => decide (31 < x.1)) = true ∨ hasRepeat (lines.map (·.1)) = true ∨
      ((List.range n).any fun i => u8 p (5 + 16 * i) != 0 || !zeroAt p (10 + 16 * i) 2) = true then
    .error Status.badParam
  else .ok (lines.foldl State.fixNode s)

/-- A destination of DAT_BLOB: slots of banks that earlier entries allocated, or the general region
(R551). -/
def State.blobTarget (s : State) (a n : Nat) : Bool :=
  (decide (0x3E6000000 ≤ a) && decide (a + n ≤ 0x400000000)) ||
    (s.slotsHeld none).any fun h => decide (slotAddr h.1 ≤ a) && decide (a + n ≤ slotAddr (h.1 + h.2))

/-- DAT_BLOB (R551). -/
def datBlob (img p : List Byte) (s : State) : Except Nat State :=
  let a := u64 p 0
  let o := u32 p 8
  let n := u32 p 12
  if img.length < o + n ∨ s.blobTarget a n = false then .error Status.badParam
  else .ok { s with mem := writeBytes s.mem a (slice img o n) }

/-- ALM_LOAD of a datum: bank 0 takes the image and its program runs (R546, R554). -/
def datProgram (img p : List Byte) (s : State) : Except Nat State :=
  let o := u64 p 0
  let n := u32 p 8
  let b := slice img o n
  if zeroAt p 12 4 = false ∨ n = 0 ∨ img.length < o + n then .error Status.badParam
  else
    match (if 524292 < n then some (1, 0) else programCheck s b) with
    | some (c, _) => .error (progStatus c)
    | none =>
      let g := parseProg b
      let s := (s.setAlmBank 0 { state := 2, image := b }).almMod fun t => { t with running := 0, active := true }
      let s := s.initGains g []
      .ok (s.almMod fun t => { t with prog := s.startProg g Prog.empty ProgState.reset })

/-- OBJ_MESH_LOAD of a datum (R435, R546); a length of 0 unloads. -/
def datMesh (img p : List Byte) (s : State) : Except Nat State :=
  let o := u64 p 0
  let n := u32 p 8
  let b := slice img o n
  if zeroAt p 12 4 = false ∨ img.length < o + n then .error Status.badParam
  else
    match (if n = 0 then none else s.meshCheck b n) with
    | some (_, st, _) => .error st
    | none => .ok (s.objMod fun t => { t with newMesh := some b }).adoptMesh

/-- Parameter length of a datum-only entry. -/
def datumOnlyLen (op : Nat) (p : List Byte) : Bool :=
  match op with
  | 0x0240 => p.length == 8
  | 0x0241 => p.length == 4
  | 0x0242 => p.length == 12
  | 0x0243 => p.length == 8
  | 0x0244 => p.length == 48
  | 0x0245 => p.length == 48
  | 0x0246 => decide (4 ≤ p.length)
  | _ => p.length == 16

/-- A datum-only entry on the state built so far. -/
def datumOnlyEntry (img : List Byte) (e : Entry) (s : State) : Except Nat State :=
  let p := e.params
  if datumOnlyLen e.op p = false then .error Status.badLength
  else if e.op = 0x0240 then
    if validUnit e.target = false ∨ fieldInvalid s e.target p = true then .error Status.badParam
    else if inCapacity s.fab.active e.target = false then .error Status.budget
    else .ok ((fieldPatches e.target p).foldl (fun s x => s.putPatch recordOf putRecord x) s)
  else if e.op = 0x0242 then
    if unitClass e.target = 9 ∧ validUnit e.target = true then datQueue (unitIndex e.target) p s
    else .error Status.badParam
  else if e.target ≠ 0xF000 then .error Status.badParam
  else
    match e.op with
    | 0x0241 =>
      if 4 < u8 p 0 ∨ u8 p 1 = 0 ∨ 2 < u8 p 1 ∨ zeroAt p 2 2 = false then .error Status.badParam else .ok s
    | 0x0243 => datReserve p s
    | 0x0244 => datNetwork p s
    | 0x0245 => .ok { s with dat := { s.dat with name := p } }
    | 0x0246 => datNodeTable p s
    | _ => datBlob img p s

/-- One entry's checks and effect on the state that the entries before it built (Table 13-7 check 5). -/
def datumEntry (img : List Byte) (e : Entry) (s : State) : Except Nat State :=
  if datumOnly e.op then datumOnlyEntry img e s
  else
    let r := e.req s
    match entryCommon s r with
    | some st => .error st
    | none =>
      if e.op = 0x0601 then datProgram img e.params s
      else if e.op = 0x0413 then datMesh img e.params s
      else
        match datumBody e.op with
        | some b => applyBody b r s
        | none => .error Status.badParam

/-! ## The reset state of the tables (R554) -/

/-- Tables of audio processing at their reset values. Streams that the island has claimed keep their
entries (R260), and fetches, blocks in flight and what the output edge has presented stand. -/
def State.resetAudio (s : State) : State :=
  let alm := s.alm
  { s with
    gpio := []
    str := { StrPart.reset with
      rx := s.str.rx.filter fun x => Ent.island x.2.entry
      tx := s.str.tx.filter fun x => Ent.island x.2.entry
      sdp := s.str.sdp, arp := s.str.arp, joined := s.str.joined, adpAt := s.str.adpAt, adpIdx := s.str.adpIdx }
    ser := SerPart.reset
    alm := { AlmPart.reset with
      bank := if alm.load.isSome then [(1, { state := 1, image := [] })] else []
      load := alm.load.map fun f => { f with bank := 1 }
      gen := seedGens, flight := alm.flight, edge := alm.edge, cover := alm.cover, laneOut := alm.laneOut
      hist := alm.hist, histEnd := alm.histEnd, quarter := alm.quarter }
    obj := { ObjPart.reset with load := s.obj.load }
    cor := { CorPart.reset with compact := s.cor.compact }
    dat := { s.dat with base := [], held := [], stages := [] } }

/-- A slot's window as after main reset (R96). -/
def State.resetWindow (s : State) (i : Nat) : State :=
  if i = s.host.privSlot then s else s.modSlot i fun x => { x with level := 0, mem := [], units := [] }

/-- An idle channel has no owner; one that runs keeps its owner (R104). -/
def State.resetOwner (s : State) (c : Nat) : State :=
  if (s.chan c).state = .idle then s.modChan c fun x => { x with owner := 0xFF } else s

/-- An assignable queue is disabled, its contents kept for a datum that gives it the same banks. -/
def State.resetAssign (s : State) (i : Nat) : State :=
  s.setQueue (128 + i) { s.queue (128 + i) with log2 := 0, owner := 0, producer := 0xFFFF, consumer := 0xFFFF }

/-- The other tables that entries write, at their reset values. -/
def State.resetConfig (s : State) : State :=
  let s := (List.range 8).foldl State.resetWindow s
  let s := (List.range 32).foldl State.resetOwner s
  let s := (List.range 112).foldl State.resetAssign s
  let s := s.fabMod fun f => { f with target := 150, hyst := 100, shedMax := 16 }
  let node := s.net.fb.node.map fun n => (n.1, { n.2 with fixed := false })
  let port := s.net.port.map fun p => (p.1, { p.2 with mcast := [] })
  { s with
    net := { s.net with rules := [], wake := [], port := port, fb := { s.net.fb with node := node } }
    dat := { s.dat with reserve := [], network := [], name := [] } }

/-- A port's settings before any NET_PORT_CONFIG (Table 15-8). -/
def portDefault (p : Nat) : List Byte :=
  if p = 2 then le 1 2 ++ [0x10, 0x09, 0] ++ le 2 1522 ++ le 2 50 else le 1 p ++ [0xFF, 0, 0] ++ le 2 1522 ++ le 2 50

/-- Ports and field bus that no entry configures return to their reset settings. -/
def State.defaultPorts (s : State) (es : List Entry) : State :=
  let s := ((List.range 3).filter fun p =>
    !es.any fun e => e.op == 0x0900 && u8 e.params 0 == p).foldl (fun s p => s.configPort (portDefault p)) s
  if es.any fun e => e.op == 0x0910 then s
  else s.fbMod fun f => { FieldBus.reset with
    node := f.node, cseq := f.cseq, aseq := f.aseq, lastCall := f.lastCall, lastBeacon := f.lastBeacon }

/-- The state in which a datum's first entry is judged: tables at reset, the named profile and render
loop (R554, Table 13-7 check 5). -/
def State.datumStart (s : State) (p render : Nat) : State :=
  let s := (s.resetAudio.resetConfig).fabMod fun f => { f with active := p }
  { s with
    time := { s.time with render := render }
    dat := { s.dat with building := true, ovl := [] } }

/-! ## Checks (Table 13-7) -/

/-- A failed check: status, check code, entry index. -/
abbrev DatumFail := Nat × Nat × Nat

/-- Entries in order, each on what the ones before it built; the first failure with its index. -/
def buildDatum (img : List Byte) (k : Nat) (s : State) : List Entry → Except DatumFail State
  | [] => .ok s
  | e :: es =>
    match datumEntry img e s with
    | .error st => .error (st, 5, k)
    | .ok t => buildDatum img (k + 1) t es

/-- A coupled set is not consistent in the final state (check 6). -/
def State.uncoupled (s : State) : Bool :=
  !s.dat.held.isEmpty || !s.str.pendc.isEmpty || (s.ser.port.any fun x => x.2.pendc) ||
    (s.obj.obj.any fun x => x.2.pendc) || (List.range 16).any fun p =>
      !(s.ser_ p).set.isEmpty && !s.tdmOk p (tdmWritten (s.ser_ p))

/-- The named profile's budget fails on the final state (R365, check 7). -/
def State.datumOverBudget (s : State) : Bool :=
  (s.budgetFail s.fab.active).isSome ||
    (s.feedsIn s.fab.active).any fun x => x.2.running.nslot != 0 && x.2.running.ps != profPart s.fab.active

/-- Checks 2 to 7 of an image of `n` bytes, in order. -/
def datumFail (s : State) (b : List Byte) (n : Nat) : Option DatumFail :=
  let k := framedEntries (Dm.entryBytes b) (Dm.count b)
  let es := Dm.entries b
  let odd := es.findIdx? fun e => !datumAdmits e.op
  let profiles := (es.zipIdx.filter fun x => x.1.op == 0x0241).map (·.2)
  if b.length ≠ n ∨ headerBad b n = true then some (Status.badParam, 2, 0)
  else if u32 b (n - 4) ≠ crc32c (b.take (n - 4)) then some (Status.crc, 3, 0)
  else if (parseEntries (Dm.entryBytes b) (Dm.count b)).isNone then some (Status.badParam, 4, k)
  else if odd.isSome then some (Status.badParam, 4, odd.getD 0)
  else if profiles.length ≠ 1 then some (Status.badParam, 4, profiles.getD 1 0)
  else
    match buildDatum b 0 (s.datumStart (min 4 (Dm.profile b)) (Dm.render b)) es with
    | .error f => some f
    | .ok t =>
      let t := (t.judgeSets).judgeObjects
      if t.uncoupled then some (Status.coupling, 6, 0)
      else if t.datumOverBudget then some (Status.budget, 7, 0)
      else none

/-! ## Applying (Table 13-6 step 5) -/

/-- Entries in order; one that fails now, as it did not at CHECK, is passed over. -/
def applyEntries (img : List Byte) (s : State) (es : List Entry) : State :=
  es.foldl (fun s e =>
    match datumEntry img e s with
    | .ok t => t
    | .error _ => s) s

/-- An assignable queue keeps its contents where its bank size stays, and is reset where it changes
(R123, R140). -/
def State.mergeQueue (s old : State) (i : Nat) : State :=
  let q := 128 + i
  let x := s.queue q
  if x.log2 = (old.queue q).log2 then s else s.setQueue q { (old.queue q).emptied with
    log2 := x.log2, owner := x.owner, producer := x.producer, consumer := x.consumer }

/-- Reserve banks whose use the new datum changes are cleared (R44). -/
def State.clearReserve (s old : State) : State :=
  if s.dat.reserve = old.dat.reserve then s
  else { s with
    mem := s.mem.filter fun x =>
    !(inRange x.1 0x16C00000 0x17FFFFFF && reserveUse s (fieldBank x.1) != reserveUse old (fieldBank x.1)) }

/-- Every unit that has a role record. -/
def roleUnits : List Nat :=
  let cls := fun c n => (List.range n).map fun i => 4096 * c + i
  cls 1 512 ++ cls 2 512 ++ cls 3 16 ++ cls 4 512 ++ cls 5 1024 ++ cls 6 256 ++ cls 7 1280 ++ cls 8 36
    ++ (cls 9 240).drop 128 ++ cls 10 8 ++ cls 11 32 ++ cls 12 8

/-- Role records that are not as the reset tables have them. -/
def State.roleList (s : State) : List (Nat × List Byte) :=
  let t := s.resetAudio.resetConfig
  (roleUnits.map fun u => (u, roleRecord s u)).filter fun x => x.2 != roleRecord t x.1

/-- A role record as it stood at B (R557). -/
def State.roleBefore (s : State) (u : Nat) : List Byte :=
  ((s.dat.roles.find? fun x => x.1 == u).map (·.2)).getD (roleRecord s.resetAudio.resetConfig u)

/-- The tables of a datum, built from the reset state; the profile waits for the boundary (Table 13-6
steps 5 and 6). -/
def State.writeDatum (s : State) (img : List Byte) : State :=
  let es := Dm.entries img
  let old := s
  let s := applyEntries img ((s.defaultPorts es).datumStart (min 4 (Dm.profile img)) (Dm.render img)) es
  let s := (s.judgeSets).judgeObjects
  let s := (List.range 112).foldl (fun s i => s.mergeQueue old i) s
  let s := (s.clearReserve old).placeEngines
  let s := { (s.fabMod fun f => { f with active := old.fab.active }) with
    dat := { s.dat with building := false, ovl := old.dat.ovl } }
  (s.bumpRoles old.roleBefore old.host.unitGens roleUnits).bumpGen 0xF000

end Sys2Proof.Machine
end

