-- ==== Sys2Proof/Machine/Datum.lean ====
section
/-!
DEFINITION. Sys2Proof/Machine/Datum.lean: loading a datum through its phases, writing it to flash, and its
status (R556-R560, R576, Tables 13-5 to 13-7).
-/
namespace Sys2Proof.Machine

/-! ## Places (Tables 13-5, 15-2) -/

/-- First byte of the flash datum slot, and its size in a flash of 512 Mbit (R616). -/
def flashDatum : Nat := 0x21100000
def flashDatumSize : Nat := 0x2EF0000

def State.idleSlot (s : State) : Nat := datumSlotBase (1 - s.dat.running)
def State.datMod (s : State) (f : DatPart → DatPart) : State := { s with dat := f s.dat }

/-- The image in the idle slot. -/
def State.idleImage (s : State) : List Byte :=
  let n := leNat (readBytes s.mem (s.idleSlot + 16) 4)
  readBytes s.mem s.idleSlot (min n imageMost)

/-! ## DAT_STATUS -/

def unitWords (l : List Nat) (n : Nat) : List Byte :=
  ((l.map ovlUnit ++ List.replicate n 0xFFFF).take n).flatMap fun u => le 2 u

/-- Reply data of DAT_STATUS. -/
def datStatusData (r : Req) (s : State) : List Byte :=
  let d := s.dat
  le 8 d.id ++ le 1 d.phase ++ le 1 d.running ++ zeros 2 ++ unitWords s.layers.reverse 4
    ++ unitWords s.suspendedOvls.reverse 1 ++ zeros 2 ++ le 4 (s.stage r.slot).length

def datStatusBody : Body := query datStatusData

/-- DAT_STATUS (R556). -/
def execDatStatus (q : Nat) (s : State) : Host.Outcome State Fault Refusal :=
  commandRow "DAT_STATUS" 0x0200 datStatusBody q s

/-! ## Beginning a load (R556) -/

/-- A load enters FETCH. From flash its length is the image's own. -/
def State.beginLoad (s : State) (req : Option Req) (source addr len : Nat) : State :=
  let n := if source = 1 then leNat (readBytes s.mem (flashDatum + 16) 4) else len
  let a := if source = 1 then flashDatum else addr
  s.datMod fun d => { d with
    phase := 1, boundary := none, applied := false
    job := some { req := req, source := source, addr := a, len := n, since := s.time.elapsed } }

def datLoadBody : Body := fun _ r s =>
  let src := u8 r.params 0
  if 1 < src ∨ zeroAt r.params 1 3 = false then .bad Status.badParam
  else if s.isReady Rdy.longStore = false ∨ s.isReady Rdy.fieldStore = false then .bad Status.notReady
  else if s.dat.phase ≠ 0 then .bad Status.busy
  else .deferred (s.beginLoad (some r) src (u64 r.params 4) (u32 r.params 12))

/-- DAT_LOAD (R556). -/
def execDatLoad (q : Nat) (s : State) : Host.Outcome State Fault Refusal :=
  commandRow "DAT_LOAD" 0x0201 datLoadBody q s

/-- The load's command may read its source (Table 13-7 check 1). -/
def State.sourceGranted (s : State) (j : LoadJob) : Bool :=
  match j.req with
  | some r => decide (j.source = 1) || r.mayRead s j.addr j.len
  | none => true

/-- The source is readable as a whole: an address in one region, or the flash datum slot. -/
def LoadJob.readable (j : LoadJob) : Bool :=
  if j.source = 1 then decide (j.len ≤ flashDatumSize) else decide (j.len ≠ 0) && oneRegion j.addr j.len

/-- The bytes of a load's source. -/
def LoadJob.bytes (j : LoadJob) (s : State) : List Byte :=
  match j.req with
  | some r => s.sourceRead r j.addr (min j.len imageMost)
  | none => busRead s j.addr (min j.len imageMost)

/-- A pair mirrors the fetch and the command, its source rewritten to the idle slot (R592). -/
def State.mirrorLoad (s : State) (j : LoadJob) : State :=
  match j.req with
  | none => s
  | some r =>
    if s.pair.mirroring = true ∧ r.origin = .host ∧ r.pairLocal = false ∧ s.pair.peerLoad = false then
      let n := min j.len imageMost
      let s := s.mirrorWrite s.idleSlot (readBytes s.mem s.idleSlot n) (n / 8952 + 1)
      let p := zeros 4 ++ le 8 s.idleSlot ++ le 4 j.len
      let r := { r with mseq := some (s.pair.mseq + 1) }
      let s := s.datMod fun d => { d with job := some { j with req := some r } }
      s.mirrorCommand { r with params := p } (s.boundaryAfterUs s.leadUs)
    else s

/-- FETCH ends: the image lies in the idle slot, and CHECK begins (Table 13-6 step 1). -/
def State.fetched (s : State) : State :=
  match s.dat.job with
  | none => s
  | some j =>
    if s.dat.phase ≠ 1 then s
    else
      let s :=
        if s.sourceGranted j = false ∨ j.readable = false ∨ j.addr = s.idleSlot then s
        else { s with mem := writeBytes s.mem s.idleSlot (j.bytes s) }
      (s.datMod fun d => { d with phase := 2 }).mirrorLoad j

/-- DATUM_FETCH_DONE (R556). -/
def execDatumFetchDone (s : State) : Host.Outcome State Fault Refusal := goOn s s.fetched

/-- A load ends without a datum: the event, and the final reply with check code and entry index. -/
def State.loadFails (s : State) (status code index : Nat) : State :=
  let d := le 1 code ++ zeros 3 ++ le 4 index
  let job := s.dat.job
  let s := s.datMod fun d => { d with phase := 0, job := none, boundary := none }
  let s := s.event 0x0202 Sev.error 0x02 0x0000 d
  match job.bind LoadJob.req with
  | some r => s.finish r status d
  | none => s

/-- Checks 1 to 7 of the load (Table 13-7). -/
def State.loadFail (s : State) (j : LoadJob) : Option DatumFail :=
  if s.sourceGranted j = false then some (Status.noAccess, 1, 0)
  else if j.readable = false ∨ imageMost < j.len then some (Status.badParam, 2, 0)
  else datumFail s (readBytes s.mem s.idleSlot j.len) j.len

/-- The first block boundary at which a fade of 64 samples that starts now has ended (Table 13-6 step 3). -/
def State.fadeBoundary (s : State) : Nat := (s.posRi + 64 + s.blockLen - 1) / s.blockLen * s.blockLen

/-- CHECK ends: the load fails, or B is set (Table 13-6 steps 2 and 3). -/
def State.checked (s : State) : State :=
  match s.dat.job with
  | none => s
  | some j =>
    if s.dat.phase ≠ 2 ∨ s.dat.boundary.isSome then s
    else
      match s.loadFail j with
      | some (st, code, k) => s.loadFails st code k
      | none => s.datMod fun d => { d with boundary := some s.fadeBoundary }

/-- DATUM_CHECK_DONE (R546-R556, R365, R366). -/
def execDatumCheckDone (s : State) : Host.Outcome State Fault Refusal := goOn s s.checked

/-! ## B (Table 13-6 step 4, R557) -/

/-- A command that changes audio processing. -/
def changesAudio (op : Nat) : Bool := (opInfo op).elim false OpInfo.audio

/-- Commands that change audio processing and wait are dropped, and so are swaps that are pending. -/
def State.dropAudio (s : State) : State :=
  let gone := s.host.pending.filter fun p => changesAudio p.req.op
  let s := { s with host := { s.host with pending := s.host.pending.filter fun p => !changesAudio p.req.op } }
  let s := gone.foldl (fun s p => s.finish p.req Status.notReady []) s
  let s := s.cor.feed.foldl (fun s x =>
    match x.2.swap with
    | some w => s.answerCorSwap w Status.notReady
    | none => s) s
  match s.alm.swap with
  | some x =>
    if x.running then s
    else (s.answerSwap x Status.notReady).event 0x0602 Sev.warning 0x06 0x0000
      (le 2 Status.notReady ++ zeros 2 ++ le 4 x.at_)
  | none => s

/-- READY bits that a datum governs. -/
def State.datumReady (s : State) (on program : Bool) : State :=
  (((s.setReady Rdy.datum on).setReady Rdy.planisphere on).setReady Rdy.correction on).setReady Rdy.almanac (on && program)

/-- At B readiness clears, overlays are gone, requests are direct and tables stand at reset; level-0
content is silent (R557). The named profile's partitions begin to power. -/
def State.datumBoundary (s : State) : State :=
  match s.dat.boundary with
  | none => s
  | some b =>
    if s.dat.phase ≠ 2 ∨ s.time.ri < b then s
    else
      let s := (s.dropAudio.datumReady false false).datMod fun d => { d with
        id := 0, phase := 3, boundary := none, applied := false, roles := s.roleList
        fade := { pos := 64, len := 64, up := false }
        ovl := d.ovl.map fun o => (o.1, { Ovl.reset with stored := o.2.stored }) }
      let s := s.undelegate.resetAudio
      let p := Dm.profile s.idleImage
      if p = s.fab.active then s else s.requestProfile p

/-- DATUM_BOUNDARY (R557). -/
def execDatumBoundary (s : State) : Host.Outcome State Fault Refusal := goOn s s.datumBoundary

/-! ## Apply and activation (Table 13-6 steps 5 and 6) -/

/-- Every entry has been written; the datum is active from the next block boundary. -/
def State.datumApplied (s : State) : State :=
  if s.dat.phase ≠ 3 ∨ s.dat.applied = true then s
  else (s.writeDatum s.idleImage).datMod fun d => { d with applied := true, roles := [], boundary := some s.nextBoundary }

/-- DATUM_APPLY_DONE (R549-R558). -/
def execDatumApplyDone (s : State) : Host.Outcome State Fault Refusal := goOn s s.datumApplied

/-- The new profile is active, the datum is the running one, and level-0 content fades in (R369, R557). -/
def State.activate (s : State) : State :=
  let img := s.idleImage
  let p := min 4 (Dm.profile img)
  let job := s.dat.job
  let s := if p = s.fab.active then s.fabMod fun f => { f with pend := none, readyRi := none } else s.takeProfile p false
  let s := (s.fabMod fun f => { f with fade := Fade.full }).datMod fun d => { d with
    id := Dm.id img, running := 1 - d.running, phase := 0, job := none, boundary := none, applied := false
    fade := Fade.start 64 }
  let s := (s.datumReady true s.alm.active).event 0x0201 Sev.notice 0x02 0x0000 (le 8 (Dm.id img))
  match job.bind LoadJob.req with
  | some r => s.finish r Status.ok (zeros 8)
  | none => s

/-- The boundary after the apply; a change of rate needs a render index of R185. -/
def State.datumActivate (s : State) : State :=
  match s.dat.boundary with
  | none => s
  | some b =>
    if s.dat.phase ≠ 3 ∨ s.dat.applied = false ∨ s.time.ri < b ∨
        eligibleRi s.fab.active (min 4 (Dm.profile s.idleImage)) s.time.ri = false then s
    else s.activate

/-- DATUM_ACTIVATE (R369, R402, R557, R623). -/
def execDatumActivate (s : State) : Host.Outcome State Fault Refusal := goOn s s.datumActivate

/-- A restart of the control cluster abandons a load before B (R558): the running datum goes on. -/
def State.abandonLoad (s : State) : State :=
  if s.dat.phase = 1 ∨ s.dat.phase = 2 then
    let lost := (s.dat.job.bind LoadJob.req).toList.map fun r => (r, zeros 8)
    { s with sys := { s.sys with lost := s.sys.lost ++ lost } }.datMod fun d => { d with
      phase := 0, job := none, boundary := none, abandoned := true
      fade := if d.fade.up then d.fade else Fade.start 64 }
  else s

/-! ## DAT_STORE (R560, R576) -/

def datStoreBody : Body := fun _ r s =>
  let n := leNat (readBytes s.mem (datumSlotBase s.dat.running + 16) 4)
  if s.dat.phase ≠ 0 ∨ s.dat.store.isSome then .bad Status.busy
  else if s.dat.id = 0 then .bad Status.notReady
  else if flashDatumSize < n then .bad Status.noSpace
  else .deferred (s.datMod fun d => { d with store := some r })

/-- DAT_STORE (R560). -/
def execDatStore (q : Nat) (s : State) : Host.Outcome State Fault Refusal :=
  commandRow "DAT_STORE" 0x0202 datStoreBody q s

/-- The running slot's image. -/
def State.runningImage (s : State) : List Byte :=
  let a := datumSlotBase s.dat.running
  readBytes s.mem a (min flashDatumSize (leNat (readBytes s.mem (a + 16) 4)))

/-- The flash datum slot holds the running image, its CRC written last (R560). -/
def State.stored (s : State) : State :=
  match s.dat.store with
  | none => s
  | some r =>
    ({ s with mem := writeBytes s.mem flashDatum s.runningImage }.datMod fun d => { d with store := none }).finish r Status.ok []

/-- DAT_STORE_DONE (R560). -/
def execDatStoreDone (s : State) : Host.Outcome State Fault Refusal := goOn s s.stored

/-- A main reset cuts a DAT_STORE short: the image stands without its CRC, and fails check 3 at the next boot
(R560). The bytes in the CRC's place are its complement. -/
def State.storeCut (s : State) : State :=
  if s.dat.store.isNone then s
  else
    let b := s.runningImage
    let n := b.length - 4
    { s with mem := writeBytes s.mem flashDatum (b.take n ++ (b.drop n).map (~~~ ·)) }

end Sys2Proof.Machine
end

