-- ==== Sys2Proof/Machine/FwImage.lean ====
section
/-!
DEFINITION. Sys2Proof/Machine/FwImage.lean: the firmware image, its checks, the two banks of the boot flash,
and the boot record (R616-R620, Tables 15-2 to 15-6).
-/
namespace Sys2Proof.Machine

/-! ## The image (R618, Table 15-4) -/

namespace Fw
def version (b : List Byte) : Nat := u32 b 8
def bodyLen (b : List Byte) : Nat := u32 b 12
def target (b : List Byte) : Nat := u8 b 16
def keyIndex (b : List Byte) : Nat := u8 b 17
def body (b : List Byte) : List Byte := b.drop 512

/-- Check 2 fails on an image of `n` bytes. -/
def headBad (b : List Byte) (n : Nat) : Bool :=
  u32 b 0 != 0x4D524946 || u16 b 4 != 1 || u16 b 6 != 512 || u16 b 18 != 0x9624 || bodyLen b == 0 ||
    decide (8388096 < bodyLen b) || decide (1 < target b) || !zeroAt b 260 252 || n != 512 + bodyLen b

/-- The public key has the digest. -/
def keyedBy (b key : List Byte) : Bool := sha384 (slice b 68 96) == key

/-- The body has the header's digest. -/
def bodyOk (b : List Byte) : Bool := sha384 (body b) == slice b 20 48

/-- The signature over header bytes 0 to 163 is the public key's. -/
def signed (b : List Byte) : Bool := signatureOk (slice b 0 260)

/-- Form, signature and body hold. -/
def sound (b : List Byte) : Bool := !headBad b b.length && signed b && bodyOk b
end Fw

/-- Checks 2 to 6 of Table 15-5 on an image of `n` bytes, by the base record in force: the status and the
check code of the first that fails. -/
def imageFail (base b : List Byte) (n : Nat) : Option (Nat × Nat) :=
  if b.length ≠ n ∨ Fw.headBad b n = true then some (Status.badParam, 2)
  else if BaseRec.keyCount base ≤ Fw.keyIndex b ∨ Fw.keyedBy b (BaseRec.key base (Fw.keyIndex b)) = false then
    some (Status.badParam, 3)
  else if Fw.signed b = false then some (Status.badParam, 4)
  else if Fw.bodyOk b = false then some (Status.crc, 5)
  else if Fw.version b < BaseRec.minFw base then some (Status.badParam, 6)
  else none

/-! ## Banks (Table 15-2) -/

/-- First byte of a firmware bank in the boot flash window. -/
def bankBase (k : Nat) : Nat := 0x20100000 + 0x800000 * k

/-- The image in a bank; nothing where the bank was never written. -/
def State.bankImage (s : State) (k : Nat) : List Byte :=
  let h := readBytes s.mem (bankBase k) 512
  if h.all (· == 0) then [] else readBytes s.mem (bankBase k) (512 + min 8388096 (Fw.bodyLen h))

/-- A bank that was never written: bank 0 holds the factory's firmware, of version 0, which verifies. -/
def factoryBank (k : Nat) (image : List Byte) : Bool := k == 0 && image == []

/-- The check code that a bank fails (R619). -/
def State.bankFail (s : State) (k : Nat) : Option Nat :=
  let b := s.bankImage k
  if factoryBank k b then (if BaseRec.minFw s.baseRecord = 0 then none else some 6)
  else (imageFail s.baseRecord b b.length).map (·.2)

/-- FW_VERSION of a bank, or zero if it cannot be verified (Table 15-14). -/
def State.bankVersion (s : State) (k : Nat) : Nat := if s.bankFail k = none then Fw.version (s.bankImage k) else 0

/-- Write an image to a bank. -/
def State.writeBank (s : State) (k : Nat) (b : List Byte) : State := { s with mem := writeBytes s.mem (bankBase k) b }

/-! ## The boot record (R617, Table 15-3) -/

/-- A copy of the boot record: 0 is A, 1 is B. -/
def State.bootCopy (s : State) (c : Nat) : List Byte := readBytes s.mem (0x20000000 + 0x8000 * c) 64

def bootCopyOk (b : List Byte) : Bool := u32 b 0 == 0x52544F42 && u32 b 60 == crc32c (b.take 60)

/-- The copy in force, if one is valid. -/
def State.bootRecord (s : State) : Option (Nat × List Byte) :=
  let a := s.bootCopy 0
  let b := s.bootCopy 1
  if bootCopyOk a && (!bootCopyOk b || decide (u32 b 4 ≤ u32 a 4)) then some (0, a)
  else if bootCopyOk b then some (1, b) else none

/-- The verified bank: bank 0 where no copy is valid. -/
def State.verifiedBank (s : State) : Nat := s.bootRecord.elim 0 fun r => u8 r.2 8 % 2

/-- TRIAL_BANK where RSTATE is trial. -/
def State.trialBank (s : State) : Option Nat :=
  match s.bootRecord with
  | some r => if u8 r.2 10 = 1 ∧ u8 r.2 9 < 2 then some (u8 r.2 9) else none
  | none => none

/-- Update the boot record: the other copy is overwritten with the next sequence, its CRC last. -/
def State.putBootRecord (s : State) (verified trial state vver tver : Nat) : State :=
  let c := s.bootRecord.elim 0 fun r => 1 - r.1
  let n := s.bootRecord.elim 1 fun r => (u32 r.2 4 + 1) % 4294967296
  let body := le 4 0x52544F42 ++ le 4 n ++ le 1 verified ++ le 1 trial ++ le 1 state ++ zeros 1 ++ le 4 vver
    ++ le 4 tver ++ zeros 40
  { s with mem := writeBytes s.mem (0x20000000 + 0x8000 * c) (body ++ le 4 (crc32c body)) }

/-- The record is settled on a verified bank. -/
def State.settleBoot (s : State) (k : Nat) : State := s.putBootRecord k 0xFF 0 (s.bankVersion k) 0

/-! ## Choosing a bank (R620) -/

/-- The banks the ROM may try, in order. -/
def State.romBanks (s : State) : List Nat :=
  let k := if s.sys.latch then s.trialBank.getD s.verifiedBank else s.verifiedBank
  if bitOf (BaseRec.bootPolicy s.baseRecord) 4 then [k] else [k, 1 - k]

/-- The bank that boots, if one passes its checks. -/
def State.romChoice (s : State) : Option Nat := s.romBanks.find? fun k => s.bankFail k == none

/-- The banks tried that failed, with their check codes. -/
def State.romFailed (s : State) : List (Nat × Nat) :=
  (s.romBanks.takeWhile fun k => s.bankFail k != none).map fun k => (k, (s.bankFail k).getD 0)

end Sys2Proof.Machine
end

