-- ==== Sys2Proof/Machine/PairJoin.lean ====
section
/-!
DEFINITION. Sys2Proof/Machine/PairJoin.lean: what a Foresight sends a joiner and what the joiner makes of it: the
copy of the mirrored regions, snapshot entries and images (R588, R607, Tables 14-4, 14-6, 14-8). The spec
gives entries the form of Table 13-1 and leaves to the device which entries reproduce a setting.
-/
namespace Sys2Proof.Machine

/-! ## Messages -/

/-- An entry in the form of Table 13-1. -/
def Entry.bytes (e : Entry) : List Byte :=
  le 2 e.op ++ le 2 e.target ++ le 2 e.params.length ++ zeros 2 ++ e.params
    ++ zeros (entrySpan e.params.length - 8 - e.params.length)

/-- Entries that fill `b`, as far as they are framed. -/
def entriesIn (b : List Byte) : Nat → List Entry
  | 0 => []
  | n + 1 =>
    let plen := u16 b 4
    if b.length < entrySpan plen ∨ b.length < 8 then []
    else { op := u16 b 0, target := u16 b 2, params := slice b 8 plen } :: entriesIn (b.drop (entrySpan plen)) n

/-- Entries packed into bodies of at most 8,952 bytes. -/
def packEntries (acc : List Byte) : List Entry → List (List Byte)
  | [] => if acc = [] then [] else [acc]
  | e :: es =>
    let b := e.bytes
    if 8952 < acc.length + b.length then acc :: packEntries b es else packEntries (acc ++ b) es

/-- A COMMAND message of CKIND 3 or 4 with boundary J in its header. -/
def State.sendCkind (s : State) (kind j : Nat) (body : List Byte) : State :=
  s.sightSend 0x03 j 0 0 (le 1 kind ++ zeros 7 ++ body)

/-- An image in CKIND 4 messages. -/
def State.sendImage (s : State) (j target index : Nat) (b : List Byte) (o : Nat) : Nat → State
  | 0 => s
  | fuel + 1 =>
    let part := slice b o 8944
    if part = [] then s
    else (s.sendCkind 4 j (le 1 target ++ le 1 index ++ zeros 2 ++ le 4 o ++ part)).sendImage j target index b (o + 8944) fuel

/-- Split a list into runs of `n`. -/
def runsOf {α : Type} (n : Nat) (l : List α) : Nat → List (List α)
  | 0 => []
  | fuel + 1 => if l.isEmpty then [] else l.take n :: runsOf n (l.drop n) fuel

/-! ## The snapshot's entries -/

/-- A record's base value: the layers go on again at the joiner. -/
def State.baseValue (s : State) (k : RecKey) : List Byte := (s.baseOf k).getD (recordOf k s)

def recKey (kind unit sub : Nat) : RecKey := { kind := kind, unit := unit, sub := sub }

def snap (op target : Nat) (params : List Byte) : Entry := { op := op, target := target, params := params }

/-- A stream entry and its run; the value in effect unless a layer covers it, and after it a record that is held
back. -/
def State.snapStream (s : State) (u : Nat) : List Entry :=
  let k := recKey Rec.stream u 0
  let e := (s.baseOf k).getD (streamRecord.padBytes 128 (s.streamEntry u))
  let e := withEnable e (u8 (s.baseValue (recKey Rec.strEnable u 0)) 0 == 1)
  let run := (if unitClass u = 1 then (s.rx (unitIndex u)).run else (s.tx (unitIndex u)).run).flatMap fun v => le 2 v
  if Ent.island e || !Ent.valid e then []
  else snap 0x0301 u (e ++ run) :: (s.heldOf k).toList.map fun h => snap 0x0301 u (h ++ run)

/-- Channel maps, one direction, 1,024 words an entry. -/
def State.snapMap (s : State) (dir : Nat) : List Entry :=
  [0, 1024].map fun f => snap 0x0303 0xF000
    (le 1 dir ++ zeros 1 ++ le 2 f ++ le 2 1024 ++ zeros 2 ++
      ((List.range 1024).flatMap fun i => le 2 (s.mapEntry (dir == 1) (f + i))))

/-- A media loop's settings and its hop table. -/
def State.snapLoop (s : State) (l : Nat) : List Entry :=
  snap 0x0710 0xF000 (s.baseValue (recKey Rec.loop 0xF000 l)) ::
    (s.loop l).hops.map fun h => snap 0x0712 0xF000
      (le 1 l ++ le 1 h.1 ++ le 1 h.2.ref ++ le 1 h.2.index ++ le 4 h.2.hz ++ le 2 h.2.n ++ le 2 h.2.d
        ++ le 1 h.2.family ++ le 4 h.2.band ++ le 4 h.2.centre)

def snapLaunch (k : Nat) (x : LaunchSlot) : Entry :=
  snap 0x0708 (0xC000 + k) (le 6 x.sec ++ le 4 x.ns ++ le 1 (x.line.getD 0xFF) ++ le 1 (b2n x.armed) ++ le 4 x.period
    ++ le 5 (match x.left with
      | some n => n + 1
      | none => 0) ++ le 4 x.firings)

/-- Sections of a feed or a bus that are not at their reset, in runs of one. -/
def State.snapSections (s : State) (u : Nat) : List Entry :=
  (List.range (sectionCount u)).filterMap fun i =>
    let r := s.baseValue (recKey Rec.biquad u i)
    if coefsOf r = Biquad.reset.coef then none else some (snap 0x0510 u (le 1 i ++ [1, 0, 0] ++ r.take 20))

def pointBytes (p : Point) : List Byte := leI 4 p.e ++ leI 4 p.n ++ leI 4 p.h

/-- An object: its record, and its motion in progress. -/
def State.snapObject (s : State) (i : Nat) : List Entry :=
  let u := 0x4000 + i
  let r := s.baseValue (recKey Rec.object u 0)
  let x := s.object i
  snap 0x0401 u (withObjEnable r (u8 (s.baseValue (recKey Rec.objEnable u 0)) 0 == 1)) ::
    match x.motion with
    | some m => [snap 0x0402 u ([1] ++ pointBytes m.p0 ++ pointBytes m.p1 ++ le 8 m.t0 ++ le 8 m.t1)]
    | none => [snap 0x0402 u ([0] ++ pointBytes x.pos)]

/-- A feed: its record, its banks, its armed line and its sections. -/
def State.snapFeed (s : State) (f : Nat) : List Entry :=
  let u := 0x5000 + f
  let x := s.corFeed f
  let bank := fun (k : Nat) (b : CorBank) =>
    if b.nslot = 0 then [] else [snap 0x0503 u (le 1 k ++ le 1 b.ps ++ zeros 2 ++ le 4 (b.nslot * 32) ++ le 4 b.base)]
  [snap 0x0501 u (s.baseValue (recKey Rec.feed u 0))] ++ bank 0 x.bank0 ++ bank 1 x.bank1
    ++ [snap 0x0504 u (le 1 (b2n x.run1) ++ zeros 3)]
    ++ (match x.arm with
      | some a => [snap 0x0505 u (le 1 a.1 ++ zeros 3)]
      | none => [])
    ++ s.snapSections u

/-- A dynamics unit's settings. -/
def State.snapDyn (s : State) (n : Nat) : Entry :=
  let u := 0x7000 + n
  if n < 1024 then snap 0x0520 u (s.baseValue (recKey Rec.limiter u 0))
  else snap 0x0521 u (s.baseValue (recKey Rec.compressor u 0))

/-- Gain registers that are not at code 0. -/
def State.snapGains (s : State) : List Entry :=
  (runsOf 512 s.alm.gain 33).map fun g => snap 0x0603 0xF000
    (le 2 g.length ++ zeros 2 ++ g.flatMap fun x => le 2 x.1 ++ (s.baseValue (recKey Rec.gain 0xF000 x.1)).take 2)

def State.snapSink (s : State) (a : Nat) : Entry :=
  let r := s.baseValue (recKey Rec.sinkFade 0xF000 a)
  snap 0x0606 0xF000 (le 2 1 ++ slice r 0 2 ++ slice r 2 1 ++ zeros 3 ++ le 2 a)

/-- A direct lane's entry, and whether it is enabled. -/
def State.snapLane (s : State) (k : Nat) : List Entry :=
  [snap 0x0608 0xF000 (le 1 k ++ zeros 3 ++ slice ((s.lane k).entry ++ zeros 40) 0 40),
    snap 0x0609 0xF000 (le 1 k ++ (s.baseValue (recKey Rec.laneEnable 0xF000 k)).take 1 ++ zeros 2)]

def snapPlayer (k : Nat) (x : AlmPlayer) : List Entry :=
  match x.msg with
  | some m => [snap 0x060A 0xF000 (le 1 k ++ zeros 1 ++ le 2 m ++ le 2 x.repeats ++ zeros 2 ++ le 8 x.pos)]
  | none => []

/-- Overlays in force or suspended, in order of their application. -/
def State.snapOverlays (s : State) : List Entry :=
  let held := s.dat.ovl.filter fun o => o.2.active || o.2.suspended
  let order := (held.foldl (fun l o => insertRun (o.2.order, o.1) l) []).map (·.2)
  order.map fun n =>
    let o := s.ovl n
    snap 0x0211 (0xD000 + n) (le 1 (b2n o.suspended) ++ le 1 o.bank ++ zeros 2)

/-- Fields staged by each slot (R571). -/
def State.snapStages (s : State) : List Entry :=
  s.dat.stages.flatMap fun g => g.2.map fun w => snap 0x0220 w.1 (slice (w.2 ++ zeros 8) 0 8 ++ le 1 g.1 ++ zeros 3)

/-- The base profile and program stand before the overlays, those in effect after them. -/
def snapActive (profile bank : Nat) (active : Bool) : List Entry :=
  [snap 0x0241 0xF000 (le 1 profile ++ zeros 3), snap 0x0602 0xF000 (le 1 bank ++ le 1 (b2n active) ++ zeros 2)]

/-- Every setting that commands and overlays have changed (Table 14-8 step 4). -/
def State.snapshotEntries (s : State) : List Entry :=
  let f := s.fab
  let base := fun (k : RecKey) (now : Nat) => (s.baseOf k).elim now fun b => u8 b 0
  [snap 0x0241 0xF000 (le 1 f.active ++ zeros 3),
    snap 0x0141 0xF000 (le 2 f.target ++ le 2 f.hyst ++ le 1 f.shedMax ++ zeros 3),
    snap 0x0522 0xF000 (le 2 ((s.cor.ldNew.map (·.1)).getD s.cor.ldUs) ++ zeros 2),
    snap 0x0605 0xF000 (le 1 s.alm.timeoutMs ++ zeros 1 ++ le 2 s.alm.defaultW)]
  ++ snapActive (base profileKey f.active) (base programKey s.alm.running) s.alm.active
  ++ s.snapLoop 1 ++ s.snapLoop 2
  ++ s.time.slots.map (fun x => snapLaunch x.1 x.2)
  ++ [snap 0x0323 0xF000 (le 1 s.ser.wcDomain ++ le 1 s.ser.wcMult ++ le 1 s.ser.wcFlags ++ zeros 1)]
  ++ (s.ser.port.map fun x =>
      if x.1 < 16 then
        snap 0x0320 (0x3000 + x.1)
          (s.baseValue (recKey Rec.tdm (0x3000 + x.1) 0) ++ s.baseValue (recKey Rec.tdmMask (0x3000 + x.1) 0))
      else snap 0x0322 0xF000 (slice (le 1 x.1 ++ x.2.set.drop 1 ++ zeros 28) 0 28))
  ++ (s.str.group.map fun g => snap 0x0305 0xF000 (le 1 g.1 ++ le 1 g.2.mode ++ le 1 g.2.loop ++ zeros 1))
  ++ s.snapMap 0 ++ s.snapMap 1 ++ s.boundStreams.flatMap s.snapStream
  ++ [snap 0x0410 0xF000 (le 4 s.obj.sound ++ pointBytes s.obj.rp ++ le 4 s.obj.cell ++ le 2 s.obj.reserve ++ zeros 2)]
  ++ (s.obj.feed.map fun x => snap 0x0501 (0x5000 + x.1) (s.baseValue (recKey Rec.feed (0x5000 + x.1) 0)))
  ++ (s.cor.feed.flatMap fun x => s.snapFeed x.1)
  ++ ((List.range 1024).flatMap fun i => if (s.cor.feed.map (·.1)).contains i then [] else s.snapSections (0x5000 + i))
  ++ ((List.range 256).flatMap fun b => s.snapSections (0x6000 + b))
  ++ (s.cor.dyn.filter fun x => decide (x.1 < 1280)).map (fun x => s.snapDyn x.1)
  ++ (s.obj.zone.map fun z => snap 0x0412 0xF000 (le 1 z.1 ++ zeros 3 ++ s.baseValue (recKey Rec.zone 0xF000 z.1)))
  ++ s.obj.obj.flatMap (fun x => s.snapObject x.1)
  ++ s.snapGains ++ s.alm.sinkFade.map (fun x => s.snapSink x.1)
  ++ (s.alm.prog.bus.map fun b => snap 0x0607 (0x6000 + b.1) (s.baseValue (recKey Rec.busScale (0x6000 + b.1) 0) ++ zeros 3))
  ++ s.alm.lane.flatMap (fun x => s.snapLane x.1) ++ s.alm.player.flatMap (fun x => snapPlayer x.1 x.2)
  ++ (s.alm.gen.map fun g => snap 0x060C 0xF000 (le 1 g.1 ++ le 1 g.2.mode ++ leI 2 g.2.level ++ le 4 g.2.mhz))
  ++ s.snapOverlays ++ snapActive f.active s.alm.running s.alm.active ++ s.snapStages
  ++ [snap 0x0103 0 [0, 0]] ++ s.host.unitGens.map fun g => snap 0x0103 g.1 (le 2 (g.2 + 1))

/-- Snapshot entries, program banks, mesh and overlay records for J (Table 14-8 step 4). -/
def State.sendSnapshot (s : State) (j : Nat) : State :=
  let s := (packEntries [] s.snapshotEntries).foldl (fun s b => s.sendCkind 3 j b) s
  let s := s.sendImage j 0 0 (s.almBank 0).image 0 64
  let s := s.sendImage j 1 0 (s.almBank 1).image 0 64
  let s := s.sendImage j 2 0 s.obj.mesh 0 128
  s.dat.ovl.foldl (fun s o => if o.2.stored then s.sendImage j 3 o.1 (ovlRecord s o.1) 0 2 else s) s

/-! ## The joiner at J (Table 14-8 step 5) -/

/-- Entries of the CKIND 3 messages, in order of arrival. -/
def snapEntries (msgs : List (List Byte)) : List Entry :=
  (msgs.filter fun m => u8 m 0 == 3).flatMap fun m => entriesIn (m.drop 8) 1200

/-- An image put together from its CKIND 4 messages. -/
def snapImage (msgs : List (List Byte)) (target index : Nat) : List Byte :=
  (msgs.filter fun m => u8 m 0 == 4 && u8 m 8 == target && u8 m 9 == index).foldl
    (fun b m => splice b (u32 m 12) (m.drop 16)) []

/-- Overlays whose records came. -/
def snapOvls (msgs : List (List Byte)) : List Nat :=
  ((msgs.filter fun m => u8 m 0 == 4 && u8 m 8 == 3).map fun m => u8 m 9).eraseDups

/-- An overlay takes its place among the layers as it has it at the Foresight. -/
def State.snapLayer (s : State) (n : Nat) (suspended : Bool) (bank : Nat) : State :=
  let order := s.dat.orders + 1
  let s := s.datMod fun d => { d with orders := order }
  let s := s.setOvl n { s.ovl n with
    active := true, suspended := suspended, order := order, record := ovlRecord s n, bank := bank }
  if suspended then s
  else
    let keys := ovlKeys s n
    (keys.foldl State.coverKey s |> fun s => keys.foldl State.refreshKey s).judgeSafe

def snapPoint (p : List Byte) (o : Nat) : Point := { e := i32 p o, n := i32 p (o + 4), h := i32 p (o + 8) }

/-- One entry of the snapshot: records take their values unchecked, as the Foresight holds them. -/
def State.takeEntry (s : State) (e : Entry) : State :=
  let p := e.params
  let i := unitIndex e.target
  match e.op with
  | 0x0103 =>
    let gens := if e.target = 0 then [] else tput 0 s.host.unitGens e.target (u16 p 0 - 1)
    { s with host := { s.host with unitGens := gens } }
  | 0x0211 => s.snapLayer i (u8 p 0 == 1) (u8 p 1)
  | 0x0220 => s.setStage (u8 p 8) (s.stage (u8 p 8) ++ [(e.target, p.take 8)])
  | 0x0241 => s.fabMod fun f => { f with active := min 4 (u8 p 0), pend := none, readyRi := none }
  | 0x0301 =>
    let entry := p.take 128
    if s.streamEntry e.target = [] then
      (s.putMap (unitClass e.target == 2) (Ent.base entry) (bindRun p)).adoptStream e.target entry (bindRun p)
    else writeStream (recKey Rec.stream e.target 0) entry s
  | 0x0402 =>
    s.modObject i fun x =>
      if u8 p 0 = 1 then { x with
        pos := snapPoint p 13
        motion := some { p0 := snapPoint p 1, p1 := snapPoint p 13, t0 := u64 p 25, t1 := u64 p 33 } }
      else { x with pos := snapPoint p 1, motion := none }
  | 0x0503 =>
    let b : CorBank := { CorBank.reset with base := u32 p 8, nslot := u32 p 4 / 32, ps := u8 p 1 }
    s.setCorFeed i ((s.corFeed i).setBank (u8 p 0 == 1) b)
  | 0x0504 => s.setCorFeed i { s.corFeed i with run1 := u8 p 0 == 1 }
  | 0x0505 => s.setCorFeed i { s.corFeed i with arm := some (u8 p 0, s.genOf e.target) }
  | 0x0602 => s.almMod fun t => { t with running := u8 p 0 % 2, active := u8 p 1 == 1, swap := none }
  | 0x060A => s.setPlayer (u8 p 0) { AlmPlayer.reset with msg := some (u16 p 2), repeats := u16 p 4, pos := u64 p 8 }
  | 0x0708 =>
    s.setLaunch i
      { armed := u8 p 11 == 1, line := if u8 p 10 = 0xFF then none else some (u8 p 10), sec := u48 p 0, ns := u32 p 6
        period := u32 p 12, left := if u40 p 16 = 0 then none else some (u40 p 16 - 1), firings := u32 p 21 }
  | 0x0712 =>
    s.modLoop (u8 p 0) fun x =>
      { x with
        useCount := x.useCount + 1
        hops := tput HopEntry.reset x.hops (u8 p 1)
          { valid := true, ref := u8 p 2, index := u8 p 3, hz := u32 p 4, n := u16 p 8, d := u16 p 10, family := u8 p 12
            band := u32 p 13, centre := u32 p 17, used := x.useCount + 1 } }
  | _ =>
    match entryPatches e.op e.target p with
    | [] =>
      match datumEntry [] e s with
      | .ok t => t
      | .error _ => s
    | ps => ps.foldl (fun s x => s.putPatch recordOf putRecord x) s

/-- Banks, mesh and overlay records of the snapshot. -/
def State.takeImages (s : State) (msgs : List (List Byte)) : State :=
  let bank := fun k => let b := snapImage msgs k 0; { state := if b = [] then 0 else 2, image := b : AlmBank }
  let s := (s.setAlmBank 0 (bank 0)).setAlmBank 1 (bank 1)
  let s := (s.objMod fun t => { t with newMesh := some (snapImage msgs 2 0) }).adoptMesh
  (snapOvls msgs).foldl (fun s n =>
    { s.setOvl n { Ovl.reset with stored := true } with mem := writeBytes s.mem (overlayBase n) (snapImage msgs 3 n) }) s

/-- The joiner starts from the snapshot: tables at reset, images, entries in order, then the running program. -/
def State.startSnapshot (s : State) : State :=
  let msgs := s.pair.snapshot
  let es := snapEntries msgs
  let gpio := s.gpio
  let p := (es.find? fun e => e.op == 0x0241).elim s.fab.active fun e => min 4 (u8 e.params 0)
  let s := if p = s.fab.active then s else s.takeProfile p false
  let s := { s.resetAudio with gpio := gpio }
  let s := (s.datMod fun d => { d with building := true, ovl := [], orders := 0 }).takeImages msgs
  let s := es.foldl State.takeEntry s
  let g := s.runningProg.getD Prog.empty
  let mode := s.alm.prog.bus
  let s := s.almMod fun t => { t with prog := s.startProg g Prog.empty ProgState.reset }
  let s := s.almMod fun t => { t with
    prog := { t.prog with
      bus := mode.foldl (fun b m => tmod BusState.reset b m.1 fun x => { x with mode := m.2.mode }) t.prog.bus } }
  ((s.datMod fun d => { d with building := false }).judgeObjects.placeEngines).judgeStreams

/-! ## The copy (Table 14-8 step 2) -/

/-- First and last address of each mirrored region (Table 14-6). -/
def mirroredRegions : List (Nat × Nat) :=
  [(0x10000000, 0x11E9FFFF), (0x16C00000, 0x17FFFFFF), (0x352000000, 0x3D1FFFFFF), (0x3D2000000, 0x3DA0FFFFF),
    (0x3E6000000, 0x3FFFFFFFF)]

/-- Copy a region in messages of 8,952 bytes. -/
def State.copyRegion (s : State) (a last : Nat) : Nat → State
  | 0 => s
  | fuel + 1 =>
    if last < a then s
    else
      let n := min 8952 (last + 1 - a)
      (s.sightSend 0x05 0 0 0 (le 8 a ++ readBytes s.mem a n)).copyRegion (a + n) last fuel

def State.copyRegions (s : State) : State :=
  mirroredRegions.foldl (fun s r => s.copyRegion r.1 r.2 ((r.2 - r.1) / 8952 + 1)) s

end Sys2Proof.Machine
end

