-- ==== Sys2Proof/Machine/PairBeat.lean ====
section
/-!
DEFINITION. Sys2Proof/Machine/PairBeat.lean: how the active role comes and goes, and the pair's heartbeat: what a
device sends and judges at each block tick (R583, R585-R587, R593, R595-R597, R601-R603, Table 14-3).
-/
namespace Sys2Proof.Machine

/-! ## The active role -/

/-- Clocks of TDM ports are judged afresh where the hold of the outputs changes (Table 14-7). -/
def State.judgeHeld (s old : State) : State := if s.outputsHeld = old.outputsHeld then s else s.judgeSerials

/-- One gratuitous ARP and one unsolicited neighbour advertisement on each media port (R597). -/
def State.announce (s : State) : State :=
  [0, 1].foldl (fun s p =>
    let mac := s.streamMac p
    let a := slice (s.streamIp p false ++ zeros 4) 0 4
    let s := s.fwFrame p 2 (ether broadcast mac 0 0 0x0806
      (be 2 1 ++ be 2 0x0800 ++ [6, 4] ++ be 2 1 ++ mac ++ a ++ zeros 6 ++ a))
    let b := pad16 (s.streamIp p true)
    let dst := [0xFF, 0x02] ++ zeros 13 ++ [1]
    let icmp := fun c : Nat => [136, 0] ++ be 2 c ++ be 4 0x20000000 ++ b ++ [2, 1] ++ mac
    let c := inetSum (b ++ dst ++ be 4 32 ++ be 4 58 ++ icmp 0)
    s.fwFrame p 2 (ether (multicastMac true dst) mac 0 0 0x86DD (ipBytes true b dst 0 255 0 58 (icmp c)))) s

/-- The device becomes active with no Backsight (R583, R597). -/
def State.becomeAlone (s : State) : State := ((s.enterPair .alone).judgeHeld s).announce

/-- Commands that a Foresight has mirrored and that wait are dropped as the device leaves its role. -/
def State.dropMirrored (s : State) : State :=
  let mine := fun o : Origin => match o with
    | .mirror _ => false
    | .host | .entry | .service => true
  { s with host := { s.host with pending := s.host.pending.filter fun p => mine p.req.origin } }

/-- The device is neither active nor joined. -/
def State.seek (s : State) : State := ((s.dropMirrored.enterPair .seeking).judgeHeld s)

def State.isolate (s : State) : State := ((s.dropMirrored.enterPair .isolated).judgeHeld s).pairSplit 1

/-- A Backsight out of step leaves, and rejoins (R593). -/
def State.desync (s : State) (cause : Nat) : State := s.seek.event 0x0B05 Sev.warning 0x0B 0x0000 (le 1 cause)

/-- JOIN_REQUEST (R583, R609). -/
def State.requestJoin (s : State) : State := s.sendRole 1 0 0 s.pair.state.code s.dat.id

/-! ## The heartbeat's content (Table 14-3) -/

/-- Transmit entries that are enabled, in index order. -/
def State.liveTx (s : State) : List Nat := (s.str.tx.filter fun x => Ent.enabled x.2.entry).map (·.1)

/-- Transmit entries that are enabled and form packets. -/
def State.formingTx (s : State) : List Nat := s.liveTx.filter fun i => decide ((s.tx i).causes = 0)

def State.contCrc (s : State) : Nat := crc32c (s.liveTx.flatMap (continuityData s))

/-- The least render index just past the last sample of a packet that waits in a port's queues. -/
def State.leastUnsent (s : State) : Option Nat :=
  s.net.port.foldl (fun a p => p.2.tx.foldl (fun a q => q.2.foldl (fun a f =>
    match a, f.lastRi with
    | some x, some y => some (min x y)
    | some x, none => some x
    | none, y => y) a) a) none

/-- The end of the last packet of an entry that has been launched. -/
def TxStream.launchedEnd (x : TxStream) (unsent : Option Nat) : Nat :=
  let d := packetStep x.entry
  match unsent with
  | none => x.riBase + x.formed * d
  | some u => if u ≤ x.riBase then min x.riBase (u - 1) else x.riBase + min x.formed ((u - 1 - x.riBase) / d) * d

/-- LAUNCHED_RI. -/
def State.launchedRi (s : State) : Nat :=
  let u := s.leastUnsent
  match s.formingTx.map fun i => (s.tx i).launchedEnd u with
  | [] => s.time.ri
  | e :: es => es.foldl min e

/-- The request is held by a source of the device's own. -/
def SafReq.own (q : SafReq) : Bool :=
  q.inputs != 0 || q.latch || q.trigger || q.trigLatch || q.command || q.service

def State.reqBits (s : State) : Nat := (s.saf.req.filter fun q => q.2.own).foldl (fun a q => a + 2 ^ q.1) 0

def State.heartbeatPayload (s : State) : List Byte :=
  let p := s.pair
  le 1 p.state.code ++ le 1 (b2n p.active + 2 * b2n p.fenceOut + 4 * b2n p.settled) ++ zeros 2
    ++ le 4 (if p.state.isFore then p.mseq else p.mseqDone) ++ le 8 s.launchedRi ++ le 8 s.reqBits ++ le 8 s.dat.id
    ++ le 4 s.contCrc ++ leI 4 p.offset ++ zeros 8

/-! ## At each block tick -/

/-- The own heartbeat is sent or withheld (R585, R587, R603). -/
def PairPart.ownBeat (p : PairPart) (beat : Bool) (ri len elapsed : Nat) : PairPart :=
  if beat then
    { p with withheld := 0, unfinished := none, beatFrom := if p.withheld = 0 then p.beatFrom else elapsed }
  else
    { p with
      withheld := p.withheld + 1
      unfinished := p.unfinished.or (some ri)
      holdAt := if p.withheld = 2 && p.state == .foresight then some (ri + len) else p.holdAt }

/-- PEER_OFFSET as running firmware measures it; how long it has been out of bounds (R584, R608). -/
def PairPart.measure (p : PairPart) (running : Bool) (offset : Int) (elapsed : Nat) : PairPart :=
  let o := if running then offset else p.offset
  let far := decide (o < -5000) || decide (5000 < o)
  { p with
    offset := o, skewFrom := if far then p.skewFrom.or (some elapsed) else none
    skewSent := far && p.skewSent }

/-- Both fences asserted for whole blocks (R586). -/
def PairPart.countFence (p : PairPart) : PairPart :=
  { p with fenceRun := if p.active && p.peerFenced then p.fenceRun + 1 else 0 }

/-- A frame that has aged out of the replay buffer is counted in HELD (R596). -/
def State.dropReplay (s : State) (gone : List (Nat × Nat × Nat × List Byte)) : State :=
  gone.foldl (fun s x => s.modTx x.2.1 fun t => t.count Sc.held) s

def State.ageReplay (s : State) : State :=
  let old := fun x : Nat × Nat × Nat × List Byte => decide (x.1 + 6 * s.blockLen < s.time.ri)
  let gone := s.pair.replay.filter old
  (s.pairMod fun p => { p with replay := p.replay.filter fun x => !old x }).dropReplay gone

/-- A continuity record of the peer, adopted in place of the own (R595). -/
def TxStream.adoptRecord (x : TxStream) (r : List Byte) (ri : Nat) : TxStream :=
  let base := u64 r 8
  let d := packetStep x.entry
  { x with
    rtpBase := u16 r 2, avtpBase := u8 r 4, mr := u8 r 5 == 1, riBase := base, ssrc := u32 r 16, mco := u32 r 20
    formed := if d = 0 then 0 else (ri - base) / d
    adopt := none }

/-- Records whose RI_BASE has come are adopted. -/
def State.adoptDue (s : State) : State :=
  s.str.tx.foldl (fun s x =>
    match x.2.adopt with
    | some r => if u64 r 8 ≤ s.time.ri then s.modTx x.1 fun t => t.adoptRecord r s.time.ri else s
    | none => s) s

/-- The peer's heartbeat of the tick one block ago is judged (R601, R608); the device also judges its joiner. -/
def State.judgeBeat (s : State) : State :=
  let p := s.pair
  let n := s.time.ri - s.blockLen
  let judges := p.state == .foresight || p.state == .backsight || p.state == .joining || (p.state == .alone && p.joining)
  let came := p.beats.contains n
  let misses := if came || !judges || decide (n ≤ p.since) then 0 else p.misses + 1
  let s := s.pairMod fun p => { p with
    beats := p.beats.filter fun b => decide (n < b)
    misses := misses
    fenceWait := if misses = 0 then none else p.fenceWait.map (· + 1) }
  if misses ≠ 3 then s
  else
    match p.state with
    | .foresight => s.goAlone.peerLost 1
    | .alone => s.pairMod fun p => { p with joining := false }
    | .joining => s.seek
    | .backsight =>
      if p.fenced && p.fenceIn then s.pairMod fun p => { p with fenceWait := some 0 }
      else if p.fenced || p.hbOnly then s
      else s.isolate
    | .single | .seeking | .isolated => s

/-- A PAIR_PEER_LOAD that has failed ends, and the Backsight rejoins (R606). -/
def State.judgePeerLoad (s : State) : State :=
  if s.pair.state == .backsight && s.pair.peerLoad && s.dat.phase == 0 && s.dat.id == s.pair.peer.datumId then s.seek else s

/-- What the pair does at a block tick; `beat`: the fabric's heartbeat is sent (R345). -/
def State.pairTick (s : State) (beat : Bool) (offset : Int) : State :=
  if s.pair.state = .single then s
  else
    let s := s.pairMod fun p =>
      ((p.ownBeat beat s.time.ri s.blockLen s.time.elapsed).measure s.sys.running offset s.time.elapsed).fence.countFence
    let s := if beat then s.sightSendPlain 0x02 s.time.ri s.heartbeatPayload else s
    s.ageReplay.adoptDue.judgeBeat.judgePeerLoad

/-! ## A heartbeat received (R583, R587, R593, R598) -/

def parseBeat (f : List Byte) : PeerBeat :=
  let p := sightPayload f
  { pstate := u8 p 0, hfl := u8 p 1, mseqDone := u32 p 4, launchedRi := u64 p 8, reqBits := u64 p 16
    datumId := u64 p 24, contCrc := u32 p 32, offset := i32 p 36, ri := u64 f 8 }

def PeerBeat.active (b : PeerBeat) : Bool := bitOf b.hfl 0

/-- Each bit raises or releases its request as PEER (R598). -/
def State.peerRequests (s : State) (bits : Nat) : State :=
  if !s.saf.ready then s
  else
    (List.range 64).foldl (fun s r =>
      if (s.safReq r).peer == bitOf bits r then s else s.changeReq r 5 fun q => { q with peer := bitOf bits r }) s

/-- A device in SEEKING forms a pair (R583). -/
def State.form (s : State) : State :=
  let p := s.pair
  if p.state ≠ .seeking ∨ p.selfHold.isSome = true ∨ p.beats = [] then s
  else if p.peer.active then s.requestJoin
  else if !p.pairId && s.isReady Rdy.sight && !p.peerFenced then s.becomeAlone
  else s

/-- Results that both sides have are compared (R593 case 2). -/
def State.judgeResults (s : State) : State :=
  let p := s.pair
  let both := p.peerResults.filter fun r => p.results.any fun o => o.1 == r.1
  let bad := both.any fun r => !p.results.contains r
  let keep := fun l : List (Nat × Nat) => l.filter fun r => !both.any fun b => b.1 == r.1
  let s := s.pairMod fun p => { p with results := keep p.results, peerResults := keep p.peerResults }
  if bad && p.state == .foresight then (s.sendRole 7 2 0 p.state.code s.dat.id).goAlone else s

/-- The Foresight resends every record while CONT_CRC differs (R595). -/
def State.foreCrc (s : State) : State :=
  if s.contCrc = s.pair.peer.contCrc then s.pairMod fun p => { p with resent := false }
  else if s.pair.resent || s.pair.peerLoad then s
  else (s.pairMod fun p => { p with resent := true }).sendRecords s.liveTx 3

/-- The Backsight counts heartbeats whose CONT_CRC differs after a resend (R593 case 4). -/
def State.backCrc (s : State) : State :=
  if s.contCrc = s.pair.peer.contCrc then s.pairMod fun p => { p with resent := false, crcDiff := 0 }
  else if !s.pair.resent || s.pair.peerLoad then s
  else if s.pair.crcDiff < 15 then s.pairMod fun p => { p with crcDiff := p.crcDiff + 1 }
  else s.desync 4

/-- No swap, load or profile change is on its way, and every command that waits applies at J or later. -/
def State.quietAt (s : State) (j : Nat) : Bool :=
  s.dat.phase == 0 && s.alm.swap.isNone && s.alm.load.isNone && s.obj.load.isNone && s.fab.pend.isNone &&
    s.obj.newMesh.isNone && s.cor.compact.isNone && s.net.sight.backlog.isEmpty &&
    s.cor.feed.all (fun x => x.2.swap.isNone && x.2.fadeAt.isNone) && s.host.pending.all fun p => decide (j ≤ p.due)

/-- Commands that wait for J or later are mirrored, in order (Table 14-8 step 4). -/
def State.mirrorWaiting (s : State) : State :=
  let ps := s.host.pending
  let s := { s with host := { s.host with pending := [] } }
  ps.foldl (fun s p =>
    let mirrored := p.req.mseq.isNone && (match opInfo p.req.op with
      | some i => s.mirrors i p.req
      | none => false)
    if mirrored then
      (s.mirrorCommand p.req p.due).addPending { p with req := { p.req with mseq := some (s.pair.mseq + 1) } }
    else s.addPending p) s

/-- The Foresight chooses J and sends the snapshot (Table 14-8 step 4). -/
def State.chooseJ (s : State) : State :=
  let p := s.pair
  let j := s.boundaryAfterUs s.leadUs
  if p.state ≠ .alone ∨ p.joining = false then s
  else if p.peer.pstate ≠ 4 ∧ p.peer.pstate ≠ 5 ∧ p.seekFrom + 10 * milli ≤ s.time.elapsed then
    s.pairMod fun p => { p with joining := false }
  else if p.joinAt.isSome ∨ p.peer.pstate ≠ 4 ∨ p.peer.datumId ≠ s.dat.id ∨ s.quietAt j = false then s
  else ((((s.pairMod fun p => { p with joinAt := some j }).sendSnapshot j).sendRecords s.liveTx 3).mirrorWaiting)

/-- A datum slot holds the whole image of a datum. -/
def slotHolds (s : State) (k id : Nat) : Bool :=
  let head := readBytes s.mem (datumSlotBase k) 64
  let n := Dm.len head
  decide (68 ≤ n) && decide (n ≤ imageMost) && Dm.id head == id &&
    (let b := readBytes s.mem (datumSlotBase k) n
     u32 b (n - 4) == crc32c (b.take (n - 4)))

/-- The joiner loads the Foresight's datum from the slot it was copied to (Table 14-8 step 3). -/
def State.joinLoad (s : State) : State :=
  let id := s.pair.joinId
  if s.pair.state ≠ .joining ∨ s.dat.phase ≠ 0 ∨ id = 0 then s
  else
    match [s.dat.running, 1 - s.dat.running].find? fun k => slotHolds s k id with
    | none => s
    | some k =>
      if k = s.dat.running ∧ s.dat.id = id then s
      else
        let s := s.datMod fun d => { d with running := 1 - k }
        s.beginLoad none 0 (datumSlotBase k) (leNat (readBytes s.mem (datumSlotBase k + 16) 4))

/-- What a heartbeat does to the role of the device (R583, R593, R608). -/
def State.beatRole (s : State) (b : PeerBeat) : State :=
  match s.pair.state with
  | .seeking => s.form
  | .isolated => s.seek.form
  | .alone =>
    if b.active && s.pair.pairId && s.pair.selfHold.isNone && decide (s.pair.since < b.ri) then s.seek.pairSplit 3
    else s.chooseJ
  | .foresight =>
    if b.active && s.pair.pairId && s.pair.selfHold.isNone && decide (s.pair.since < b.ri) then s.seek.pairSplit 3
    else if b.pstate ≠ 5 ∧ s.pair.since < b.ri then s.goAlone.peerLost 1
    else s.foreCrc.judgeResults
  | .joining => s.joinLoad
  | .backsight =>
    if b.datumId ≠ 0 ∧ b.datumId ≠ s.dat.id ∧ s.dat.phase = 0 ∧ s.pair.peerLoad = false then s.desync 3
    else s.backCrc
  | .single => s

/-- PEER_HEARTBEAT. -/
def State.peerBeat (s : State) (f : List Byte) : State :=
  if s.net.sight.frozen || u8 f 0 != 1 || u8 f 1 != 2 || s.pair.state == .single then s
  else
    let b := parseBeat f
    let s := (s.ackReceive f).pairMod fun p =>
      { p with peer := b, beats := (p.beats.filter fun n => n != b.ri) ++ [b.ri] }
    let s := s.pairMod fun p => { p with beats := p.beats.drop (p.beats.length - 16) }
    (s.peerRequests b.reqBits).beatRole b

/-- PEER_HEARTBEAT (R583, R587, R593, R595, R598, R608). -/
def execPeerHeartbeat (f : List Byte) (s : State) : Host.Outcome State Fault Refusal := goOn s (s.peerBeat f)

/-- SIGHT_SYNC_RECEIVE (R245, R246). -/
def execSightSyncReceive (f : List Byte) (s : State) : Host.Outcome State Fault Refusal := goOn s (s.syncReceive f)

/-- SIGHT_ACK_RECEIVE (R245, R247, R583). -/
def execSightAckReceive (f : List Byte) (s : State) : Host.Outcome State Fault Refusal :=
  goOn s (if u8 f 1 = 1 then (s.ackReceive f).form else s)

end Sys2Proof.Machine
end

