-- ==== Sys2Proof/Machine/PairRole.lean ====
section
/-!
DEFINITION. Sys2Proof/Machine/PairRole.lean: the messages of the sight line, joining, takeover and handover (R581-R610,
Tables 14-4 to 14-11).
-/
namespace Sys2Proof.Machine

/-! ## Sequenced messages -/

/-- A sequenced message of a type reaches its consumer. -/
def State.sightMessage (s : State) (f : List Byte) (stype : Nat) (use : State → State) : State :=
  if u8 f 1 ≠ stype then s
  else
    let r := s.sequenced f
    if r.2 then use r.1 else r.1

/-- A COMMAND message of a kind (Table 14-4). -/
def State.commandMessage (s : State) (f : List Byte) (kind : Nat) (use : State → State) : State :=
  if u8 (sightPayload f) 0 = kind then s.sightMessage f 0x03 use else s

/-- A mirrored command as it will be applied: its packet, without AT_RI. -/
def mirroredReq (p : List Byte) (mseq order : Nat) : Req :=
  { parseReq 0 order p with origin := .mirror mseq, slot := u8 p 1, k := 0 }

/-- A mirrored command waits for its boundary; one that comes too late puts the Backsight out of step (R591,
R593 case 1). -/
def State.takeMirrored (s : State) (f : List Byte) : State :=
  let b := u64 f 8
  let p := sightPayload f
  let back := s.pair.state == .backsight || s.pair.state == .joining
  if !back then s
  else if b < s.nextBoundary then s.desync 1
  else s.addPending { req := mirroredReq (p.drop 8) (u32 p 4) (u32 p 4), due := b, atRi := false, acked := true }

/-- SIGHT_COMMAND_RECEIVE (R588, R591, R593). -/
def execSightCommandReceive (f : List Byte) (s : State) : Host.Outcome State Fault Refusal :=
  goOn s (s.commandMessage f 1 fun s => s.takeMirrored f)

/-- A result: of a peer load, or to be compared (R593 case 2, R606). -/
def State.takeResult (s : State) (f : List Byte) : State :=
  let p := sightPayload f
  let m := u32 p 4
  let st := u16 p 8
  match s.pair.loadReq with
  | some (n, r) =>
    if m ≠ n then s
    else
      let code := s.draw 32
      let index := code.2.draw 32
      let data := if st = Status.ok then zeros 8 else le 1 code.1 ++ zeros 3 ++ le 4 index.1
      let s := if st = Status.ok then s else index.2
      let s := (s.pairMod fun p => { p with loadReq := none }).finish r st data
      if st = Status.ok then s else s.goAlone
  | none =>
    if s.pair.state = .foresight then
      (s.pairMod fun p => { p with peerResults := p.peerResults ++ [(m, st)] }).judgeResults
    else s

/-- SIGHT_RESULT_RECEIVE (R591, R593). -/
def execSightResultReceive (f : List Byte) (s : State) : Host.Outcome State Fault Refusal :=
  goOn s (s.commandMessage f 2 fun s => s.takeResult f)

/-- A joiner keeps what comes for J (Table 14-8 step 4). -/
def State.takeSnapshotPart (s : State) (f : List Byte) : State :=
  if s.pair.state = .joining then
    s.pairMod fun p => { p with snapshot := p.snapshot ++ [sightPayload f], joinAt := some (u64 f 8) }
  else s

/-- SIGHT_SNAPSHOT_RECEIVE (R607). -/
def execSightSnapshotReceive (f : List Byte) (s : State) : Host.Outcome State Fault Refusal :=
  goOn s (s.commandMessage f 3 fun s => s.takeSnapshotPart f)

/-- SIGHT_IMAGE_RECEIVE (R607). -/
def execSightImageReceive (f : List Byte) (s : State) : Host.Outcome State Fault Refusal :=
  goOn s (s.commandMessage f 4 fun s => s.takeSnapshotPart f)

/-- Continuity records wait for their RI_BASE, or are adopted where it has passed (R595). -/
def State.takeRecords (s : State) (p : List Byte) : State :=
  let s := (List.range (u16 p 0)).foldl (fun s k =>
    let r := slice p (4 + 24 * k) 24
    let i := unitIndex (u16 r 0)
    if unitClass (u16 r 0) = 2 ∧ i < 512 then s.modTx i fun x => { x with adopt := some r } else s) s
  (s.pairMod fun q => { q with resent := true }).adoptDue

/-- A Backsight takes records; a joiner keeps them for J. -/
def State.takeStreamState (s : State) (f : List Byte) : State :=
  match s.pair.state with
  | .backsight => s.takeRecords (sightPayload f)
  | .joining => s.pairMod fun p => { p with snapshot := p.snapshot ++ [0xFF :: sightPayload f] }
  | .single | .seeking | .alone | .foresight | .isolated => s

/-- STREAM_STATE_RECEIVE (R595). -/
def execStreamStateReceive (f : List Byte) (s : State) : Host.Outcome State Fault Refusal :=
  goOn s (s.sightMessage f 0x04 fun s => s.takeStreamState f)

/-- A mirrored write is written to the same address; one outside the mirrored regions freezes the sight
line (R248, R594). -/
def State.takeWrite (s : State) (p : List Byte) : State :=
  let a := u64 p 0
  let d := p.drop 8
  if mirroredRegions.any fun r => decide (r.1 ≤ a) && decide (a + d.length ≤ r.2 + 1) then
    { s with mem := writeBytes s.mem a d }
  else s.freezeSight 5 0

/-- MEMORY_WRITE_RECEIVE (R248, R594). -/
def execMemoryWriteReceive (f : List Byte) (s : State) : Host.Outcome State Fault Refusal :=
  goOn s (s.sightMessage f 0x05 fun s => s.takeWrite (sightPayload f))

/-! ## ROLE messages (R589) -/

/-- A ROLE message of a kind. -/
def State.roleMessage (s : State) (f : List Byte) (kind : Nat) (use : State → State) : State :=
  if u8 (sightPayload f) 0 = kind then s.sightMessage f 0x06 use else s

/-- Why a JOIN_REQUEST is refused (R584, R589). Of the joiner's own render loop and PTP state the message says
nothing: the device judges its own. -/
def State.joinRefusal (s : State) (p : List Byte) : Option Nat :=
  firstFail
    [ (slice p 4 8 != slice s.pair.record 8 8, 1),
      ((u8 p 1 == 1) == s.pair.pairId, 2),
      ((s.loop s.time.render).cfg.ref != 1, 3),
      (!s.isReady Rdy.ptpLocked, 4),
      (decide (s.pair.offset < -1000) || decide (1000 < s.pair.offset), 5),
      (s.pair.joining || s.pair.peerLoad || s.dat.phase != 0, 6) ]

/-- The active device accepts or refuses a joiner. A joiner was a Backsight no more: a Foresight is alone first. -/
def State.joinAsked (s : State) (p : List Byte) : State :=
  if !s.pair.state.isFore then s
  else
    let s := if s.pair.state = .foresight then s.goAlone.peerLost 3 else s
    match s.joinRefusal p with
    | some why => s.sendRole 8 why 0 s.pair.state.code s.dat.id
    | none =>
      let s := s.pairMod fun q => { q with
        mseq := 0, results := [], peerResults := [], joining := true, joinAt := none, seekFrom := s.time.elapsed }
      (s.sendRole 2 0 0 s.pair.state.code s.dat.id).copyRegions

/-- JOIN_REQUEST (R584, R607). -/
def execJoinRequest (f : List Byte) (s : State) : Host.Outcome State Fault Refusal :=
  goOn s (s.roleMessage f 1 fun s => s.joinAsked (sightPayload f))

/-- The joiner enters JOINING. -/
def State.joinAccepted (s : State) (p : List Byte) : State :=
  if s.pair.state = .seeking ∨ s.pair.state = .isolated then
    (s.dropMirrored.enterPair .joining).pairMod fun q => { q with joinId := u64 p 12, joinAt := none, mseqDone := 0 }
  else s

/-- JOIN_ACCEPT (R607). -/
def execJoinAccept (f : List Byte) (s : State) : Host.Outcome State Fault Refusal :=
  goOn s (s.roleMessage f 2 fun s => s.joinAccepted (sightPayload f))

/-- The Foresight enters FORESIGHT (Table 14-8 step 5). -/
def State.joinDone (s : State) : State :=
  if s.pair.state = .alone ∧ s.pair.joining = true then
    (s.pairMod fun p => { p with
      state := .foresight, joining := false, settled := false, misses := 0, crcDiff := 0, resent := false
      since := s.time.ri }).showPair
  else s

/-- JOIN_DONE (R582, R607). -/
def execJoinDone (f : List Byte) (s : State) : Host.Outcome State Fault Refusal :=
  goOn s (s.roleMessage f 3 State.joinDone)

/-- A Backsight accepts a handover at H (R605). -/
def State.handoverAsked (s : State) (h : Nat) : State :=
  if s.pair.state = .backsight ∧ s.time.ri < h then
    (s.pairMod fun p => { p with handover := some { h := h, req := none, acked := true } }).sendRole 5 0 h
      s.pair.state.code s.dat.id
  else s

/-- HANDOVER (R605). -/
def execHandover (f : List Byte) (s : State) : Host.Outcome State Fault Refusal :=
  goOn s (s.roleMessage f 4 fun s => s.handoverAsked (u64 f 8))

/-- HANDOVER_ACK (R605). -/
def State.handoverAcked (s : State) (h : Nat) : State :=
  s.pairMod fun p => { p with handover := p.handover.map fun x => if x.h = h then { x with acked := true } else x }

/-- HANDOVER_ACK (R605). -/
def execHandoverAck (f : List Byte) (s : State) : Host.Outcome State Fault Refusal :=
  goOn s (s.roleMessage f 5 fun s => s.handoverAcked (u64 f 8))

/-- The old Foresight learns of a takeover and stays held (R603, R608). -/
def State.overtaken (s : State) : State := if s.pair.state.isFore then s.dropPeerLoad.seek else s

/-- TAKEOVER (R603). -/
def execTakeover (f : List Byte) (s : State) : Host.Outcome State Fault Refusal :=
  goOn s (s.roleMessage f 6 State.overtaken)

/-- The peer leaves; reason 2 tells a Backsight that its result differed (R593 case 2, R609). -/
def State.peerLeaves (s : State) (reason : Nat) : State :=
  match s.pair.state with
  | .foresight => s.goAlone.peerLost 3
  | .alone => s.pairMod fun p => { p with joining := false }
  | .joining => s.seek
  | .backsight => if reason = 2 then s.desync 2 else s.seek.peerLost 3
  | .single | .seeking | .isolated => s

/-- LEAVE (R593, R609). -/
def execLeave (f : List Byte) (s : State) : Host.Outcome State Fault Refusal :=
  goOn s (s.roleMessage f 7 fun s => s.peerLeaves (u8 (sightPayload f) 3))

/-- REFUSE: the joiner learns the reason and stays as it is (R584). -/
def execRefuse (f : List Byte) (s : State) : Host.Outcome State Fault Refusal :=
  goOn s (s.roleMessage f 8 id)

/-! ## Joining (Table 14-8 steps 5 and 6) -/

/-- At J the joiner starts from the snapshot. -/
def State.joinStart (s : State) : State :=
  match s.pair.joinAt with
  | none => s
  | some j =>
    if s.pair.state ≠ .joining ∨ s.time.ri < j ∨ s.dat.phase ≠ 0 then s
    else
      let records := (s.pair.snapshot.filter fun m => u8 m 0 == 0xFF).map (·.drop 1)
      let s := records.foldl State.takeRecords s.startSnapshot
      let s := s.pairMod fun p => { p with state := .backsight, snapshot := [], misses := 0, settled := false, resent := false }
      s.sendRole 3 0 0 s.pair.state.code s.dat.id

/-- JOIN_SNAPSHOT_START (R607). -/
def execJoinSnapshotStart (s : State) : Host.Outcome State Fault Refusal := goOn s s.joinStart

/-- At J + 3 s the pair is settled (R582). -/
def State.pairSettles (s : State) : State :=
  let p := s.pair
  match p.joinAt with
  | none => s
  | some j =>
    if p.settled || !(p.state == .foresight || p.state == .backsight) || decide (s.time.ri < j + 3 * s.rate) then s
    else
      ((s.pairMod fun p => { p with settled := true }).showPair).event 0x0B01 Sev.notice 0x0B 0x0000
        (le 1 p.state.code ++ zeros 3 ++ le 4 j)

/-- PAIR_SETTLED (R582, R607). -/
def execPairSettled (s : State) : Host.Outcome State Fault Refusal := goOn s s.pairSettles

/-! ## Takeover (R601-R603) -/

/-- Insert a frame by age, then stream; earlier frames of one stream stay first. -/
def insertReplay (x : Nat × Nat × Nat × List Byte) :
    List (Nat × Nat × Nat × List Byte) → List (Nat × Nat × Nat × List Byte)
  | [] => [x]
  | y :: ys =>
    if x.1 < y.1 ∨ (x.1 = y.1 ∧ x.2.1 < y.2.1) then x :: y :: ys else y :: insertReplay x ys

/-- Launch one replayed frame (R602). -/
def State.replayFrame (s : State) (x : Nat × Nat × Nat × List Byte) : State :=
  let e := (s.tx x.2.1).entry
  let k := if Ent.island e then 0 else if Ent.flag e 5 then 3 else 2
  (s.modTx x.2.1 fun t => t.count x.2.2.1).queueTx x.2.2.1 k
    { plainFrame x.2.2.2 with lastRi := some x.1, replay := true }

/-- Frames whose last sample lies at or after the last LAUNCHED_RI are launched, oldest first; the rest leave
the buffer unsent. -/
def State.replayAll (s : State) : State :=
  let all := s.pair.replay
  let sent := fun x : Nat × Nat × Nat × List Byte => decide (s.pair.peer.launchedRi < x.1)
  let s := (s.pairMod fun p => { p with replay := [] }).dropReplay (all.filter fun x => !sent x)
  ((all.filter sent).foldl (fun l x => insertReplay x l) []).foldl State.replayFrame s

/-- The fence, or HB_ONLY, lets a Backsight take over (R580, R601). -/
def PairPart.mayTake (p : PairPart) : Bool :=
  p.state == .backsight && decide (3 ≤ p.misses) && ((p.fenced && !p.fenceIn) || p.hbOnly)

/-- The Backsight takes over at this boundary (R602). -/
def State.takeover (s : State) : State :=
  let p := s.pair
  if !p.mayTake then s
  else
    let s := ((s.enterPair .alone).judgeHeld s).pairMod fun q => { q with
      takeovers := (q.takeovers + 1) % 4294967296, lastTake := s.time.ri }
    let s := s.replayAll.announce
    let s := s.sendRole 6 0 s.time.ri s.pair.state.code s.dat.id
    s.event 0x0B03 Sev.error 0x0B 0x0000 (le 1 (min 255 p.misses) ++ zeros 3 ++ le 4 s.time.ri)

/-- PAIR_TAKEOVER (R580, R597, R601, R602). -/
def execPairTakeover (s : State) : Host.Outcome State Fault Refusal := goOn s s.takeover

/-- The fence is still asserted 2 blocks after the third miss (R601). -/
def State.fenceExpires (s : State) : State :=
  let p := s.pair
  if p.state == .backsight && p.peerFenced && (p.fenceWait.map fun n => decide (2 ≤ n)).getD false then s.isolate else s

/-- FENCE_WAIT_EXPIRE (R601). -/
def execFenceWaitExpire (s : State) : Host.Outcome State Fault Refusal := goOn s s.fenceExpires

/-- A fence conflict: the device with PAIR_ID 1 yields (R586). -/
def State.fenceConflict (s : State) : State :=
  let p := s.pair
  if p.pairId && p.active && p.fenced && decide (2 ≤ p.fenceRun) then (s.dropPeerLoad.seek).pairSplit 2 else s

/-- FENCE_CONFLICT (R586). -/
def execFenceConflict (s : State) : Host.Outcome State Fault Refusal := goOn s s.fenceConflict

/-- The hold of the own outputs begins or ends. -/
def State.setSelfHold (s : State) (h : Option Nat) : State :=
  (s.pairMod fun p => PairPart.fence { p with selfHold := h, holdAt := none }).judgeHeld s

/-- A Foresight holds its shared outputs after its third withheld heartbeat (R603). -/
def State.foreHold (s : State) : State :=
  let p := s.pair
  match p.holdAt with
  | none => s
  | some h =>
    if s.time.ri < h then s
    else if p.state == .foresight && (p.fenced || p.hbOnly) then s.setSelfHold (some s.time.ri)
    else s.pairMod fun p => { p with holdAt := none }

/-- FORESIGHT_HOLD (R603). -/
def execForesightHold (s : State) : Host.Outcome State Fault Refusal := goOn s s.foreHold

/-- One further block without a takeover: the outputs are released again; with the peer's fence asserted the
device seeks, still held (R603). -/
def State.foreRelease (s : State) : State :=
  match s.pair.selfHold with
  | none => s
  | some h =>
    if !s.pair.state.isFore || decide (s.time.ri < h + s.blockLen) then s
    else if s.pair.peerFenced then s.dropPeerLoad.seek
    else s.goAlone.setSelfHold none

/-- FORESIGHT_RELEASE (R603). -/
def execForesightRelease (s : State) : Host.Outcome State Fault Refusal := goOn s s.foreRelease

/-- A held old Foresight rejoins once its own heartbeat has been sent for 3 s (R603, R608). -/
def State.foreRejoin (s : State) : State :=
  let p := s.pair
  if p.state == .seeking && p.selfHold.isSome && p.withheld == 0 && decide (p.beatFrom + 3 * second ≤ s.time.elapsed) then
    (s.setSelfHold none).requestJoin
  else s

/-- FORESIGHT_REJOIN (R603). -/
def execForesightRejoin (s : State) : Host.Outcome State Fault Refusal := goOn s s.foreRejoin

/-- No SYNC within the seek time (R583). -/
def State.seekTimeout (s : State) : State :=
  let p := s.pair
  if p.state == .seeking && p.selfHold.isNone && !p.heard && decide (p.seekFrom + p.seekNs ≤ s.time.elapsed) &&
      !p.peerFenced then s.becomeAlone
  else s

/-- PAIR_SEEK_TIMEOUT (R583). -/
def execPairSeekTimeout (s : State) : Host.Outcome State Fault Refusal := goOn s s.seekTimeout

/-- PEER_OFFSET has exceeded 5 us for 1 s (R608). -/
def State.skew (s : State) : State :=
  match s.pair.skewFrom with
  | none => s
  | some t =>
    if s.pair.skewSent || decide (s.time.elapsed < t + second) then s
    else (s.pairMod fun p => { p with skewSent := true }).event 0x0B07 Sev.warning 0x0B 0x0000 (zeros 4 ++ leI 4 s.pair.offset)

/-- PAIR_SKEW (R608). -/
def execPairSkew (s : State) : Host.Outcome State Fault Refusal := goOn s s.skew

/-! ## Voluntary handover (R605, R606) -/

/-- A handover ends without effect. -/
def State.dropHandover (s : State) (x : Handover) : State :=
  let s := s.pairMod fun p => { p with handover := none }
  match x.req with
  | some r => s.finish r Status.timeout []
  | none => s

/-- At H the active role moves. A device that is no longer in its part, or unacknowledged, stays. In a peer load
the devices part: they run different datums (R606). -/
def State.handoverNow (s : State) : State :=
  match s.pair.handover with
  | none => s
  | some x =>
    let p := s.pair
    let fore := p.state == .foresight
    if s.time.ri < x.h then s
    else if !(x.acked && (fore || p.state == .backsight)) then s.dropHandover x
    else
      let next := if fore then (if p.peerLoad then PState.seeking else PState.backsight)
        else if p.peerLoad then PState.alone else PState.foresight
      let t := (s.enterPair next).judgeHeld s
      let t := (t.pairMod fun q => { q with
        settled := !p.peerLoad, switchRi := some x.h, handover := none, loadReq := none, joinAt := p.joinAt
        mseq := if fore then q.mseq else q.mseqDone, mseqDone := if fore then q.mseq else q.mseqDone }).showPair
      let t := if fore then t else t.announce
      let t := t.event 0x0B04 Sev.notice 0x0B 0x0000 (le 1 next.code ++ zeros 3 ++ le 4 x.h)
      let t := match p.loadReq with
        | some (_, r) => t.finish r Status.ok (zeros 8)
        | none => t
      match x.req with
      | some r => t.finish r Status.ok []
      | none => t

/-- HANDOVER_BOUNDARY (R597, R605, R606). -/
def execHandoverBoundary (s : State) : Host.Outcome State Fault Refusal := goOn s s.handoverNow

/-- Without HANDOVER_ACK by H - 2L the handover is abandoned (R605). -/
def State.handoverLate (s : State) : State :=
  match s.pair.handover with
  | none => s
  | some x => if !x.acked && decide (x.h ≤ s.time.ri + 2 * s.blockLen) then s.dropHandover x else s

/-- HANDOVER_ABANDON (R605). -/
def execHandoverAbandon (s : State) : Host.Outcome State Fault Refusal := goOn s s.handoverLate

end Sys2Proof.Machine
end

