-- ==== Sys2Proof/Machine/PairOps.lean ====
section
/-!
DEFINITION. Sys2Proof/Machine/PairOps.lean: the pair opcodes (R579, R605, R606, R609, Tables 14-1, 14-10).
-/
namespace Sys2Proof.Machine

/-- PAIR_STATUS reply (Table 14-10). -/
def pairStatusData (s : State) : List Byte :=
  let p := s.pair
  le 1 p.state.code ++ le 1 (b2n p.pairId) ++ slice p.record 0 1 ++ zeros 1 ++ le 1 p.peer.pstate ++ le 1 p.peer.hfl
    ++ le 1 (min 255 p.misses) ++ le 1 (b2n p.fenceIn + 2 * b2n p.fenceOut) ++ le 4 p.mseq ++ le 4 p.peer.mseqDone
    ++ leI 4 p.offset ++ le 4 p.takeovers ++ le 8 p.lastTake ++ le 8 p.peer.datumId

def pairStatusBody : Body := query fun _ s => pairStatusData s

/-- PAIR_STATUS (R581). -/
def execPairStatus (q : Nat) (s : State) : Host.Outcome State Fault Refusal :=
  commandRow "PAIR_STATUS" 0x0B00 pairStatusBody q s

/-! ## PAIR_CONFIG (R579, R583) -/

/-- A record that R579 refuses. -/
def pairRecordBad (b : List Byte) : Bool :=
  let f := u8 b 0
  decide (16 ≤ f) || (bitOf f 1 && bitOf f 2) || decide (31 < u8 b 1) || decide (31 < u8 b 2) || u8 b 1 == u8 b 2 ||
    u8 b 3 == 0 || decide (60 < u8 b 3) || decide (u16 b 4 < 500) || decide (10000 < u16 b 4) || !zeroAt b 6 2 ||
    u64 b 8 == 0 || !zeroAt b 56 8

def pairConfigCheck (r : Req) (s : State) : Option Nat :=
  let st := s.pair.state
  firstFail
    [ (pairRecordBad r.params, Status.badParam),
      (!(st == .single || st == .seeking || st == .alone), Status.busy) ]

/-- A record takes effect: ENABLE begins to seek, its clearing ends the pair. -/
def State.takePairRecord (s : State) (b : List Byte) : State :=
  let was := s.pair.enabled
  let t := s.pairMod fun p => { p with record := b }
  let t :=
    if !t.pair.enabled then t.enterPair .single
    else if was then t.pairMod PairPart.fence
    else (t.enterPair .seeking).pairMod fun p => { p with
      seekFrom := s.time.elapsed, heard := false, peer := PeerBeat.reset, beats := [], takeovers := p.takeovers }
  t.judgeHeld s

/-- PAIR_CONFIG: with PERSIST the flash key record keeps the record (R76, R579). -/
def setPairConfig (r : Req) (s : State) : State :=
  let s := s.takePairRecord r.params
  if bitOf (u8 r.params 0) 3 then { s with sys := { s.sys with keyPair := some r.params } } else s

def pairConfigBody : Body := atOnce pairConfigCheck setPairConfig

/-- PAIR_CONFIG (R579, R583, R587). -/
def execPairConfig (q : Nat) (s : State) : Host.Outcome State Fault Refusal :=
  commandRow "PAIR_CONFIG" 0x0B01 pairConfigBody q s

/-! ## PAIR_HANDOVER (R605) -/

/-- The peer is in BACKSIGHT, settled, and has applied every mirrored command; in a peer load it runs another
datum (R606). -/
def State.peerTakes (s : State) : Bool :=
  let p := s.pair
  p.peer.pstate == 5 && p.settled && p.peer.mseqDone == p.mseq &&
    (!p.peerLoad || (p.peer.datumId != 0 && p.peer.datumId != s.dat.id))

def pairHandoverBody : Body := fun _ r s =>
  let h := r.at?.getD (s.boundaryAfterUs s.leadUs)
  if s.pair.state ≠ .foresight then .bad Status.pairRole
  else if s.peerTakes = false then .bad Status.notReady
  else if s.pair.handover.isSome then .bad Status.busy
  else
    .hold true ((s.pairMod fun p => { p with handover := some { h := h, req := some r, acked := false } }).sendRole 4 0 h
      s.pair.state.code s.dat.id)

/-- PAIR_HANDOVER (R605, R609). -/
def execPairHandover (q : Nat) (s : State) : Host.Outcome State Fault Refusal :=
  commandRow "PAIR_HANDOVER" 0x0B02 pairHandoverBody q s

/-! ## PAIR_PEER_LOAD (R606) -/

/-- The Backsight begins the load: its result goes to the Foresight. -/
def State.beginPeerLoad (s : State) (r : Req) : Verdict :=
  if s.dat.phase ≠ 0 then .bad Status.busy
  else .deferred ((s.pairMod fun p => { p with peerLoad := true }).beginLoad (some r) 0 (u64 r.params 0) (u32 r.params 8))

/-- The Foresight mirrors the image and the command, and nothing after it. -/
def State.sendPeerLoad (s : State) (r : Req) : State :=
  let a := u64 r.params 0
  let n := u32 r.params 8
  let idle := s.idleSlot
  let host := inHostMemory a n
  let m := min n imageMost
  let s := if host then
      let d := s.sourceRead r a m
      ({ s with mem := writeBytes s.mem idle d }).mirrorWrite idle d (m / 8952 + 1)
    else s
  let params := if host then le 8 idle ++ slice r.params 8 8 else r.params
  let s := s.mirrorCommand { r with params := params } (s.boundaryAfterUs s.leadUs)
  s.pairMod fun p => { p with peerLoad := true, loadReq := some (p.mseq, r) }

def pairPeerLoadBody : Body := fun _ r s =>
  let a := u64 r.params 0
  let n := u32 r.params 8
  match r.origin with
  | .mirror _ => s.beginPeerLoad r
  | .host | .entry | .service =>
    if s.pair.state ≠ .foresight then .bad Status.pairRole
    else if zeroAt r.params 12 4 = false ∨ n = 0 ∨ oneRegion a n = false then .bad Status.badParam
    else if !(inHostMemory a n || (mirroredAddr a && mirroredAddr (a + n - 1))) then .bad Status.pairRole
    else if r.mayRead s a n = false then .fail Status.noAccess (le 1 1 ++ zeros 7)
    else if s.pair.settled = false then .bad Status.notReady
    else if s.pair.peerLoad || s.dat.phase != 0 then .bad Status.busy
    else .deferred (s.sendPeerLoad r)

/-- PAIR_PEER_LOAD (R592, R606, R609, R666). -/
def execPairPeerLoad (q : Nat) (s : State) : Host.Outcome State Fault Refusal :=
  commandRow "PAIR_PEER_LOAD" 0x0B03 pairPeerLoadBody q s

/-! ## PAIR_LEAVE and PAIR_REJOIN (R609) -/

def State.leavePair (s : State) : State :=
  if s.pair.state.isFore then (s.sendRole 7 0 0 s.pair.state.code s.dat.id).goAlone
  else if s.pair.state.isBack then s.seek
  else s

def pairLeaveBody : Body := fun _ _ s => .done s.leavePair []

/-- PAIR_LEAVE (R609). -/
def execPairLeave (q : Nat) (s : State) : Host.Outcome State Fault Refusal :=
  commandRow "PAIR_LEAVE" 0x0B04 pairLeaveBody q s

def pairRejoinBody : Body := fun _ _ s =>
  .done (if s.pair.state = .seeking ∨ s.pair.state = .isolated then s.requestJoin else s) []

/-- PAIR_REJOIN (R609). -/
def execPairRejoin (q : Nat) (s : State) : Host.Outcome State Fault Refusal :=
  commandRow "PAIR_REJOIN" 0x0B05 pairRejoinBody q s

end Sys2Proof.Machine
end

