-- ==== Sys2Proof/Machine/TxStamps.lean ====
section
/-!
DEFINITION. Sys2Proof/Machine/TxStamps.lean: transmit timestamps: taking them, their queues, and their delivery to
the host that asked (R172-R177, Table 4-1).
-/
namespace Sys2Proof.Machine

/-- The transmit stamp of a frame that leaves port `p` now: the egress delay is added, and the fraction is a
multiple of a quarter of a nanosecond (R172, R173). -/
def State.txTime (s : State) (p : Nat) : DevTime :=
  let d := tget PortDelay.reset s.time.delays p
  let add : Nat := (d.outNs * 65536 + d.outFrac) * 65536
  s.time.now.shift add

/-- The stamp's 16-bit fraction. -/
def DevTime.stampFrac (t : DevTime) : Nat := t.frac / 65536 / 0x4000 * 0x4000

/-- MER_TX_STAMP to the host slot that asked (R175, Table 4-12): the record's time is the stamp. -/
def State.sendStamp (s : State) (x : TxStamp) : State :=
  match x.slot with
  | none => s
  | some i => s.raise
    { code := 0x0709, sev := Sev.info, eclass := 0x07, unit := 0, gen := 0, sec := x.sec
      ns := x.ns, detail := le 2 x.tag ++ le 1 x.port ++ le 1 x.tflags ++ le 2 x.frac, whom := .slot i
      force := false }

/-- Firmware drains the timestamp queues while it runs. -/
def State.drainStamps (s : State) : State :=
  if s.sys.running then
    let all := s.time.stamps.flatMap (·.2)
    all.foldl State.sendStamp { s with time := { s.time with stamps := [] } }
  else s

/-- A stamp is taken: it enters the port's queue of 16, or is dropped and counted (R174, R176). -/
def State.takeStamp (s : State) (p : Nat) (f : TxFrame) : State :=
  let held := tget [] s.time.stamps p
  if 16 ≤ held.length then
    let s := (s.countPort p Ctr.tsOverflow 1).timeMod fun t => { t with lost := p :: t.lost.filter (· != p) }
    s.oncePerSecond (0x70800 + p) fun s =>
      s.event 0x0708 Sev.warning 0x07 0x0000 (le 1 p ++ zeros 3 ++ le 4 (tget 0 (s.port p).counters Ctr.tsOverflow))
  else
    let t := s.txTime p
    let flags := b2n f.oneStep + 2 * b2n (s.time.lost.contains p)
    let x : TxStamp :=
      { tag := f.tag, port := p, tflags := flags, sec := t.sec, ns := t.ns, frac := t.stampFrac, slot := f.slot }
    let s := s.timeMod fun t => { t with
      stamps := tput [] t.stamps p (held ++ [x]), lost := t.lost.filter (· != p) }
    s.drainStamps

end Sys2Proof.Machine
end

