-- ==== Sys2Proof/Machine/Cluster.lean ====
section
/-!
DEFINITION. Sys2Proof/Machine/Cluster.lean: the control cluster's boots and restarts, recovery and halt, and
what a restart ends (R51, R52, R559, R614, R615, R620-R625, R627, R629, R633).
-/
namespace Sys2Proof.Machine

def State.sysMod (s : State) (f : SysPart → SysPart) : State := { s with sys := f s.sys }

/-- Set a bit of the FIRMWARE sticky word (Table 15-10): 0 WATCHDOG, 1 FATAL, 2 REVERTED, 3 BANK_BAD. -/
def State.markFirmware (s : State) (bit : Nat) : State :=
  { s with sticky := { s.sticky with firmware := setBit s.sticky.firmware bit true } }

/-! ## What a restart ends (R614, R629, Table 15-9) -/

/-- An unowned main channel stops; its current station is not written back. -/
def State.stopUnowned (s : State) (c : Nat) : State :=
  let x := s.chan c
  if x.slot?.isSome || x.frozen then s
  else (s.setChan c { x with
    state := .idle, station := none, extPending := false, held := false, reread := false }).releaseEngine c

/-- A SYS_FW_STAGE cut short: the bank holds an image that nobody verified, its first word open, and is
not staged. -/
def State.stageCut (s : State) : State :=
  match s.sys.stage with
  | none => s
  | some j =>
    let s := s.sysMod fun x => { x with stage := none }
    if j.bad.isSome ∨ Fw.target j.image ≠ 0 then s
    else
      let d := s.draw 32
      d.2.writeBank (if s.sys.recovery then 0 else 1 - s.sys.fwBank) (le 4 d.1 ++ j.image.drop 4)

/-- Deferred commands that firmware was carrying out end with INTERNAL once it runs again. -/
def State.loseFetches (s : State) : State :=
  let stage := s.sys.stage.toList.map fun j => (j.req, zeros 8)
  let alm := s.alm.load.toList.map fun f => (f.req, zeros 8)
  let s := match s.alm.load with
    | some f => (s.setAlmBank f.bank AlmBank.reset).almMod fun t => { t with load := none }
    | none => s
  (s.sysMod fun x => { x with lost := x.lost ++ stage ++ alm }).stageCut

/-- The cluster restarts (R51, R611): HOST_QUEUES clears, what it was doing ends, audio goes on. -/
def State.clusterRestart (s : State) (cause : Nat) : State :=
  let s := { s with sticky := { s.sticky with
    resetCause := cause, restarts := satAdd 0xFFFFFFFF s.sticky.restarts 1 } }
  let s := if cause = 0x10 then s.markFirmware 0 else if cause = 0x13 then s.markFirmware 1 else s
  let s := (s.abandonLoad).loseFetches
  let s := (List.range 32).foldl State.stopUnowned s
  let s := s.setReady Rdy.hostQueues false
  { s with
    host := { s.host with ordered := [] }
    dat := { s.dat with stages := [] }
    sys := { s.sys with running := false, staged := none, switching := cause == 0x12 } }

/-! ## Firmware starts (R615, R620, R623, R633) -/

/-- SYS_BOOT is offered to every slot, whatever its filter. -/
def State.sendBoot (s : State) : State :=
  let m := s.sticky.memory.toNat
  s.raise { code := 0x0110, sev := if bitOf m 4 || bitOf m 5 then Sev.error else Sev.notice, eclass := 0x01,
            unit := 0, gen := 0, sec := s.time.now.sec, ns := s.time.now.ns
            detail := le 1 s.sticky.resetCause ++ le 1 s.sys.fwBank ++ le 1 m ++ zeros 1 ++ le 4 s.host.bootCount
            whom := .all, force := true }

/-- Events that waited for firmware are delivered in the order raised, then those of the island; transmit
stamps that waited are drained (R175). -/
def State.deliverStore (s : State) : State :=
  let held := s.sys.store
  ((held.foldl State.deliver (s.sysMod fun x => { x with store := [] })).drainIslandEvents 260).drainStamps

/-- Banks that failed at this boot (R620). -/
def State.reportBanks (s : State) (failed : List (Nat × Nat)) : State :=
  failed.foldl (fun s f => s.event 0x0115 Sev.error 0x01 0x0000 (le 1 f.1 ++ le 1 f.2)) s

/-- Firmware runs from bank `k`: HOST_QUEUES sets. -/
def State.firmwareRuns (s : State) (k : Nat) : State :=
  (s.sysMod fun x => { x with
    running := true, booted := true, fwBank := k, fwVersion := s.bankVersion k, clusterAt := s.time.elapsed
    latch := false, recovery := false }).setReady Rdy.hostQueues true

/-- In recovery and halt the fabric runs the default profile with no program, and every level-0 output is
silent (R622). -/
def State.stripAudio (s : State) : State :=
  let p := min 4 (BaseRec.defProfile s.baseRecord)
  let s := if s.fab.active = p then s else s.takeProfile p false
  let s := (s.datumReady false false).datMod fun d => { d with
    id := 0, phase := 0, job := none, boundary := none, applied := false
    fade := { pos := 64, len := 64, up := false }
    ovl := d.ovl.map fun o => (o.1, { Ovl.reset with stored := o.2.stored }) }
  s.undelegate.resetAudio

/-- No bank passes: recovery if RECOVERY is set, else halt (R620, R622). -/
def State.romStays (s : State) : State :=
  let allowed := bitOf (BaseRec.bootPolicy s.baseRecord) 3
  (s.sysMod fun x => { x with recovery := allowed, halted := !allowed, latch := false }).stripAudio

/-- Mark BANK_BAD where a bank failed. -/
def State.noteFailed (s : State) (failed : List (Nat × Nat)) : State :=
  if failed = [] then s else s.markFirmware 3

/-! ## The first boot after a main reset (Table 15-8 step 6) -/

/-- A trial that a main reset ended: the record is written as for a timeout (R627). -/
def State.endTrialRecord (s : State) : State := if s.trialBank.isSome then s.settleBoot s.verifiedBank else s

/-- A stored binding of H6 or H7 is restored (R76). -/
def State.restoreBinding (s : State) (i : Nat) : State :=
  let b := tget UdpBinding.reset s.sys.keyUdp i
  if b.bound then s.modSlot i fun x => { x with udp := { b with floor := 0, lastPort := 0, devSeq := 0 } } else s

/-- The flash key record is applied: bindings, and the pair record (R76, R579). -/
def State.applyKeys (s : State) : State :=
  let s := (s.restoreBinding 6).restoreBinding 7
  match s.sys.keyPair with
  | some b => s.takePairRecord b
  | none => s

/-- Functions that Table 15-8 steps 6 and 7 make ready. -/
def State.firmwareReady (s : State) : State :=
  let s := ((((s.setReady Rdy.traverse true).setReady Rdy.streams true).setReady Rdy.tdm true).setReady Rdy.aes3 true)
  s.setReady Rdy.field (!(tget Loop.reset s.time.loops 0).fallback)

/-- The datum source that BOOT_POLICY selects (R559). A load that the memory's self-tests rule out fails
(R624). -/
def State.bootDatum (s : State) : State :=
  if 2 ≤ BaseRec.bootPolicy s.baseRecord % 8 then s
  else if s.isReady Rdy.fieldStore && s.isReady Rdy.longStore then s.beginLoad none 1 0 0
  else s.event 0x0202 Sev.error 0x02 0x0000 (zeros 8)

/-- Bank `k` boots after a main reset. -/
def State.firstBoot (s : State) (k : Nat) (failed : List (Nat × Nat)) : State :=
  let s := ((s.endTrialRecord.firmwareRuns k).firmwareReady).applyKeys
  ((s.sendBoot.reportBanks failed).deliverStore).bootDatum

/-- The ROM's choice at the first boot; a recovery that BOOT[2:0] requests and BOOT_POLICY permits comes
first. The boot count is stored (R73). -/
def State.romBoots (s : State) : State :=
  if s.sys.inReset || s.sys.booted || s.sys.recovery || s.sys.halted then s
  else
    let s := s.sysMod fun x => { x with keyBoot := s.host.bootCount }
    if s.sys.bootPins = 4 ∧ bitOf (BaseRec.bootPolicy s.baseRecord) 3 = true then s.romStays
    else
      let failed := s.romFailed
      let s := s.noteFailed failed
      match s.romChoice with
      | some k => s.firstBoot k failed
      | none => s.romStays

/-- FIRMWARE_BOOT (R73, R76, R559, R617, R619, R620, R622, R623, R633). -/
def execFirmwareBoot (s : State) : Host.Outcome State Fault Refusal := goOn s s.romBoots

/-! ## After a cluster restart (R625, R627) -/

/-- What the restart does to a trial: the one SYS_FW_SWITCH made runs it if the trial bank boots; any
other ends it, and the record is settled on the verified bank. -/
def State.judgeTrial (s : State) (k : Nat) : State :=
  if s.sys.trial.isSome ∧ ¬(s.sys.switching = true ∧ s.trialBank = some k) then
    ((s.settleBoot s.verifiedBank).markFirmware 2).sysMod fun x =>
      { x with trial := none, reverted := some s.sticky.resetCause }
  else s

/-- Events of a trial that began or was reverted (Table 15-13). -/
def State.reportTrial (s : State) : State :=
  let s := if s.sys.switching && s.sys.trial.isSome then
      s.event 0x0112 Sev.notice 0x01 0x0000 (zeros 1 ++ le 1 s.sys.fwBank ++ zeros 2 ++ le 4 s.sys.fwVersion)
    else s
  let s := match s.sys.reverted with
    | some c => s.event 0x0114 Sev.error 0x01 0x0000 (le 1 c ++ le 1 s.sys.fwBank)
    | none => s
  s.sysMod fun x => { x with switching := false, reverted := none }

/-- DAT_LOAD_FAILED for an abandoned load, and the final replies of commands that the restart ended
(R558). -/
def State.answerLost (s : State) : State :=
  let s := if s.dat.abandoned then
      (s.datMod fun d => { d with abandoned := false }).event 0x0202 Sev.error 0x02 0x0000 (zeros 8)
    else s
  let l := s.sys.lost
  l.foldl (fun s x => s.finish x.1 Status.internal x.2) (s.sysMod fun x => { x with lost := [] })

/-- Firmware is back after a restart of the cluster. -/
def State.clusterBack (s : State) (k : Nat) (failed : List (Nat × Nat)) : State :=
  let s := (s.judgeTrial k).firmwareRuns k
  (((s.sendBoot.reportBanks failed).reportTrial).deliverStore).answerLost

/-- The ROM's choice after a restart. -/
def State.clusterBoots (s : State) : State :=
  if s.sys.inReset || !s.sys.booted || s.sys.running || s.sys.recovery || s.sys.halted then s
  else
    let failed := s.romFailed
    let s := s.noteFailed failed
    match s.romChoice with
    | some k => s.clusterBack k failed
    | none => s.romStays

/-- CLUSTER_READY (R51, R615, R620, R625, R627, R633). -/
def execClusterReady (s : State) : Host.Outcome State Fault Refusal := goOn s s.clusterBoots

/-- A restart that nobody commanded (R614). -/
def State.clusterFails (s : State) (cause : Nat) : State := if s.sys.running then s.clusterRestart cause else s

/-- CLUSTER_WATCHDOG_EXPIRE (R614). -/
def execClusterWatchdogExpire (s : State) : Host.Outcome State Fault Refusal := goOn s (s.clusterFails 0x10)

/-- FIRMWARE_FATAL_ERROR (R614). -/
def execFirmwareFatalError (s : State) : Host.Outcome State Fault Refusal := goOn s (s.clusterFails 0x13)

def sysRestartClusterBody : Body := fun _ r _ =>
  if u32 r.params 0 ≠ 0x9624 then .bad Status.badParam else .only fun s => s.clusterRestart 0x11

/-- SYS_RESTART_CLUSTER (R104). -/
def execSysRestartCluster (q : Nat) (s : State) : Host.Outcome State Fault Refusal :=
  commandRow "SYS_RESTART_CLUSTER" 0x010B sysRestartClusterBody q s

end Sys2Proof.Machine
end

