-- ==== Sys2Proof/Machine/Firmware.lean ====
section
/-!
DEFINITION. Sys2Proof/Machine/Firmware.lean: firmware updates in service: staging, trials and their ends (R626-R628,
R634, Table 15-14).
-/
namespace Sys2Proof.Machine

/-- First byte and size of the firmware staging region (Table 1-6). -/
def stagingBase : Nat := 0x3E2000000
def stagingSize : Nat := 0x4000000

/-! ## Status -/

/-- Seconds until the trial ends by itself (R627); 0 outside a trial. -/
def State.trialLeft (s : State) : Nat :=
  match s.sys.trial with
  | none => 0
  | some t =>
    let last := if t.auto then s.sys.clusterAt + 60 * second else t.from_ + 600 * second
    (last - s.time.elapsed) / second

/-- Without a valid copy no boot record is in force, and its 64 bytes are open. -/
def sysFwStatusBody : Body := fun _ _ s =>
  let rest := le 1 s.sys.fwBank ++ le 1 (s.sys.staged.getD 0xFF) ++ le 2 s.trialLeft ++ le 4 (s.bankVersion 0)
    ++ le 4 (s.bankVersion 1)
  match s.bootRecord with
  | some r => .done s (r.2 ++ rest)
  | none =>
    let d := s.draw 512
    .done d.2 (le 64 d.1 ++ rest)

/-- SYS_FW_STATUS (R617). -/
def execSysFwStatus (q : Nat) (s : State) : Host.Outcome State Fault Refusal :=
  commandRow "SYS_FW_STATUS" 0x0150 sysFwStatusBody q s

/-! ## Staging (R626) -/

def fwChunkCheck (r : Req) (s : State) : Option Nat :=
  firstFail
    [ (!zeroAt r.params 4 4 || decide (stagingSize < u32 r.params 0 + (r.params.length - 8)), Status.badParam),
      (!s.isReady Rdy.longStore, Status.notReady) ]

/-- What SYS_FW_CHUNK does once its check passes. -/
def sysFwChunkEffect (r : Req) (s : State) : State :=
  { s with mem := writeBytes s.mem (stagingBase + u32 r.params 0) (r.params.drop 8) }

def sysFwChunkBody : Body := atOnce fwChunkCheck sysFwChunkEffect

/-- SYS_FW_CHUNK (R626, R634). -/
def execSysFwChunk (q : Nat) (s : State) : Host.Outcome State Fault Refusal :=
  commandRow "SYS_FW_CHUNK" 0x0151 sysFwChunkBody q s

/-- Largest image. -/
def fwImageMost : Nat := 8388608

/-- The source can be read as a whole. -/
def stageReadable (src a n : Nat) : Bool :=
  decide (n ≠ 0) && decide (n ≤ fwImageMost) &&
    (if src = 0 then decide (a + n ≤ stagingSize) else oneRegion a n)

/-- A stage begins: the image is read and judged (Table 15-5). -/
def State.beginStage (s : State) (r : Req) : State :=
  let src := u8 r.params 0
  let off := u64 r.params 4
  let n := u32 r.params 12
  let a := if src = 0 then stagingBase + off else off
  let granted := r.mayRead s a n
  let img := if granted && stageReadable src off n then s.sourceRead r a n else []
  let bad := if granted then imageFail s.baseRecord img n else some (Status.noAccess, 1)
  let job : StageJob := { req := r, image := img, bad := bad }
  s.sysMod fun x => { x with staged := none, stage := some job }

def sysFwStageBody : Body := fun _ r s =>
  let p := r.params
  if 1 < u8 p 0 ∨ zeroAt p 1 3 = false ∨ zeroAt p 16 4 = false then .bad Status.badParam
  else if s.sys.stage.isSome || s.sys.trial.isSome then .bad Status.busy
  else if s.isReady Rdy.longStore = false then .bad Status.notReady
  else .deferred (s.beginStage r)

/-- SYS_FW_STAGE (R618, R626, R634, R666). -/
def execSysFwStage (q : Nat) (s : State) : Host.Outcome State Fault Refusal :=
  commandRow "SYS_FW_STAGE" 0x0152 sysFwStageBody q s

/-- What a stage ends with: an unmet condition of its target, or none (R626). -/
def State.stageFail (s : State) (j : StageJob) : Option (Nat × Nat) :=
  match j.bad with
  | some f => some f
  | none =>
    if Fw.target j.image = 1 ∧ s.safetyLocked j.req = true then some (Status.safetyLock, 0)
    else if Fw.target j.image = 1 ∧ s.saf.ready = false then some (Status.notReady, 0)
    else none

/-- An image for the island goes to its bank that is not running; one for the main die to its own, and in
recovery to bank 0, which is the verified bank and boots at once (R622, R626). -/
def State.placeImage (s : State) (b : List Byte) : State :=
  let sent := fun (t k : Nat) (s : State) =>
    s.event 0x0111 Sev.notice 0x01 0x0000 (le 1 t ++ le 1 k ++ zeros 2 ++ le 4 (Fw.version b))
  if Fw.target b = 1 then
    let k := 1 - s.saf.bank
    sent 1 k (s.safMod fun x => { x with banks := tput [] x.banks k b, newBank := true })
  else if s.sys.recovery then
    let s := s.writeBank 0 b
    sent 0 0 ((s.putBootRecord 0 0xFF 0 (Fw.version b) 0))
  else
    let k := 1 - s.sys.fwBank
    sent 0 k ((s.writeBank k b).sysMod fun x => { x with staged := some k })

/-- A stage ends. -/
def State.stageEnds (s : State) : State :=
  match s.sys.stage with
  | none => s
  | some j =>
    let s := s.sysMod fun x => { x with stage := none }
    let tail := le 1 (Fw.target j.image) ++ zeros 2 ++ le 4 (Fw.version j.image)
    match s.stageFail j with
    | some (st, c) => s.finish j.req st (le 1 c ++ tail)
    | none =>
      let boots := s.sys.recovery && Fw.target j.image == 0
      let s := (s.placeImage j.image).finish j.req Status.ok (zeros 1 ++ tail)
      if boots then
        (if s.sys.booted then (s.sysMod fun x => { x with recovery := false }).clusterBack 0 []
         else (s.sysMod fun x => { x with recovery := false }).firstBoot 0 [])
      else s

/-- FW_STAGE_DONE (R622, R626). -/
def execFwStageDone (s : State) : Host.Outcome State Fault Refusal := goOn s s.stageEnds

/-! ## Trials (R627, R628) -/

/-- A load of a datum stands before its boundary B. -/
def State.loadBeforeB (s : State) : Bool := s.dat.phase == 1 || s.dat.phase == 2

/-- The record notes the trial, the latch sets, and the cluster restarts. -/
def State.beginTrial (s : State) (k : Nat) (auto : Bool) : State :=
  let v := s.verifiedBank
  let s := s.putBootRecord v k 1 (s.bankVersion v) (s.bankVersion k)
  let t : Trial := { from_ := s.time.elapsed, auto := auto }
  (s.sysMod fun x => { x with latch := true, trial := some t }).clusterRestart 0x12

def sysFwSwitchBody : Body := fun _ r s =>
  let p := r.params
  if 1 < u8 p 0 ∨ zeroAt p 1 3 = false then .bad Status.badParam
  else
    match s.sys.staged with
    | none => .bad Status.notReady
    | some k =>
      if u32 p 4 ≠ 0 ∧ u32 p 4 ≠ Fw.version (s.bankImage k) then .bad Status.badParam
      else if s.sys.trial.isSome || s.sys.stage.isSome || s.loadBeforeB || s.otp.job.isSome then .bad Status.busy
      else .only fun s => s.beginTrial k (bitOf (u8 p 0) 0)

/-- SYS_FW_SWITCH (R627, R628). -/
def execSysFwSwitch (q : Nat) (s : State) : Host.Outcome State Fault Refusal :=
  commandRow "SYS_FW_SWITCH" 0x0153 sysFwSwitchBody q s

/-- The trial bank becomes the verified bank. -/
def State.confirmTrial (s : State) : State :=
  let k := s.trialBank.getD s.sys.fwBank
  ((s.settleBoot k).sysMod fun x => { x with trial := none }).event 0x0113 Sev.notice 0x01 0x0000
    (zeros 1 ++ le 1 k ++ zeros 2 ++ le 4 (s.bankVersion k))

/-- Outside a trial it changes nothing (R628). -/
def sysFwConfirmBody : Body := fun _ _ s => .done (if s.sys.trial.isSome then s.confirmTrial else s) []

/-- SYS_FW_CONFIRM (R627, R628). -/
def execSysFwConfirm (q : Nat) (s : State) : Host.Outcome State Fault Refusal :=
  commandRow "SYS_FW_CONFIRM" 0x0154 sysFwConfirmBody q s

/-- 60 s on the trial bank confirm it under AUTO_CONFIRM. -/
def State.trialConfirms (s : State) : State :=
  match s.sys.trial with
  | some t =>
    if t.auto = true ∧ s.sys.running = true ∧ s.sys.clusterAt + 60 * second ≤ s.time.elapsed then s.confirmTrial else s
  | none => s

/-- TRIAL_AUTO_CONFIRM (R627). -/
def execTrialAutoConfirm (s : State) : Host.Outcome State Fault Refusal := goOn s s.trialConfirms

/-- 600 s without SYS_FW_CONFIRM revert the trial: the record is settled, and the cluster restarts into the
verified bank. -/
def State.trialTimesOut (s : State) : State :=
  match s.sys.trial with
  | some t =>
    if t.auto = false ∧ s.sys.running = true ∧ t.from_ + 600 * second ≤ s.time.elapsed then
      (((s.settleBoot s.verifiedBank).markFirmware 2).sysMod fun x =>
        { x with trial := none, reverted := some 0x14 }).clusterRestart 0x14
    else s
  | none => s

/-- TRIAL_TIMEOUT (R627). -/
def execTrialTimeout (s : State) : Host.Outcome State Fault Refusal := goOn s s.trialTimesOut

/-! ## SYS_RESET (R634) -/

def sysResetBody : Body := fun _ r _ =>
  if u32 r.params 0 ≠ 0x9624 then .bad Status.badParam
  else .only fun s => s.sysMod fun x => { x with resetDue := some (s.time.elapsed + milli) }

/-- SYS_RESET (R634). -/
def execSysReset (q : Nat) (s : State) : Host.Outcome State Fault Refusal :=
  commandRow "SYS_RESET" 0x0160 sysResetBody q s

end Sys2Proof.Machine
end

