-- ==== Sys2Proof/Machine/SafOps.lean ====
section
/-!
DEFINITION. Sys2Proof/Machine/SafOps.lean: the safety opcodes of Table 12-14, message loads, and the island's
start, restarts and supply (R494-R500, R510, R521, R528-R541, R543, R544, R644).
-/
namespace Sys2Proof.Machine

/-- The island serves an opcode only while it is ready (Table 12-14). -/
def whenReady (body : Body) : Body := fun b r s => if s.saf.ready then body b r s else .bad Status.notReady

/-! ## Queries -/

/-- SAF_STATUS (Table 12-14). -/
def safStatusData (s : State) : List Byte :=
  let x := s.saf
  ((List.range 64).flatMap fun z =>
    let w := (x.zoneAt z).winner
    le 1 (x.zoneLevel z) ++ le 1 (w.getD 0xFF) ++ le 1 ((w.map fun r => (s.safReq r).deleg).getD 0) ++ zeros 1)
    ++ le 8 (x.activeReqs.foldl (fun n r => n + 2 ^ r) 0) ++ le 4 x.allFaults

def safStatusBody : Body := whenReady (query fun _ s => safStatusData s)

/-- SAF_STATUS (R513). -/
def execSafStatus (q : Nat) (s : State) : Host.Outcome State Fault Refusal :=
  commandRow "SAF_STATUS" 0x0A00 safStatusBody q s

def safInputsData (s : State) : List Byte :=
  (List.range 8).flatMap fun i => le 1 (s.safIn i).state.code ++ zeros 1 ++ le 2 (min 65535 (s.safIn i).mv)

def safInputsBody : Body := whenReady (query fun _ s => safInputsData s)

/-- SAF_INPUTS (R504, R505). -/
def execSafInputs (q : Nat) (s : State) : Host.Outcome State Fault Refusal :=
  commandRow "SAF_INPUTS" 0x0A01 safInputsBody q s

def safCfgReadBody : Body := whenReady fun _ r s =>
  let p := r.params
  let sid := u16 p 0
  if sid = 0 ∨ 9 < sid ∨ 1 < u8 p 2 ∨ u8 p 3 ≠ 0 then .bad Status.badParam
  else .done s (readSection (if u8 p 2 = 1 then s.saf.staged else s.saf.cfg) sid)

/-- SAF_CFG_READ (R539). -/
def execSafCfgRead (q : Nat) (s : State) : Host.Outcome State Fault Refusal :=
  commandRow "SAF_CFG_READ" 0x0A05 safCfgReadBody q s

def safMsgListBody : Body := whenReady (query fun _ s => readBytes s.mem 0x40000000 2048)

/-- SAF_MSG_LIST (R528). -/
def execSafMsgList (q : Nat) (s : State) : Host.Outcome State Fault Refusal :=
  commandRow "SAF_MSG_LIST" 0x0A0A safMsgListBody q s

/-- A log entry (R540). -/
def SafLogEntry.bytes (e : SafLogEntry) : List Byte :=
  (e.event.cell e.eseq).take 28 ++ le 2 e.lseq ++ le 1 e.flags ++ zeros 1

def safLogReadBody : Body := whenReady fun _ r s =>
  let p := r.params
  let n := u16 p 2
  if 1 < u8 p 0 ∨ u8 p 1 ≠ 0 ∨ n = 0 ∨ 64 < n ∨ 65535 < u32 p 4 then .bad Status.badParam
  else
    let log := if u8 p 0 = 0 then s.saf.log else s.saf.flashLog
    let held := log.filter fun e => decide ((e.lseq + 65536 - u32 p 4) % 65536 < 32768)
    .done s ((held.take n).flatMap SafLogEntry.bytes)

/-- SAF_LOG_READ (R540). -/
def execSafLogRead (q : Nat) (s : State) : Host.Outcome State Fault Refusal :=
  commandRow "SAF_LOG_READ" 0x0A0B safLogReadBody q s

/-- A supervision entry as SAF_LINES shows it; the age counts from ready where no REPORT has come. -/
def lineData (s : State) (e : Nat) : List Byte :=
  let l := s.saf.lineAt e
  let since := max s.saf.readyAt (l.last.getD 0)
  le 2 l.faults ++ zeros 2 ++ le 4 (min 0xFFFFFFFF ((s.time.elapsed - since) / second))
    ++ le 4 s.saf.supUnknown ++ le 4 s.saf.trigUnknown

def safLinesBody : Body := whenReady fun _ r s =>
  let first := u16 r.params 0
  if 127 < first ∨ u16 r.params 2 ≠ 0 then .bad Status.badParam
  else .done s (((List.range s.saf.lineEntries.length).drop first).flatMap (lineData s))

/-- SAF_LINES (R531, R532). -/
def execSafLines (q : Nat) (s : State) : Host.Outcome State Fault Refusal :=
  commandRow "SAF_LINES" 0x0A0C safLinesBody q s

/-! ## Requests (R507, R512, R522, R543) -/

def safActivateBody : Body := whenReady fun _ r s =>
  let p := r.params
  if 63 < u8 p 0 ∨ 1 < u8 p 1 ∨ u16 p 2 ≠ 0 ∨ SafCfg.reqUsed (s.saf.reqEntry (u8 p 0)) = false then
    .bad Status.badParam
  else
    let on := u8 p 1 == 1
    .done (match r.origin with
      | .service => (s.changeReq (u8 p 0) 4 fun q => { q with service := on }).safRefresh
      | .host | .mirror _ | .entry => (s.changeReq (u8 p 0) 3 fun q => { q with command := on }).safRefresh) []

/-- SAF_ACTIVATE (R512, R513, R543). -/
def execSafActivate (q : Nat) (s : State) : Host.Outcome State Fault Refusal :=
  commandRow "SAF_ACTIVATE" 0x0A02 safActivateBody q s

/-- Latches of a request, and a PEER request whose heartbeats stopped, are released (R507, R532, R543,
R598). -/
def State.releaseLatch (s : State) (source r : Nat) : State :=
  s.changeReq r source fun q => { q with latch := false, trigLatch := false, peer := false }

def safResetBody : Body := whenReady fun _ r s =>
  let p := r.params
  let source := if r.origin == .service then 4 else 3
  if (63 < u8 p 0 ∧ u8 p 0 ≠ 0xFF) ∨ zeroAt p 1 3 = false then .bad Status.badParam
  else
    let which := if u8 p 0 = 0xFF then List.range 64 else [u8 p 0]
    .done (which.foldl (fun s r => s.releaseLatch source r) s).safRefresh []

/-- SAF_RESET (R507, R543). -/
def execSafReset (q : Nat) (s : State) : Host.Outcome State Fault Refusal :=
  commandRow "SAF_RESET" 0x0A03 safResetBody q s

def safHeartbeatBody : Body := whenReady fun _ r s =>
  if r.slot ≠ SafCfg.supSlot s.saf.general then .deny
  else .done ((s.safMod fun x => { x with hostLast := s.time.elapsed }).beatBack 2) []

/-- SAF_HEARTBEAT (R522, R543). -/
def execSafHeartbeat (q : Nat) (s : State) : Host.Outcome State Fault Refusal :=
  commandRow "SAF_HEARTBEAT" 0x0A04 safHeartbeatBody q s

/-! ## Configuration (R538, R539) -/

def safCfgWriteBody : Body := whenReady fun _ r s =>
  let p := r.params
  if p.length ≠ 4 + u16 p 2 then .bad Status.badLength
  else if s.safetyLocked r then .bad Status.safetyLock
  else if u16 p 0 = 0 ∨ 9 < u16 p 0 then .bad Status.badParam
  else
    let b := p.drop 4
    .done (s.safMod fun x => { x with staged := putSection (sectKey (u16 p 0) b) b x.staged }) []

/-- SAF_CFG_WRITE (R539). -/
def execSafCfgWrite (q : Nat) (s : State) : Host.Outcome State Fault Refusal :=
  commandRow "SAF_CFG_WRITE" 0x0A06 safCfgWriteBody q s

/-- A claimed entry reads with ISLAND set; one the record leaves invalid is no longer claimed (R260). -/
def claimed (e : List Byte) : List Byte :=
  if Ent.valid e then le 1 (u8 e 0 % 128 + 128) ++ slice e 1 127 else zeros 128

/-- The stream entries take what section 9 gives them (R534). -/
def State.claimStreams (s : State) : State :=
  let body := section_ s.saf.cfg 9
  (List.range 4).foldl (fun s i =>
    let rx := claimed (islandRx body i)
    let tx := claimed (islandTx body i)
    let s := if Ent.valid rx || Ent.island (s.rx (508 + i)).entry then s.adoptRx (508 + i) rx [] else s
    if Ent.valid tx || Ent.island (s.tx (508 + i)).entry then s.adoptTx (508 + i) tx [] else s) s

/-- A record takes effect: lines are judged afresh, inputs are sensed, winners are evaluated. -/
def State.applyRecord (s : State) (cfg : List (Nat × List Byte)) (id : Nat) (ok : Bool) : State :=
  let s := s.safMod fun x => { x with
    cfg := cfg, cfgId := id, recordOk := ok, staged := [], lines := []
    hostLast := s.time.elapsed }
  let s := if SafCfg.supSlot s.saf.general = 0xFF then s.beatBack 2 else s
  let s := s.claimStreams
  ((List.range 8).foldl State.resenseInput s).evaluate.safRefresh

/-- CFG_ID of a commit: the one before it and one more, never 0. -/
def nextCfgId (id : Nat) : Nat := if (id + 1) % 2 ^ 64 = 0 then 1 else (id + 1) % 2 ^ 64

def safCfgCommitBody : Body := whenReady fun _ r s =>
  let p := r.params
  let cfg := s.saf.merged
  if s.safetyLocked r then .bad Status.safetyLock
  else if 1 < u8 p 0 ∨ zeroAt p 1 3 = false then .bad Status.badParam
  else if !s.recordGood cfg then .bad Status.coupling
  else if s.saf.activeReqs ≠ [] then .bad Status.busy
  else
    let id := nextCfgId s.saf.cfgId
    let s := s.applyRecord cfg id true
    let s := if u8 p 0 = 1 then s.safMod fun x => { x with flash := (id, cfg) :: x.flash.take 1 } else s
    .both (s.islandEvent 0x0E09 Sev.notice (le 8 id)) (le 8 id)

/-- SAF_CFG_COMMIT (R539). -/
def execSafCfgCommit (q : Nat) (s : State) : Host.Outcome State Fault Refusal :=
  commandRow "SAF_CFG_COMMIT" 0x0A07 safCfgCommitBody q s

/-! ## Messages (R528-R530) -/

/-- Bytes of the message data area. -/
def messageBytes : Nat := 4184064

/-- Runs of the data area that messages other than `m` hold: offset and length, lowest first. -/
def State.heldRuns (s : State) (m : Nat) : List (Nat × Nat) :=
  let l := ((List.range 64).filter fun i => i != m && s.msgState i != 0).map fun i =>
    (u32 (s.msgEntry i) 0, (u32 (s.msgEntry i) 4 + 3) / 4 * 4)
  l.foldl (fun acc x => ins x acc) []
where
  /-- Insert by offset. -/
  ins (x : Nat × Nat) : List (Nat × Nat) → List (Nat × Nat)
    | [] => [x]
    | y :: ys => if x.1 < y.1 then x :: y :: ys else y :: ins x ys

/-- Free runs between held ones from `at_` on. -/
def libraryRuns (at_ : Nat) : List (Nat × Nat) → List (Nat × Nat)
  | [] => if at_ < messageBytes then [(at_, messageBytes - at_)] else []
  | (o, n) :: rest => (if at_ < o then [(at_, o - at_)] else []) ++ libraryRuns (max at_ (o + n)) rest

/-- A player plays the message. -/
def SafPart.playing (x : SafPart) (m : Nat) : Bool := x.player.any fun p => p.2.msg == some m

/-- Write a directory entry (Table 12-9). -/
def State.putMsgEntry (s : State) (m offset length state : Nat) (tag : List Byte) : State :=
  let e := le 4 offset ++ le 4 length ++ le 1 state ++ zeros 7 ++ slice (tag ++ zeros 8) 0 8 ++ zeros 8
  { s with mem := writeBytes s.mem (0x40000000 + 32 * m) e }

def safMsgLoadBody : Body := whenReady fun _ r s =>
  let p := r.params
  let m := u8 p 0
  let flash := bitOf (u8 p 1) 0
  let n := u32 p 12
  if s.safetyLocked r then .bad Status.safetyLock
  else if 63 < m ∨ 3 < u8 p 1 ∨ u16 p 2 ≠ 0 ∨ n = 0 then .bad Status.badParam
  else if !flash && !r.mayRead s (u64 p 4) n then .bad Status.noAccess
  else if !flash && s.unmirrored r (u64 p 4) n then .bad Status.pairRole
  else if s.saf.load.isSome || s.saf.playing m then .bad Status.busy
  else
    let runs := libraryRuns 0 (s.heldRuns m)
    match runs.find? fun x => decide (n ≤ x.2) with
    | none => .fail Status.noSpace (le 4 (runs.foldl (fun a x => max a x.2) 0))
    | some x =>
      let fl := bitOf (u8 p 1) 1
      let at_ := u64 p 4
      let o := x.1
      let j : MsgLoad := { msg := m, persist := fl, flash := flash, src := at_, len := n, offset := o, req := r }
      .deferred ((s.putMsgEntry m x.1 n 1 []).safMod fun t => { t with load := some j })

/-- SAF_MSG_LOAD (R530). -/
def execSafMsgLoad (q : Nat) (s : State) : Host.Outcome State Fault Refusal :=
  commandRow "SAF_MSG_LOAD" 0x0A08 safMsgLoadBody q s

/-- The checks of R530 on a message's bytes. -/
def messageOk (m : Nat) (b : List Byte) : Bool :=
  u32 b 0 == 0x4753534D && u32 b 28 == crc32c (b.take 28) && Msg.num b == m && u8 b 6 == 0 &&
    Msg.width b == 16 && decide (32 + Msg.dataLen b ≤ b.length) && u32 b 16 == crc32c (Msg.samples b)

/-- The island's copy of a byte of a load's source. -/
def State.loadBytes (s : State) (j : MsgLoad) : List Byte :=
  if j.flash then readBytes s.saf.library (min j.src messageBytes) (min j.len messageBytes)
  else s.sourceRead j.req j.src (min j.len messageBytes)

/-- Fault MESSAGE_BAD stands while an entry is BAD. -/
def State.judgeBadMessages (s : State) (m : Nat) : State :=
  (s.islandFault m SafFault.messageBad ((List.range 64).any fun i => s.msgState i == 3)).safRefresh

/-- Copy a message's directory entry and data between the SRAM and the flash library, which Table 12-1's
layout places alike. -/
def State.persistMessage (s : State) (m : Nat) : State :=
  let e := s.msgEntry m
  let b := s.msgBytes m
  s.safMod fun x => { x with
    library := writeBytes (writeBytes x.library (32 * m) e) (2048 + u32 e 0) b }

/-- The copy ends, and the message is VALID or BAD (R530). -/
def State.messageLoaded (s : State) : State :=
  match s.saf.load with
  | none => s
  | some j =>
    let b := s.loadBytes j
    let good := (j.flash || busFault s 32 false j.src j.len == 0) && messageOk j.msg b
    let s := s.safMod fun x => { x with load := none }
    let s := { s with mem := writeBytes s.mem (messageArea + j.offset) b }
    let s := s.putMsgEntry j.msg j.offset j.len (if good then 2 else 3) (Msg.tag b)
    let s := if good && j.persist then s.persistMessage j.msg else s
    let s := if good then s.judgeBadMessages j.msg
      else (s.islandFault j.msg SafFault.messageBad true).safRefresh
    s.finish j.req Status.ok (le 1 (if good then 2 else 3) ++ zeros 3)

/-- MESSAGE_LOAD_DONE (R530). -/
def execMessageLoadDone (s : State) : Host.Outcome State Fault Refusal := goOn s s.messageLoaded

def safMsgDeleteBody : Body := whenReady fun _ r s =>
  let p := r.params
  let m := u8 p 0
  if s.safetyLocked r then .bad Status.safetyLock
  else if 63 < m ∨ 1 < u8 p 1 ∨ u16 p 2 ≠ 0 then .bad Status.badParam
  else if s.saf.playing m || (s.saf.load.any fun j => j.msg == m) then .bad Status.busy
  else
    let s := { s with mem := writeBytes s.mem (0x40000000 + 32 * m) (zeros 32) }
    let s := if u8 p 1 = 1 then
        s.safMod fun x => { x with library := writeBytes x.library (32 * m) (zeros 32) } else s
    .done (s.judgeBadMessages m) []

/-- SAF_MSG_DELETE (R530). -/
def execSafMsgDelete (q : Nat) (s : State) : Host.Outcome State Fault Refusal :=
  commandRow "SAF_MSG_DELETE" 0x0A09 safMsgDeleteBody q s

/-- SAF_SVC_SET_KEY from a host slot is no opcode (R543). -/
def execSafSvcSetKey (q : Nat) (s : State) : Host.Outcome State Fault Refusal :=
  commandRow "SAF_SVC_SET_KEY" 0x0A10 (fun _ _ _ => .bad Status.badOpcode) q s

/-! ## Start, restarts and supply (R494-R500, R541, R544) -/

/-- A request over an island restart: its latches are in the retention area, its other holders are lost
or sensed again (R541). -/
def SafReq.retained (q : SafReq) : SafReq :=
  if q.latch || q.trigLatch then
    { SafReq.reset with
      latch := q.latch, trigLatch := q.trigLatch, since := q.since
      deleg := if q.deleg = 0 then 0 else Deleg.start }
  else SafReq.reset

/-- The island stops for a restart: sinks keep level and carrier, staged sections are lost (R521, R539,
R541). -/
def State.islandStops (s : State) (cause : Nat) : State :=
  if !s.saf.present then s
  else
    let s := match s.saf.load with
      | some j => s.finish j.req Status.internal []
      | none => s
    let s := s.safMod fun x => { x with
      ready := false, cause := some cause, staged := [], load := none
      readyDue := if x.resetN then some (s.time.elapsed + 120 * milli) else none
      req := x.req.filterMap fun q =>
        if q.2.retained = SafReq.reset then none else some (q.1, q.2.retained)
      player := [], zone := [], faults := 0, inFaults := [], lines := [], hbMissing := 0, healthy := none
      fabMiss := 0, supUnknown := 0, trigUnknown := 0, svcOut := [], svcFloor := 0, compared := none }
    let s := (List.range 4).foldl (fun s c => s.setChan (32 + c) Channel.reset) s
    (s.setReady Rdy.lodestar false).safRefresh

/-- ISLAND_WATCHDOG_EXPIRE (R500, R541). -/
def execIslandWatchdogExpire (s : State) : Host.Outcome State Fault Refusal :=
  goOn s (if s.saf.ready then s.islandStops 2 else s)

/-- LOCKSTEP_MISMATCH (R500, R510, R541). -/
def execLockstepMismatch (s : State) : Host.Outcome State Fault Refusal :=
  goOn s (if s.saf.present then ((s.safMod fun x => { x with mismatch := true }).islandStops 3) else s)

/-- LS_RESET_N_ASSERT (R494, R541). -/
def execLsResetNAssert (s : State) : Host.Outcome State Fault Refusal :=
  goOn s ((s.safMod fun x => { x with resetN := false }).islandStops 1)

/-- LS_RESET_N_RELEASE: the island is ready 120 ms after the later of power-good and this (R495). -/
def execLsResetNRelease (s : State) : Host.Outcome State Fault Refusal :=
  goOn s (if s.saf.resetN then s
    else s.safMod fun x => { x with
      resetN := true
      readyDue := if x.present then some (s.time.elapsed + 120 * milli) else none })

/-- What the island keeps without supply: its flash, its reset input, and what the main die's rails hold
(R55, R497, Table 12-13). -/
def SafPart.unpowered (x : SafPart) : SafPart :=
  { SafPart.reset with
    resetN := x.resetN, bootCount := x.bootCount, bank := x.bank, newBank := x.newBank
    verified := x.verified, banks := x.banks, flash := x.flash, library := x.library
    flashLog := x.flashLog, lseq := x.lseq, key := x.key }

/-- VDD_LS is lost: the island is absent, every override at level 0, its SRAM lost (R55, R541, R644). -/
def State.islandLost (s : State) : State :=
  let s := match s.saf.load with
    | some j => s.finish j.req Status.internal []
    | none => s
  let s := (List.range 4).foldl (fun s c => s.setChan (32 + c) Channel.reset) s
  { s.setReady Rdy.lodestar false with
    saf := s.saf.unpowered, mem := s.mem.filter fun x => !isSram x.1 }

/-- VDD_LS_LOSS (R644, R55, R541). -/
def execVddLsLoss (s : State) : Host.Outcome State Fault Refusal :=
  goOn s (if s.saf.present then s.islandLost else s)

/-- VDD_LS_POWER_GOOD (R644, R495). -/
def execVddLsPowerGood (s : State) : Host.Outcome State Fault Refusal :=
  goOn s (if s.saf.present then s
    else s.safMod fun x => { x with
      present := true
      readyDue := if x.resetN then some (s.time.elapsed + 120 * milli) else none })

/-- A bank of the island verifies against the key in its ROM (R496). -/
def SafPart.bankOk (x : SafPart) (k : Nat) : Bool :=
  let b := tget [] x.banks k
  factoryBank k b || (Fw.keyedBy b Config.islandKey && Fw.sound b)

/-- Banks in the order the ROM tries them: one written since and not yet adopted, the last verified, the
other (R496, R626). -/
def SafPart.bankOrder (x : SafPart) : List Nat :=
  (if x.newBank then [1 - x.bank] else []) ++ [x.verified, 1 - x.verified]

/-- The library is loaded: after loss of supply, and where a VALID message no longer passes its checks
(R495, R541). -/
def State.loadLibrary (s : State) : State :=
  let bad := (List.range 64).any fun m => s.msgState m == 2 && !messageOk m (s.msgBytes m)
  let cold := s.saf.cause.isNone
  let rest := s.mem.filter fun x => !inRange x.1 0x40000000 0x403FDFFF
  let s := if cold || bad then
      { s with mem := s.saf.library.foldl (fun m c => writeByte m (0x40000000 + c.1) c.2) rest }
    else s
  (List.range 64).foldl (fun s m =>
    if s.msgState m = 1 then { s with mem := writeBytes s.mem (0x40000000 + 32 * m) (zeros 32) } else s) s

/-- The island becomes ready: firmware verified, record applied, library loaded, inputs supervised
(R495). -/
def State.islandUp (s : State) (k : Nat) : State :=
  let now := s.time.elapsed
  let cause := s.saf.cause
  let s := s.safMod fun x => { x with
    ready := true, readyDue := none, bank := k, newBank := false, readyAt := now, mismatch := false
    bootCount := (x.bootCount + 1) % 4294967296
    fabLast := now, fwLast := now, hostLast := now, healthy := some now }
  let s := s.loadLibrary
  let s := if s.sys.inReset then s else s.setReady Rdy.lodestar true
  let rec_ := s.saf.flash.head?
  let s := s.applyRecord ((rec_.map (·.2)).getD []) ((rec_.map (·.1)).getD 0) rec_.isSome
  let s := s.judgeBadMessages 0
  let s := if s.saf.crystal then s.islandFault 0 SafFault.lsClock true else s
  let s := match cause with
    | some c => s.islandEvent 0x0E08 Sev.error (zeros 1 ++ le 1 c ++ zeros 2 ++ le 4 s.saf.bootCount)
    | none => s
  (s.safMod fun x => { x with cause := none }).safRefresh

/-- 120 ms after power-good and release the ROM verifies a bank; with none it stays in ROM (R495,
R496). -/
def State.islandBoots (s : State) : State :=
  match s.saf.readyDue with
  | none => s
  | some t =>
    if s.saf.ready || !s.saf.present || decide (s.time.elapsed < t) then s
    else
      match s.saf.bankOrder.find? s.saf.bankOk with
      | some k => s.islandUp k
      | none => s.safMod fun x => { x with readyDue := none }

/-- ISLAND_READY (R495, R496, R541). -/
def execIslandReady (s : State) : Host.Outcome State Fault Refusal := goOn s s.islandBoots

/-- 60 s ready on a bank make it the last verified (R626). -/
def execIslandBankVerified (s : State) : Host.Outcome State Fault Refusal :=
  goOn s (if s.saf.ready && decide (s.saf.readyAt + 60 * second ≤ s.time.elapsed) then
    s.safMod fun x => { x with verified := x.bank } else s)

/-- The order of R544's outcomes. -/
def safRestartBody : Body := whenReady fun _ r s =>
  if u32 r.params 0 ≠ 0x9624 then .bad Status.badParam
  else if s.saf.activeReqs ≠ [] then .bad Status.busy
  else if s.safetyLocked r then .bad Status.safetyLock
  else .only fun s => { s with sys := { s.sys with islandDue := some (s.time.elapsed + milli) } }

/-- SAF_RESTART (R544). -/
def execSafRestart (q : Nat) (s : State) : Host.Outcome State Fault Refusal :=
  commandRow "SAF_RESTART" 0x0A11 safRestartBody q s

/-- 1 ms after ACCEPTED the island restarts (R544). -/
def State.islandRestarts (s : State) : State :=
  match s.sys.islandDue with
  | some t =>
    if t ≤ s.time.elapsed then
      { s with sys := { s.sys with islandDue := none } }.islandStops 4
    else s
  | none => s

/-- ISLAND_RESTART (R544, R541). -/
def execIslandRestart (s : State) : Host.Outcome State Fault Refusal := goOn s s.islandRestarts

end Sys2Proof.Machine
end

