-- ==== Sys2Proof/Machine/Service.lean ====
section
/-!
DEFINITION. Sys2Proof/Machine/Service.lean: the island's service port: its packets, what it accepts, and its
replies (R535-R537, R102).
-/
namespace Sys2Proof.Machine

/-- SAF_SVC_SET_KEY on the service port: the key goes to island flash (R537). -/
def setKeyBody : Body := fun _ r s => .done (s.safMod fun x => { x with key := some r.params }) []

/-- SYS_THAW of the service port: the main die must run to take it; it names the privileged slot or
LD0-LD3 (R536). -/
def serviceThawBody : Body := fun b r s =>
  let named := r.target == 0xA000 + s.host.privSlot || (unitClass r.target == 8 && decide (32 ≤ r.index))
  if !named then .deny
  else if !s.sys.running then .bad Status.notReady
  else sysThawBody b r s

/-- DAT_OVL_STORE of the service port, for an overlay with ISLAND (R563). -/
def serviceStoreBody : Body := fun b r s => if s.sys.running then datOvlStoreBody b r s else .bad Status.notReady

/-- What the port accepts: every opcode of group 0x0A, SYS_THAW, and the store of an island overlay that
R563 leaves to it (R536). -/
def serviceBody (op : Nat) : Option Body :=
  match op with
  | 0x0A00 => some safStatusBody
  | 0x0A01 => some safInputsBody
  | 0x0A02 => some safActivateBody
  | 0x0A03 => some safResetBody
  | 0x0A04 => some safHeartbeatBody
  | 0x0A05 => some safCfgReadBody
  | 0x0A06 => some safCfgWriteBody
  | 0x0A07 => some safCfgCommitBody
  | 0x0A08 => some safMsgLoadBody
  | 0x0A09 => some safMsgDeleteBody
  | 0x0A0A => some safMsgListBody
  | 0x0A0B => some safLogReadBody
  | 0x0A0C => some safLinesBody
  | 0x0A10 => some setKeyBody
  | 0x0A11 => some safRestartBody
  | 0x0109 => some serviceThawBody
  | 0x0210 => some serviceStoreBody
  | _ => none

/-- The opcode's row; SAF_SVC_SET_KEY has one on this port only. -/
def serviceInfo (op : Nat) : Option OpInfo :=
  if op = 0x0A10 then some ⟨0x0A10, 0, false, false, false, false, false, [(0xF000, 0xF000)], 32, 32⟩
  else opInfo op

/-- The checks of Table 2-7 that a packet of the port can fail; there is no queue whose SEQ it follows. -/
def serviceFail (s : State) (i : OpInfo) (r : Req) (p : List Byte) : Option Nat :=
  firstFail
    [ (u8 p 0 != 3, Status.badOpcode),
      (u8 p 1 != 8 || u16 p 14 != 0 || decide (16 ≤ r.flags), Status.badParam),
      (s.saf.key.isNone && !i.query && r.op != 0x0A10, Status.noAccess),
      (r.target != 0 && !validUnit r.target || r.target == 0 && r.gen != 0, Status.badParam),
      (r.gen != 0 && r.gen != s.genOf r.target, Status.staleRole),
      (r.at?.isSome, Status.badParam),
      (decide (r.params.length < i.plenLo) || decide (i.plenHi < r.params.length), Status.badLength),
      (!i.takes r.target, Status.badParam) ]

/-- A refusal by level on the port: there is no slot to count it in. -/
def Verdict.onPort : Verdict → Verdict
  | .deny => .bad Status.noAccess
  | v => v

/-- The command packet of the port. -/
def serviceReq (p : List Byte) : Req := { parseReq 32 0 p with origin := .service }

/-- The island takes an accepted packet. -/
def State.serviceCommand (s : State) (p : List Byte) : State :=
  let r := serviceReq p
  match packetCheck p ((20 + u16 p 12 + 63) / 64) with
  | some st => s.serviceReply r st []
  | none =>
    if p.length ≠ 20 + u16 p 12 then s.serviceReply r Status.badLength []
    else
      match serviceBody r.op, serviceInfo r.op with
      | some body, some i =>
        match serviceFail s i r p with
        | some st => s.serviceReply r st []
        | none => s.settle r false (body false r s).onPort
      | _, _ => s.serviceReply r (if (opInfo r.op).isSome then Status.noAccess else Status.badOpcode) []

/-- The tag of a packet is right; none is checked before a key is stored (R537). -/
def SafPart.tagOk (x : SafPart) (d : List Byte) : Bool :=
  match x.key with
  | some k => d.drop (d.length - 32) == hmacSha256 k (d.take (d.length - 32))
  | none => true

/-- A wrapped packet written with 0x40, checked in the order of R72 (R536). -/
def State.servicePacket (s : State) (d : List Byte) : State :=
  let packet := (d.take (d.length - 32)).drop 12
  if !s.saf.ready || decide (d.length < 64) || !s.saf.tagOk d then s
  else if u8 d 0 ≠ 2 ∨ 4 ≤ u8 d 1 ∨ u16 d 2 ≠ 0 then s
  else if u32 d 8 ≠ s.saf.bootCount then s.serviceReply (serviceReq packet) Status.sequence []
  else if u32 d 4 ≤ s.saf.svcFloor then s
  else (s.safMod fun x => { x with svcFloor := u32 d 4 }).serviceCommand packet

/-- SERVICE_PACKET_WRITE (R535-R537). -/
def execServicePacketWrite (d : List Byte) (s : State) : Host.Outcome State Fault Refusal := goOn s (s.servicePacket d)

/-- The oldest wrapped reply or event, after its length (R535). -/
def State.serviceRead (s : State) : State :=
  match s.saf.svcOut with
  | m :: ms => s.safMod fun x => { x with svcOut := ms, svcRead := le 2 m.length ++ m }
  | [] => s.safMod fun x => { x with svcRead := le 2 0 }

/-- SERVICE_REPLY_READ (R535). -/
def execServiceReplyRead (s : State) : Host.Outcome State Fault Refusal :=
  goOn s (if s.saf.present then s.serviceRead else s)

end Sys2Proof.Machine
end

