-- ==== Sys2Proof/Machine/Apply.lean ====
section
/-!
DEFINITION. Sys2Proof/Machine/Apply.lean: commands that have waited: under ORDERED (R88), and for their block
boundary (R85, R86, R90).
-/
namespace Sys2Proof.Machine

/-! ## The opcodes' bodies -/

def sysBodies : List (Nat × Body) :=
  [ (0x0100, sysNopBody), (0x0101, sysIdentifyBody), (0x0102, sysGetReadinessBody),
    (0x0103, sysGetGenerationsBody), (0x0104, sysGetWindowBody), (0x0105, sysSetWindowBody),
    (0x0106, sysAssignChannelBody), (0x0107, sysBindUdpBody), (0x0108, sysFreezeBody),
    (0x0109, sysThawBody), (0x010A, sysSetEventFilterBody), (0x010B, sysRestartClusterBody),
    (0x0140, sysFabStatusBody), (0x0141, sysFabSetMarginBody), (0x0142, sysFabBudgetBody),
    (0x0150, sysFwStatusBody), (0x0151, sysFwChunkBody), (0x0152, sysFwStageBody),
    (0x0153, sysFwSwitchBody), (0x0154, sysFwConfirmBody), (0x0160, sysResetBody),
    (0x0170, sysGpioConfigBody), (0x0171, sysGpioStatusBody) ]

def datBodies : List (Nat × Body) :=
  [ (0x0200, datStatusBody), (0x0201, datLoadBody), (0x0202, datStoreBody), (0x0210, datOvlStoreBody),
    (0x0211, datOvlApplyBody), (0x0212, datOvlRemoveBody), (0x0213, datOvlGetBody), (0x0220, datStageBody),
    (0x0221, datCommitBody), (0x0222, datDiscardBody) ]

def strBodies : List (Nat × Body) :=
  [ (0x0300, strGetBody), (0x0301, strBindBody), (0x0302, strEnableBody), (0x0303, strSetMapBody),
    (0x0304, strStatusBody), (0x0305, strAsrcConfigBody), (0x0306, strContinuityBody),
    (0x0307, strSdpListBody), (0x0320, strTdmConfigBody), (0x0321, strTdmMaskBody),
    (0x0322, strAesConfigBody), (0x0323, strWclkConfigBody), (0x0324, strSerialStatusBody) ]

def objBodies : List (Nat × Body) :=
  [ (0x0400, objGetBody), (0x0401, objSetBody), (0x0402, objMoveBody), (0x0403, objEnableBody),
    (0x0404, objSetGainBody), (0x0405, objSetSourceBody), (0x0410, objRenderConfigBody),
    (0x0411, objStatusBody), (0x0412, objZoneSetBody), (0x0413, objMeshLoadBody), (0x0414, objTapsBody) ]

def corBodies : List (Nat × Body) :=
  [ (0x0500, feedGetBody), (0x0501, feedSetBody), (0x0502, feedTrimBody), (0x0503, corAllocBody),
    (0x0504, corSwapBody), (0x0505, corArmBody), (0x0506, corBanksBody), (0x0507, corPoolBody),
    (0x0508, corCompactBody), (0x0510, corBiquadBody), (0x0511, corBiquadGetBody),
    (0x0520, corLimiterBody), (0x0521, corCompressorBody), (0x0522, corLimitDelayBody),
    (0x0523, corDynStatusBody) ]

def almBodies : List (Nat × Body) :=
  [ (0x0600, almStatusBody), (0x0601, almLoadBody), (0x0602, almSwapBody), (0x0603, almSetGainBody),
    (0x0604, almGetGainBody), (0x0605, almSetConfigBody), (0x0606, almSinkFadeBody),
    (0x0607, almBusScaleBody), (0x0608, almDirectSetBody), (0x0609, almDirectEnableBody),
    (0x060A, almPlayBody), (0x060B, almPlayStopBody), (0x060C, almTestgenBody) ]

def merBodies : List (Nat × Body) :=
  [ (0x0700, merGetTimeBody), (0x0701, merSetIncrementBody), (0x0702, merSlewBody), (0x0703, merStepBody),
    (0x0704, merSetTimeBody), (0x0705, merServoBody), (0x0708, merLaunchArmBody),
    (0x0709, merLaunchCancelBody), (0x070A, merSetLateToleranceBody), (0x070B, merPortDelayBody),
    (0x0710, merLoopConfigBody), (0x0711, merLoopStatusBody), (0x0712, merHopLearnBody),
    (0x0713, merLoopRealignBody) ]

def netBodies : List (Nat × Body) :=
  [ (0x0900, netPortConfigBody), (0x0901, netPortStatusBody), (0x0902, netGetCountersBody),
    (0x0903, netSetRuleBody), (0x0904, netSetMcastBody), (0x0905, netSetWakeBody), (0x0906, netSendBody),
    (0x0910, netFbConfigBody), (0x0911, netFbNodesBody), (0x0912, netFbForgetBody) ]

def safBodies : List (Nat × Body) :=
  [ (0x0A00, safStatusBody), (0x0A01, safInputsBody), (0x0A02, safActivateBody), (0x0A03, safResetBody),
    (0x0A04, safHeartbeatBody), (0x0A05, safCfgReadBody), (0x0A06, safCfgWriteBody),
    (0x0A07, safCfgCommitBody), (0x0A08, safMsgLoadBody), (0x0A09, safMsgDeleteBody),
    (0x0A0A, safMsgListBody), (0x0A0B, safLogReadBody), (0x0A0C, safLinesBody),
    (0x0A10, fun _ _ _ => .bad Status.badOpcode), (0x0A11, safRestartBody) ]

def pairBodies : List (Nat × Body) :=
  [ (0x0B00, pairStatusBody), (0x0B01, pairConfigBody), (0x0B02, pairHandoverBody),
    (0x0B03, pairPeerLoadBody), (0x0B04, pairLeaveBody), (0x0B05, pairRejoinBody) ]

def otpBodies : List (Nat × Body) :=
  [ (0x0C00, otpReadBody), (0x0C01, otpProgramBody) ]

def diagBodies : List (Nat × Body) :=
  [ (0x0D00, diagFaultsBody), (0x0D01, diagLogReadBody), (0x0D02, diagClearBody) ]

/-- What an opcode does, by its group. -/
def bodyOf (op : Nat) : Option Body :=
  let l := match op / 256 with
    | 1 => sysBodies | 2 => datBodies | 3 => strBodies | 4 => objBodies | 5 => corBodies | 6 => almBodies
    | 7 => merBodies | 9 => netBodies | 10 => safBodies | 11 => pairBodies | 12 => otpBodies | 13 => diagBodies
    | _ => []
  (l.find? fun x => x.1 == op).map (·.2)

/-! ## ORDERED (R88) -/

/-- The packet that waits at the head of queue `q` goes through checks 3 onwards once nothing earlier of its slot
is open; one of an undefined opcode is answered as such. -/
def State.releaseOrdered (s : State) (q : Nat) : State :=
  if (s.waitingOrder q).isNone then s
  else
    let op := u16 ((s.dropMarkers q 2).headBytes q) 4
    match bodyOf op with
    | some b => s.takeCommand q op b true
    | none => s.takeCommand q 0x0100 sysNopBody true

/-- ORDERED_RELEASE (R88). -/
def execOrderedRelease (q : Nat) (s : State) : Host.Outcome State Fault Refusal :=
  ran (decide (q < 32)) "ORDERED_RELEASE" s (s.releaseOrdered q)

/-! ## Commands due at a boundary (R86, R90) -/

/-- One command applies: its generation is checked again, and so are its own checks. -/
def State.applyPending (s : State) (p : Pending) : State :=
  let s := s.dropPending p
  if p.req.gen ≠ 0 ∧ p.req.gen ≠ s.genOf p.req.target then s.finish p.req Status.staleRole []
  else
    match bodyOf p.req.op with
    | some b => s.settle p.req p.acked (b true p.req s)
    | none => s.finish p.req Status.badOpcode []

/-- The commands of a list apply in order, up to the first that an overlay's own row applies (R568). -/
def State.applyEach (s : State) : List Pending → State
  | [] => s
  | p :: ps => if p.isOverlay then s else (s.applyPending p).applyEach ps

/-- PENDING_COMMAND_APPLY: the commands due apply in order of acceptance (R34, R83, R86, R90, R591). -/
def execPendingCommandApply (s : State) : Host.Outcome State Fault Refusal :=
  goOn s (if s.sys.running then s.applyEach s.dueCommands else s)

end Sys2Proof.Machine
end

