-- ==== Sys2Proof/Machine/Edge.lean ====
section
/-!
DEFINITION. Sys2Proof/Machine/Edge.lean: a block at the sample-exchange buffers: what the input edges bring, what
abandoned work leaves unfinished (R342, R343, R359), and what every sink presents: the released block, the
fades of level-0 content, the deadline-miss fade and the priority override (R32, R33, R47-R49, R395).
-/
namespace Sys2Proof.Machine

/-! ## Abandoned work (R342, R343, R359) -/

/-- Nodes whose block depends on the units `u`: one instruction on the nodes found and the accumulator's flag. -/
def taintInsn (u : List Nat) (t : List Nat × Bool) (i : Insn) : List Nat × Bool :=
  let src := t.1.contains i.src
  if i.op = 1 then (t.1, src)
  else if i.op = 2 then (t.1, t.2 || src)
  else if i.op = 3 ∨ i.op = 4 then (if t.2 then i.dst :: t.1 else t.1, t.2)
  else if i.op = 5 then
    (if t.1.contains i.dst || u.contains (0x6000 + (i.dst - 0xA000)) then (0x2000 + (i.dst - 0xA000)) :: t.1
     else t.1, t.2)
  else t

/-- The programs that run: the new and the old one during a crossfade. -/
def State.programsAtWork (s : State) : List Prog :=
  let both := (s.alm.swap.map (·.running)).getD false
  s.runningProg.toList ++ (if both then (s.progOf s.idleBank).toList else [])

/-- External sinks whose block depends on the work of the units `u`. -/
def State.taintedSinks (s : State) (u : List Nat) : List Nat :=
  let section_ := fun (out : Bool) (t : List Nat) => s.programsAtWork.foldl
    (fun t g => ((g.section_ out).foldl (fun t i => taintInsn u t i.2) (t, false)).1) t
  let input := section_ false []
  let hit := fun o : Nat => u.contains (0x4000 + o) || input.contains (0x9000 + o)
  let feeds := ((s.obj.tap.filter fun t => hit t.2.obj).map fun t => t.2.feed)
    ++ (u.filter fun x => unitClass x == 5).map unitIndex
  ((section_ true (input ++ feeds.eraseDups.map (0x1000 + ·))).filter Node.external).eraseDups

/-- Zeros in place of the newest `n` samples of a line. -/
def zeroNewest (n : Nat) (l : List Int) : List Int := List.replicate (min n l.length) 0 ++ l.drop n

/-- What abandoned work leaves in a unit (R343). -/
def State.abandonUnit (s : State) (u : Nat) : State :=
  let n := s.blockLen
  if unitClass u = 4 then
    s.objMod fun p => { p with
      obj := tmod SndObj.reset p.obj (unitIndex u) fun o =>
        { o with line := zeroNewest n o.line, long := zeroNewest n o.long } }
  else if unitClass u = 5 then
    s.corMod fun c =>
      let c := c.clearUnit u false
      { c with feed := tmod CorFeed.reset c.feed (unitIndex u) fun f => { f with hist := zeroNewest n f.hist } }
  else if unitClass u = 6 then s.corMod fun c => c.clearUnit u false
  else s

/-- Sinks of a block on the way that are unfinished; none names them all. -/
def Flight.spoil (x : Flight) (sinks : Option (List Nat)) : Flight :=
  { x with bad := (x.bad ++ sinks.getD (x.sinks.map (·.1))).eraseDups }

/-- Work that the tick at render index `at_` finds unfinished: of the block it releases, and where D is 2, of
stage A of the block after it (R342). With no unit named, what depends on the work is every sink
(notes/assumptions/72.md). -/
def State.abandon (s : State) (t : TickIn) (at_ : Nat) : State :=
  let now := t.missed.any fun c => c != 2 && decide (1 ≤ c) && decide (c ≤ 5)
  let next := !(s.earlyMissed t).isEmpty
  if !now && !next then s
  else
    let sinks := if t.units = [] then none else some (s.taintedSinks t.units)
    let mark := fun x : Flight =>
      if (decide (x.due ≤ at_) && now) || (decide (at_ < x.due) && next) then x.spoil sinks else x
    t.units.foldl State.abandonUnit (s.almMod fun a => { a with flight := a.flight.map mark })

/-! ## The input edges -/

/-- Blocks of the players' and generators' nodes. -/
def State.sourceNodes (s : State) (n : Nat) (nodes : Tab (List Int)) : State × Tab (List Int) :=
  let p := s.alm.player.foldl (fun (r : State × Tab (List Int)) x =>
    let y := s.playBlock x.2 n
    (r.1.setPlayer x.1 y.1, tput [] r.2 (0x0B00 + x.1) y.2)) (s, nodes)
  s.alm.gen.foldl (fun (r : State × Tab (List Int)) x =>
    let y := x.2.block s.rate n
    (r.1.almMod fun a => { a with gen := tput TestGen.reset a.gen x.1 y.1 }, tput [] r.2 (0x0C00 + x.1) y.2)) p

/-- Sources of the lanes at work. -/
def State.laneSources (s : State) : List Nat :=
  (s.lanesAtWork.flatMap fun x => (List.range (Lane.inputs x.2.entry)).map (Lane.src x.2.entry)).eraseDups

/-- The source nodes of the block of render indices `base` to `base + n - 1`, and the blocks of the receive
streams. The last direct quarter of each lane source is kept for the direct tick at the boundary. -/
def State.capture (s : State) (base n : Nat) (ins : List (Nat × List Int)) :
    State × Tab (List Int) × Tab (List (List Int)) :=
  let r := s.receiveNodes base n
  let t := r.1.serialNodes n ins (r.1.ser.port.map (·.1))
  let p := t.1.sourceNodes n (t.2.foldl (fun t x => tput [] t x.1 x.2) r.2.1)
  (p.1.almMod fun a => { a with
      directIn := s.laneSources.foldl (fun t k => tput [] t k (newest 4 (padTo n (tget [] p.2 k)))) [] },
    p.2, r.2.2)

/-! ## The output edge -/

/-- The block that the tick at `at_` releases: none while the fabric is not ready, or none is finished. -/
def State.releasedBlock (s : State) (at_ : Nat) : Flight :=
  let none_ := { Flight.reset with ri := at_, due := at_ }
  match s.alm.flight.head? with
  | some x => if x.due ≤ at_ ∧ s.isReady Rdy.fabric = true then x else none_
  | none => none_

/-- What the override makes of a sink in a block of `n` samples (R47, R520). -/
def State.sinkOver (s : State) (live : Nat → Int → Int) (n a : Nat) : SinkOver :=
  let k := s.saf.sinkAt a
  let c := s.carries s.saf a
  let own := c == SinkOld.level0
  if 32 ≤ k.fade ∧ own = true then SinkOver.reset
  else
    { oldOwn := k.old == SinkOld.level0
      old := s.sourceBlock live a s.rate n [] k.old
      nowOwn := own
      now := s.sourceBlock live a s.rate n [] c
      pos := k.fade }

/-- Main-die sinks that the island may override. -/
def State.overSinks (s : State) : List Nat :=
  if s.saf.present then
    ((s.saf.sinkList ++ s.saf.sink.map (·.1)).eraseDups).filter fun k => Node.external k || decide (0xC000 ≤ k)
  else []

/-- The tick at `at_` gives the output edge its block of `n` samples; the island's content and its LTDM outputs
move on by as long. -/
def State.releaseBlock (s : State) (live : Nat → Int → Int) (n at_ : Nat) : State :=
  let m := n * 48000 / s.rate
  let cover := s.overSinks.foldl (fun t k => tput SinkOver.reset t k (s.sinkOver live n k)) []
  let edge := s.releasedBlock at_
  let t := s.almMod fun a => { a with
    edge := edge, cover := cover
    flight := if s.isReady Rdy.fabric then a.flight.filter fun x => decide (at_ < x.due) else [] }
  if t.saf.present then (t.ltdmBlock live m).safMod fun x => x.pass n m else t

end Sys2Proof.Machine
end

