-- ==== Sys2Proof/Machine/FabricRun.lean ====
section
/-!
DEFINITION. Sys2Proof/Machine/FabricRun.lean: the fabric's work on one block, from source nodes to the sinks of a
block on its way to the output edge (R340, R341, R384, R395, R396, R399-R401, R459), and a direct lane's
work on one quarter (R403-R406).
-/
namespace Sys2Proof.Machine

/-! ## The programs of a block -/

/-- A program about to work on a block. -/
def startRun (g : Prog) (st : ProgState) (up : Nat) (nodes : Tab (List Int)) (other : List Nat) : Run :=
  { prog := g, st := st, up := up, nodes := nodes, acc := [], bus := [], gains := [], other := other,
    sat := none, corSat := none }

/-- The programs of a block: the running one, or during a crossfade the new one and then the old, whose shared
registers are judged in the new (R400, R401). -/
def State.blockRuns (s : State) (nodes : Tab (List Int)) : List Run :=
  match s.runningProg with
  | none => []
  | some g =>
    if (s.alm.swap.map (·.running)).getD false then
      startRun g s.alm.progNew (shadow true) nodes []
        :: ((s.progOf s.idleBank).toList.map fun o => startRun o s.alm.prog 0 nodes g.points)
    else [startRun g s.alm.prog 0 nodes []]

/-- One section of every program; gains judged by one hold for the next. -/
def State.runSections (s : State) (n base : Nat) (out : Bool) (gains : Tab (List Nat)) : List Run → State × List Run
  | [] => (s, [])
  | r :: rest =>
    let r := { r with gains := gains.foldl (fun t x => tput [] t x.1 x.2) r.gains }
    let t := s.runInsns r n base (r.prog.section_ out)
    let u := t.1.runSections n base out t.2.gains rest
    (u.1, t.2 :: u.2)

/-- Sinks of a kind that the programs store to. -/
def storedSinks (runs : List Run) (kind : Nat → Bool) : List Nat :=
  ((runs.flatMap fun r => (r.prog.insn.filter Insn.isStore).map (·.dst)).filter kind).eraseDups

/-- The crossfade of two programs from B over W samples (R401). -/
def mixPrograms (b w base : Nat) (old new : List Int) : List Int :=
  (List.zipWith (·, ·) old new).zipIdx.map fun x =>
    let i := min w (base + x.2 - b)
    roundDiv (x.1.1 * (w - i : Nat) + x.1.2 * (i : Nat)) w

/-- What the programs give a sink (R395, R401). -/
def State.sinkValue (s : State) (runs : List Run) (n base a : Nat) : List Int :=
  let v := fun k : Nat => padTo n ((runs[k]?.map fun r => tget [] r.nodes a).getD [])
  match s.alm.swap with
  | some x => if x.running then mixPrograms x.at_ x.window base (v 1) (v 0) else v 0
  | none => v 0

/-- Sinks of a kind through their sink fades, and the fades after the block (R396). -/
def State.fadedSinks (s : State) (runs : List Run) (n base : Nat) (kind : Nat → Bool) :
    State × Tab (List Int) :=
  (storedSinks runs kind ++ (s.alm.sinkFade.map (·.1)).filter kind).eraseDups.foldl
    (fun (r : State × Tab (List Int)) a =>
      let y := (r.1.sinkFade a).run (s.sinkValue runs n base a)
      (r.1.almMod fun t => { t with sinkFade := tput SinkFade.reset t.sinkFade a y.1 }, tput [] r.2 a y.2))
    (s, [])

/-! ## Correction of the feeds (R459, R460, R485) -/

/-- Feeds of the active profile that have settings or a filter's state. -/
def State.feedsAtWork (s : State) : List Nat :=
  ((s.obj.feed.map (·.1) ++ s.cor.feed.map (·.1)).eraseDups).filter fun f => inCapacity s.fab.active (0x5000 + f)

/-- Every feed's block: feed outputs as nodes, and the first unit that saturated. -/
def State.runFeeds (s : State) (base n : Nat) (sums : Tab (List Int)) :
    List Nat → State × Tab (List Int) × Option Nat
  | [] => (s, [], none)
  | f :: rest =>
    let b := badSpectra s.mem (s.corFeed f).running
    let s := s.noteSpectra f b.1 b.2
    let r := s.feedChain s.cor f base (padTo n (tget [] sums f))
    let y := (s.cor.ldFade.apply r.2.1).1
    let u := (s.corMod fun _ => r.1).runFeeds base n sums rest
    (u.1, tput [] u.2.1 (0x1000 + f) y, if r.2.2.isSome then r.2.2 else u.2.2)

/-! ## Saturation (R412, R492) -/

/-- A block in which an instruction or a lane saturated is counted, and reported at most once a second. -/
def State.countAlmanac (s : State) (first : Option Nat) : State :=
  let s := match first with
    | some i => s.almMod fun a => { a with
      satFirst := if a.satBlocks = 0 then i else a.satFirst, satBlocks := a.satBlocks + 1 }
    | none => s
  if s.alm.satBlocks = 0 then s
  else s.oncePerSecond 0x60300 fun s =>
    (s.event 0x0603 Sev.warning 0x06 0x0000 (le 2 s.alm.satFirst ++ zeros 2 ++ le 4 s.alm.satBlocks)).almMod
      fun a => { a with satBlocks := 0 }

/-! ## One block -/

/-- The programs' states after the block. -/
def State.endRuns (s : State) (n base : Nat) (runs : List Run) : State :=
  let both := (s.alm.swap.map (·.running)).getD false
  match runs with
  | [] => s
  | r :: rest =>
    let new := s.endOfBlock r n base
    let old := rest.head?.map fun o => s.endOfBlock o n base
    s.almMod fun a =>
      if both then { a with progNew := new, prog := old.getD a.prog } else { a with prog := new }

/-- The fabric takes the block of render indices `base` to `base + n - 1`: input section, Planisphere, correction
and output section (R341, R384), and its sinks wait for the tick that releases them (R340). -/
def State.takeBlock (s : State) (nodes : Tab (List Int)) (base n : Nat) : State :=
  let a := s.runSections n base false [] (s.blockRuns nodes)
  let objs := a.1.fadedSinks a.2 n base Node.objectIn
  let src := fun k : Nat => padTo n (if Node.objectIn k then tget [] objs.2 k else tget [] nodes k)
  let stored := (storedSinks a.2 Node.objectIn).map (· - 0x9000)
  let r := objs.1.renderObjects src stored n (base + n)
  let f := r.1.runFeeds base n r.2 r.1.feedsAtWork
  let runs := a.2.map fun x => { x with nodes := f.2.1.foldl (fun t y => tput [] t y.1 y.2) x.nodes }
  let b := f.1.runSections n base true ((runs.head?.map (·.gains)).getD []) runs
  let lanes := b.1.laneSinks
  let ext := b.1.fadedSinks b.2 n base fun k => Node.external k && !lanes.contains k
  let s := (ext.1.endRuns n base b.2).corMod fun c => { c with ldFade := c.ldFade.after n }
  let s := s.almMod fun t => { t with
    flight := t.flight ++
      [{ ri := base, due := base + n + profDepth s.fab.active * n, sinks := ext.2, bad := [] }] }
  (s.countAlmanac ((b.2.findSome? (·.sat)))).countSaturation
    (match b.2.findSome? (·.corSat) with
      | some u => some u
      | none => f.2.2)

/-! ## Direct lanes (R403-R406) -/

/-- The sum of a lane's inputs, each at its register's gain, and whether it saturated (R404). -/
def State.laneSum (s : State) (e : List Byte) (src : Nat → List Int) : List Nat → State × List Int
  | [] => (s, List.replicate 4 0)
  | i :: rest =>
    let x := src (Lane.src e i)
    let g := (s.gainReg (Lane.gain e i)).run s.stepTimeout x
    let t := (s.setGainReg (Lane.gain e i) g.1).laneSum e src rest
    (t.1, vadd (List.zipWith mulGain x g.2) t.2)

/-- A lane takes a quarter: what it presents at the next direct tick. -/
def State.runLane (s : State) (src : Nat → List Int) (k : Nat) : State :=
  let x := s.lane k
  let read := fun a : Nat => if s.directUsable a then src a else List.replicate 4 0
  let r := s.laneSum x.entry read (List.range (Lane.inputs x.entry)).reverse
  let v := clip32 r.2
  let f := x.fade.apply v.1
  let a := Lane.sink x.entry
  let y := (r.1.sinkFade a).run f.1
  let s := (r.1.setLane k { x with fade := f.2, out := y.2 }).almMod fun t => { t with
    sinkFade := tput SinkFade.reset t.sinkFade a y.1 }
  if v.2 then s.countAlmanac (some (0xFF00 + k)) else s

/-- The quarter a lane finished at the last direct tick reaches its sink at position `q` of the block: fades,
and the deadline-miss fade (R359). -/
def State.releaseLane (s : State) (missed : Bool) (q k : Nat) : State :=
  let x := s.lane k
  let a := Lane.sink x.entry
  let v := fadeThrough (sinkFades s.fadesNow (s.sinkLoop a)) q (padTo 4 x.out)
  let h := padTo q (tget [] s.alm.laneOut a)
  let m := (tget MissFade.reset s.alm.missFade a).run missed ((h.getLast?).getD (s.lastPresented a)) v
  s.almMod fun t => { t with
    missFade := tput MissFade.reset t.missFade a m.1
    laneOut := tput [] t.laneOut a (h ++ m.2) }

/-- Newest quarter of the direct sources before position `q` of the current block (R403). -/
def State.directNodes (s : State) (q : Nat) (ins : List (Nat × List Int)) : Nat → List Int :=
  if q = 0 then fun a => padTo 4 (tget [] s.alm.directIn a)
  else
    let front := ins.map fun x => (x.1, List.replicate (q - x.2.length) 0 ++ x.2)
    let r := (s.receiveNodes s.time.ri q).2.1
    let t := (s.serialNodes q front (s.ser.port.map (·.1))).2
    fun a => newest 4 (padTo q (tget [] (if Node.receive a then r else t) a))

/-- A direct tick: the lanes' last quarter goes out, and the newest one is taken (R403). Content of the block
itself and of every other sink is not touched. -/
def State.directTick (s : State) (missed : Bool) (ins : List (Nat × List Int)) : State :=
  let q := s.alm.quarter
  let lanes := s.lanesAtWork.map (·.1)
  let src := s.directNodes q ins
  let s := lanes.foldl (fun s k => s.releaseLane missed q k) s
  let s := lanes.foldl (fun s k => s.runLane src k) s
  let s := s.almMod fun t => { t with quarter := q + 4 }
  if missed then s.countMiss [2] (s.time.ri + q - 8) else s

end Sys2Proof.Machine
end

