-- ==== Sys2Proof/Machine/BlockTick.lean ====
section
/-!
DEFINITION. Sys2Proof/Machine/BlockTick.lean: the block tick and the direct tick (R32, R183, R203, R340-R347,
R368, R403, Table 13-6).
-/
namespace Sys2Proof.Machine

/-! ## The boundary (R570) -/

/-- TDM sets held back are judged again (R318, R570). -/
def State.judgeTdmSets (s : State) : State :=
  (s.dat.held.filter fun x => x.1.kind == Rec.tdm).foldl (fun s x => writeTdm x.1 x.2 s) s

/-- The render index moves on to the boundary `at_` of the tick. -/
def State.enterBlock (s : State) (at_ : Nat) : State :=
  let s := s.timeMod fun t => { t with ri := at_, lastUsed := max t.lastUsed (at_ - 1) }
  s.almMod fun a => { a with quarter := 0 }

/-- What is judged at every block boundary: loops, ports, streams, sets and objects that wait for consistency,
the heartbeat to the island, and the pair. -/
def State.boundaryPassed (s : State) (t : TickIn) (n : Nat) : State :=
  let s := s.judgeLoopGroups.judgeSerials.judgeStreams.followGroups.judgeSets.judgeObjects.judgeTdmSets
  let s := s.corMod fun c => c.moveDelay s.time.ri
  let s := (s.advanceGroups (s.time.ri - n) n).naAdvance n
  (s.fabricBeat s.fab.beat).pairTick s.fab.beat t.offset

/-- No block ticks: the main die is in reset, the render index is not loaded, or a realignment withholds them. -/
def State.noBlocks (s : State) : Bool := s.sys.inReset || s.time.withheld || !s.time.riLoaded

/-- One block tick: the banks exchange (R32). The block at the output edge has been presented; the block just
filled is taken, the finished one is released, and the boundary's judgements follow. -/
def State.blockTick (s : State) (t : TickIn) : State :=
  if s.noBlocks then s
  else
    let base := s.time.ri
    let n := s.blockLen
    let at_ := base + n
    let s := ((s.finishBlock base n).abandon t at_).judgeBlock t ((s.alm.flight.head?.map Flight.ri).getD base)
    let s := t.ecc.foldl (fun s e => s.eccError e.2 e.1) s
    let c := s.capture base n t.inputs
    let s := c.1.releaseBlock (s.liveSource t.inputs c.2.2) n at_
    let s := if s.isReady Rdy.fabric then s.takeBlock c.2.1 base n else s
    (s.enterBlock at_).boundaryPassed t n

/-- BLOCK_TICK (R32, R33, R340-R347, R359, R370, R384). -/
def execBlockTick (t : TickIn) (s : State) : Host.Outcome State Fault Refusal := goOn s (s.blockTick t)

/-- DIRECT_TICK (R359, R360, R403-R406): at render index ri + quarter. -/
def execDirectTick (missed : Bool) (ins : List (Nat × List Int)) (s : State) : Host.Outcome State Fault Refusal :=
  goOn s (if s.noBlocks || decide (s.blockLen ≤ s.alm.quarter) || !s.isReady Rdy.fabric then s
    else s.directTick missed ins)

end Sys2Proof.Machine
end

