-- ==== Sys2Proof/Machine/Boot.lean ====
section
/-!
DEFINITION. Sys2Proof/Machine/Boot.lean: the main resets, what survives them, and the readiness timeline up to the
firmware's boot (R166, R364, R370, R575, R611-R613, R623, R624, R643, R662, Tables 15-1, 15-8).
-/
namespace Sys2Proof.Machine

/-! ## A main reset (R611-R613) -/

/-- Memory that a main reset keeps: flash, the island's SRAM and host memory; on a warm reset also the event
audio recorder, the main message library and the general region. -/
def keptByReset (warm : Bool) (a : Nat) : Bool :=
  isFlash a || isSram a || isHostMem a ||
    (warm && (inRange a 0x202000000 0x3D1FFFFFF || inRange a 0x3E6000000 0x3FFFFFFFF))

/-- A message load goes on in the island; one that a host slot sent has nobody left to answer. -/
def MsgLoad.orphan (j : MsgLoad) : MsgLoad :=
  if j.req.origin == .service then j else { j with req := { j.req with origin := .entry } }

/-- The island over a main reset: it runs on, and no boundary of the lost render index is left. -/
def SafPart.overReset (x : SafPart) : SafPart :=
  { x with
    load := x.load.map MsgLoad.orphan
    req := x.req.map fun q => (q.1, { q.2 with boundaryA := none, beatsOk := false }) }

/-- Every table, queue, register and generation of the main die at its reset value; OTP is read again. -/
def State.cleared (s : State) (warm : Bool) : State :=
  let otp := { s.otp with active := s.otp.newest, job := none }
  let ld := s.trav.ch.filter fun c => decide (32 ≤ c.1)
  let ls := s.time.loops.filter fun l => l.1 == 5
  { State.reset with
    pending := s.pending, freeCtr := s.freeCtr
    time := { TimePart.reset with elapsed := s.time.elapsed, loops := ls }
    trav := { TravPart.reset with ch := ld, lastGrantL := s.trav.lastGrantL, busyL := s.trav.busyL }
    sticky := s.sticky, otp := otp, saf := s.saf.overReset
    sys := { SysPart.reset with
      islandDue := s.sys.islandDue, bootPins := s.sys.bootPins, pairPin := s.sys.pairPin, hot := s.sys.hot
      resetLow := s.sys.resetLow, keyBoot := s.sys.keyBoot, keyUdp := s.sys.keyUdp, keyPair := s.sys.keyPair }
    mem := s.mem.filter fun x => keptByReset warm x.1 }

/-- A main reset takes hold: 1 power-on, 2 RESET_N, 3 SYS_RESET, 4 thermal (Table 15-11). What it cuts short
ends as Table 15-9 gives. -/
def State.mainReset (s : State) (cause : Nat) : State :=
  let s := ((s.storeCut).otpCut).stageCut
  let k := s.sticky
  let sticky := if cause = 1 then Sticky.reset
    else { k with resetCause := cause, warmResets := satAdd 0xFFFFFFFF k.warmResets 1 }
  ({ s with sticky := sticky }).cleared (cause != 1)

/-- The reset is released: BOOT[2:0] and PAIR_ID are sampled, the boot count goes up, and the base record's
privileged slot and default profile take effect (R73, R94, R364, R573, R578, Table 15-8 step 1). What has
reached the main die while it was held in reset is void. -/
def State.released (s : State) (boot : Nat) (pair : Bool) : State :=
  let s := s.cleared true
  let b := s.baseRecord
  let p := min 4 (BaseRec.defProfile b)
  let s := s.setReady Rdy.lodestar s.saf.ready
  { s with
    host := { s.host with privSlot := BaseRec.privSlot b, bootCount := (s.sys.keyBoot + 1) % 4294967296 }
    fab := { s.fab with active := p }
    alm := { s.alm with gen := seedGens }
    pair := { s.pair with pairId := pair }
    sys := { s.sys with
      inReset := false, releaseAt := s.time.elapsed, bootPins := boot, pairPin := pair } }

/-- RESET_N goes low (R611). -/
def State.resetFalls (s : State) : State :=
  let s := if s.sys.inReset then s else s.mainReset 2
  s.sysMod fun x => { x with resetLow := true }

/-- RESET_N_ASSERT (R53, R139, R166, R558, R575, R585, R611-R613, R627, R629). -/
def execResetNAssert (s : State) : Host.Outcome State Fault Refusal := goOn s s.resetFalls

/-- RESET_N goes high: the main die starts unless a thermal reset holds it. -/
def State.resetRises (s : State) (boot : Nat) (pair : Bool) : State :=
  let s := s.sysMod fun x => { x with resetLow := false, bootPins := boot, pairPin := pair }
  if s.sys.inReset && !s.sys.hot then s.released boot pair else s

/-- RESET_N_RELEASE (R73, R94, R96, R113, R168, R206, R208, R364, R482, R573, R578, R612, R623). -/
def execResetNRelease (boot : Nat) (pair : Bool) (s : State) : Host.Outcome State Fault Refusal :=
  ran (decide (boot < 8)) "RESET_N_RELEASE" s (s.resetRises boot pair)

/-- A main supply is lost: a power-on reset until RESET_N is released again (R613, R643). -/
def State.supplyLost (s : State) : State := (s.mainReset 1).sysMod fun x => { x with resetLow := true, hot := false }

/-- MAIN_SUPPLY_LOSS (R502, R575, R585, R611, R613, R643). -/
def execMainSupplyLoss (s : State) : Host.Outcome State Fault Refusal := goOn s s.supplyLost

/-- 1 ms after the ACCEPTED of SYS_RESET a command reset takes hold and is released (R634). -/
def State.commandReset (s : State) (boot : Nat) (pair : Bool) : State :=
  match s.sys.resetDue with
  | some t => if t ≤ s.time.elapsed ∧ s.sys.inReset = false then (s.mainReset 3).released boot pair else s
  | none => s

/-- COMMAND_RESET (R611, R634). -/
def execCommandReset (boot : Nat) (pair : Bool) (s : State) : Host.Outcome State Fault Refusal :=
  ran (decide (boot < 8)) "COMMAND_RESET" s (s.commandReset boot pair)

/-! ## Temperature (R354, R611, R662) -/

/-- The hottest of twelve readings, in quarters of a degree. -/
def hottest (t : List Int) : Int := ((List.range 12).map fun i => t.getD i 0).foldl max (t.getD 0 0)

/-- Each 1 ms the sensors are read. Above 125 degrees a thermal reset takes hold, and the first reading below
105 degrees releases it. -/
def State.thermalRead (s : State) (t : List Int) : State :=
  let top := hottest t
  if s.sys.hot then
    (if 420 ≤ top then s
     else
       let s := s.sysMod fun x => { x with hot := false }
       if s.sys.resetLow then s else (s.released s.sys.bootPins s.sys.pairPin).readSensors t)
  else if s.sys.inReset then s
  else if 500 < top then (s.mainReset 4).sysMod fun x => { x with hot := true }
  else s.readSensors t

/-- THERMAL_READ (R354, R611, R662). -/
def execThermalRead (t : List Int) (s : State) : Host.Outcome State Fault Refusal := goOn s (s.thermalRead t)

/-! ## The timeline (Table 15-8) -/

/-- 20 ms after the release device time starts from 0:0.0, and TIME sets (R166). -/
def State.timeStarts (s : State) : State :=
  if s.sys.inReset || s.time.running || decide (s.time.elapsed < s.sys.releaseAt + 20 * milli) then s
  else ({ s with time := { s.time with running := true, now := DevTime.zero } }).setReady Rdy.time true

/-- TIME_START (R166, R623). -/
def execTimeStart (s : State) : Host.Outcome State Fault Refusal := goOn s s.timeStarts

/-- Set a bit of the MEMORY sticky word: 4 FS_TEST, 5 LS_TRAIN (Table 15-10). -/
def State.markMemory (s : State) (bit : Nat) : State :=
  { s with sticky := { s.sticky with memory := setBit s.sticky.memory bit true } }

/-- The field store's self-test ends: every bank reads zero, or FS_TEST sets (R612, R624). -/
def State.fieldTested (s : State) (ok : Bool) : State :=
  if s.sys.inReset || s.isReady Rdy.fieldStore then s
  else if ok then
    ({ s with mem := s.mem.filter fun x => !isField x.1 }).setReady Rdy.fieldStore true
  else s.markMemory 4

/-- FIELD_STORE_SELFTEST_DONE (R612, R623, R624). -/
def execFieldStoreSelftestDone (ok : Bool) (s : State) : Host.Outcome State Fault Refusal := goOn s (s.fieldTested ok)

/-- Both stacks are trained, or LS_TRAIN sets (R624). -/
def State.longTrained (s : State) (ok : Bool) : State :=
  if s.sys.inReset || s.isReady Rdy.longStore then s
  else if ok then s.setReady Rdy.longStore true else s.markMemory 5

/-- LONG_STORE_TRAINED (R455, R623, R624). -/
def execLongStoreTrained (ok : Bool) (s : State) : Host.Outcome State Fault Refusal := goOn s (s.longTrained ok)

/-- The partitions' self-test ends (R370): failed partitions stay gated, FP0 stays powered, and FABRIC and
DYNAMICS set if FP0 passed; the default profile then runs within its voltage band (R350, R364). -/
def State.fabricTested (s : State) (failed : Nat) : State :=
  if s.sys.inReset || s.isReady Rdy.fabric || s.fab.failed != 0 then s
  else
    let bad := BitVec.ofNat 32 failed
    let want := (BitVec.ofNat 32 (profPowered s.fab.active) &&& ~~~ bad) ||| 1
    let s := s.fabMod fun f => { f with
      failed := bad, powered := want, usable := want &&& ~~~ bad, ceil := f.ceilNow
      floor := bandFloor (profBand f.active) }
    let s := if failed = 0 then s
      else (s.markFabric 2).event 0x0145 Sev.critical 0x01 0x0000 (le 2 failed)
    if failed % 2 = 1 then s else ((s.setReady Rdy.fabric true).setReady Rdy.dynamics true).aimVcode

/-- FABRIC_SELFTEST_DONE (R35, R370, R623). -/
def execFabricSelftestDone (failed : Nat) (s : State) : Host.Outcome State Fault Refusal :=
  ran (decide (failed < 65536)) "FABRIC_SELFTEST_DONE" s (s.fabricTested failed)

end Sys2Proof.Machine
end

