-- ==== Sys2Proof/Machine/Clocks.lean ====
section
/-!
DEFINITION. Sys2Proof/Machine/Clocks.lean: locks, lock losses, returns and fallbacks of the multiplying loops, and
the boundary of a realignment, with what follows them in other chapters (R190, R191, R199-R204, R281,
R291, R310, R348, R501).
-/
namespace Sys2Proof.Machine

/-- What clocks itself from a loop is judged afresh: ASRC groups in LOOP mode and serial ports (R281, R310). -/
def State.loopsJudged (s : State) : State := (s.judgeLoopGroups).judgeSerials

/-- SYS is LOCKED: its domains are back from their fallback, and with them the field bus and device time
(Table 4-3). A lock of LS takes CD7 off the crystal (R501). -/
def State.domainBack (s : State) (l : Nat) : State :=
  if (s.loop l).state ≠ .locked then s
  else if l = 0 then
    ((s.setReady Rdy.field s.sys.booted).setReady Rdy.time s.time.running).aimVcode
  else if l = 5 ∧ s.saf.crystal = true then s.lsCrystal false
  else s

/-- A loop locks under R190; no loop of the main die does while that is held in reset. -/
def State.lockFound (s : State) (l : Nat) : State :=
  if s.sys.inReset && l != 5 then s else ((s.loopLocks l).domainBack l).loopsJudged

/-- LOOP_LOCK (R183, R190, R199, R200, Table 4-6). -/
def execLoopLock (l : Nat) (s : State) : Host.Outcome State Fault Refusal :=
  ran (decide (l < 6)) "LOOP_LOCK" s (s.lockFound l)

/-- A comparison beyond the loss threshold with a valid reference (R190, Table 4-6). -/
def State.lockLost (s : State) (l : Nat) : State :=
  if followsReference (s.loop l) then (s.coast l 3).loopsJudged else s

/-- LOOP_LOCK_LOSS (R189, R190, R199). -/
def execLoopLockLoss (l : Nat) (s : State) : Host.Outcome State Fault Refusal :=
  ran (decide (l < 6)) "LOOP_LOCK_LOSS" s (s.lockLost l)

/-- REFERENCE_RETURN (R191, R201, R202, Table 4-2). -/
def execReferenceReturn (l : Nat) (err : Int) (s : State) : Host.Outcome State Fault Refusal :=
  ran (decide (l < 6)) "REFERENCE_RETURN" s (((s.referenceReturn l err).domainBack l).loopsJudged)

/-- A coast window expires; LS's puts CD7 on the crystal (R191, R501, Table 4-3). -/
def State.windowExpires (s : State) (l : Nat) (sec : Bool) : State :=
  let t := s.coastExpires l sec
  let moved := (s.loop l).state == .coast && (t.loop l).state == .holdover
  (if moved && l == 5 then t.lsCrystal true else t).loopsJudged

/-- COAST_WINDOW_EXPIRE (R191, R198, R501, Table 4-3). -/
def execCoastWindowExpire (l : Nat) (sec : Bool) (s : State) : Host.Outcome State Fault Refusal :=
  ran (decide (l < 6)) "COAST_WINDOW_EXPIRE" s (s.windowExpires l sec)

/-! ## A realignment's boundary (Table 4-9) -/

/-- Every transmit stream's record is re-anchored at a step of the render index, its mr bit inverted
(R291). -/
def State.anchorAll (s : State) : State :=
  (s.str.tx.filter fun x => x.2.bound).foldl (fun s x =>
    (s.setTx x.1 ((s.tx x.1).anchor s.time.ri true)).sendContinuity x.1) s

/-- Streams follow a step of the render index. -/
def State.anchorIfMoved (s : State) (ri : Nat) : State := if s.time.ri = ri then s else s.anchorAll

def State.realignBoundaryMet (s : State) (l : Nat) : State := (s.realignStep l).anchorIfMoved s.time.ri

/-- REALIGN_BOUNDARY (R183, R185, R203, R204, R291, R348, Table 4-9 step 3). -/
def execRealignBoundary (l : Nat) (s : State) : Host.Outcome State Fault Refusal :=
  ran (decide (l < 6)) "REALIGN_BOUNDARY" s (s.realignBoundaryMet l)

/-- REALIGN_TICK_RESUME (R185, R203, R204, R291, Table 4-9 step 3). -/
def execRealignTickResume (s : State) : Host.Outcome State Fault Refusal :=
  goOn s (s.ticksResume.anchorIfMoved s.time.ri)

end Sys2Proof.Machine
end

