-- ==== Sys2Proof/Machine/Delegation.lean ====
section
/-!
DEFINITION. Sys2Proof/Machine/Delegation.lean: how the island applies a delegated request's overlay and removes an
ended request's (R523, R525, R563, R565).
-/
namespace Sys2Proof.Machine

/-- The request is active, delegates, and stands in DIRECT_START without its overlay. -/
def State.wantsOverlay (s : State) (r : Nat) : Bool :=
  let q := s.safReq r
  q.active && q.deleg == Deleg.start && q.boundaryA.isNone

/-- The overlay that the entry of a delegating request names (R511). -/
def State.reqOvl (s : State) (r : Nat) : Option Nat :=
  let u := SafCfg.reqOverlay (s.saf.reqEntry r)
  if unitClass u = 13 ∧ validUnit u = true then some (unitIndex u) else none

/-- Island overlays that wait for a place, in the order R513 gives their requests (R565). -/
def State.waitOrder (s : State) : List Nat :=
  s.saf.ranked.filterMap fun r => if s.wantsOverlay r then (s.reqOvl r).filter fun n => (s.ovl n).waiting else none

/-- Its turn has come: no overlay that stands before it in that order waits. -/
def State.ovlTurn (s : State) (n : Nat) : Bool :=
  match s.waitOrder with
  | m :: _ => m == n || (s.ovl n).active
  | [] => true

/-- Boundary A of a request is this one. -/
def State.beginDelegation (s : State) (r : Nat) : State :=
  s.setSafReq r { s.safReq r with boundaryA := some s.time.ri, beatsOk := true }

/-- With every heartbeat present the island applies the request's overlay (R523 step 1). -/
def State.delegationApply (s : State) (r : Nat) : State :=
  if !(s.saf.ready && s.saf.hbMissing == 0 && s.wantsOverlay r) || decide (s.dat.phase = 3) then s
  else
    match s.reqOvl r with
    | none => s.beginDelegation r
    | some n =>
      if !s.ovlTurn n then s
      else
        let t := s.islandApply n
        if t.2 then (t.1.setOvl n { t.1.ovl n with waiting := false }).beginDelegation r else t.1

/-- DELEGATION_APPLY (R523, R565). -/
def execDelegationApply (r : Nat) (s : State) : Host.Outcome State Fault Refusal :=
  ran (decide (r < 64)) "DELEGATION_APPLY" s (s.delegationApply r)

/-- An active request names the overlay. -/
def State.ovlNeeded (s : State) (n : Nat) : Bool :=
  s.saf.activeReqs.any fun r => decide ((s.safReq r).deleg ≠ 0) && s.reqOvl r == some n

/-- The overlay of an ended request is removed at this boundary (R525). A removal that must swap back
waits for a swap in progress. -/
def State.islandRemove (s : State) (n : Nat) : State :=
  let o := s.ovl n
  if !s.saf.ready || !ovlIsland s n || s.ovlNeeded n then s
  else if o.waiting then s.setOvl n { o with waiting := false }
  else if !o.active || s.swapStuck (s.removeOvl n) then s
  else s.removeOvl n

/-- ISLAND_OVERLAY_REMOVE (R525, R566). -/
def execIslandOverlayRemove (n : Nat) (s : State) : Host.Outcome State Fault Refusal :=
  ran (decide (n < 64)) "ISLAND_OVERLAY_REMOVE" s (s.islandRemove n)

end Sys2Proof.Machine
end

