-- ==== Sys2Proof/Machine/FrameReceive.lean ====
section
/-!
DEFINITION. Sys2Proof/Machine/FrameReceive.lean: the receive filter chains of the five ports (R211-R217, R220,
R238, Tables 5-2 to 5-5), and what firmware does with the frames of its receive queues.
-/
namespace Sys2Proof.Machine

/-! ## Sight-line frames (R217, R244-R248) -/

/-- A sight-line frame from its header on reaches the consumer of its type (Table 5-13); the sequence number of
one whose kind no table names is consumed. -/
def State.sightFrameIn (s : State) (f : List Byte) : State :=
  let p := sightPayload f
  match u8 f 1 with
  | 0 => s.syncReceive f
  | 1 => (s.ackReceive f).form
  | 2 => s.peerBeat f
  | 3 =>
    s.sightMessage f 3 fun s =>
      match u8 p 0 with
      | 1 => s.takeMirrored f
      | 2 => s.takeResult f
      | 3 | 4 => s.takeSnapshotPart f
      | _ => s
  | 4 => s.sightMessage f 4 fun s => s.takeStreamState f
  | 5 => s.sightMessage f 5 fun s => s.takeWrite p
  | 6 =>
    s.sightMessage f 6 fun s =>
      match u8 p 0 with
      | 1 => s.joinAsked p
      | 2 => s.joinAccepted p
      | 3 => s.joinDone
      | 4 => s.handoverAsked (u64 f 8)
      | 5 => s.handoverAcked (u64 f 8)
      | 6 => s.overtaken
      | 7 => s.peerLeaves (u8 p 3)
      | _ => s
  | _ => s

/-! ## IP headers -/

/-- The IP header of a frame: protocol or next header, the protocol after a fragment header, length, whether it
is a fragment, and whether it begins its datagram. -/
structure IpHead where
  v6    : Bool
  next  : Nat
  proto : Nat
  len   : Nat
  frag  : Bool
  first : Bool
  deriving DecidableEq, Repr

def Fr.ip (x : Fr) : Option IpHead :=
  let b := x.body
  if x.etype = 0x0800 ∧ u8 b 0 / 16 = 4 then
    let w := ub 2 b 6 % 16384
    some { v6 := false, next := u8 b 9, proto := u8 b 9, len := 4 * (u8 b 0 % 16), frag := w != 0, first := w % 8192 == 0 }
  else if x.etype = 0x86DD ∧ u8 b 0 / 16 = 6 then
    let frag := u8 b 6 == 44
    some
      { v6 := true, next := u8 b 6, proto := if frag then u8 b 40 else u8 b 6, len := if frag then 48 else 40
        frag := frag, first := !frag || ub 2 b 42 / 8 == 0 }
  else none

/-- Destination port of a UDP or TCP segment. -/
def Fr.dport (x : Fr) : Option (Nat × Nat) :=
  match x.ip with
  | some h => if h.first && (h.proto == 17 || h.proto == 6) then some (h.proto, ub 2 x.body (h.len + 2)) else none
  | none => none

def Fr.toUdpPort (x : Fr) (ports : List Nat) : Bool :=
  match x.dport with
  | some (17, n) => ports.contains n
  | _ => false

/-! ## Stages 3 and 4 (R211, Table 5-3) -/

/-- The fixed addresses of stage 3. -/
def fixedAddresses : List (List Byte) :=
  [[0x01, 0x80, 0xC2, 0x00, 0x00, 0x0E], [0x01, 0x1B, 0x19, 0x00, 0x00, 0x00], [0x01, 0x00, 0x5E, 0x00, 0x01, 0x81]]

def State.acceptsAddress (s : State) (p : Nat) (dst : List Byte) : Bool :=
  let x := s.port p
  bitOf x.pflags 2 || dst == s.macOf p || dst == broadcast || fixedAddresses.contains dst ||
    x.mcast.any fun e => e.2 == dst

/-- A frame that R211 discards on Ports A, B and C. -/
def State.vlanDrops (s : State) (p : Nat) (x : Fr) : Bool :=
  if x.tci.isNone && x.etype == 0x88A8 then true
  else if x.vid = 0 then !bitOf (s.port p).pflags 3
  else !(s.port p).vids.contains x.vid

/-! ## Stage 8 (R220, Table 5-6) -/

def ruleMatches (r : List Byte) (p : Nat) (x : Fr) : Bool :=
  let m := u8 r 2
  let want := fun (bit : Nat) (ok : Bool) => !bitOf m bit || ok
  bitOf (u8 r 0) 0 && bitOf (u8 r 1) p && want 0 (x.etype == u16 r 4) && want 1 (x.vid == u16 r 6) &&
    want 2 ((x.ip.map fun h => h.next == u8 r 8).getD false) &&
    want 3 ((x.dport.map fun d => d.2 == u16 r 10).getD false) && want 4 (x.dst == slice r 12 6)

def State.firstRule (s : State) (p : Nat) (x : Fr) : Option Nat :=
  (List.range 32).find? fun n => ruleMatches (tget [] s.net.rules n) p x

/-! ## Firmware's frames (R168, R232, R289, R597) -/

/-- The PTP servo follows a message of a port of its port set: when it acts, by how much, and when it locks is
firmware's; a correction beyond the threshold steps device time, a smaller one changes the increment by at most
the maximum slew (R168, R202). -/
def State.servoHears (s : State) (p : Nat) : State :=
  if s.time.servo && bitOf s.time.portSet p then
    let d := s.draw 2
    let off := Config.freeInt d.2.freeCtr
    let s := d.2.bump.setReady Rdy.ptpLocked (bitOf d.1 1)
    if !bitOf d.1 0 then s
    else if s.time.stepThr < off.natAbs then s.stepTime (off * 4294967296) off
    else
      let slew : Int := min s.time.maxSlew 1000000
      let ppb := clampI (-slew) slew (Config.freeInt s.freeCtr)
      s.bump.timeMod fun t => { t with inc := (0x0200000000 + 0x0200000000 * ppb / 1000000000).toNat }
  else s

/-- Receive Tw of an IEEE 802.3 EEE TLV among LLDP TLVs, in microseconds (R232; 802.3 Annex 79). -/
def eeeTlv (b : List Byte) : Nat → Option Nat
  | 0 => none
  | fuel + 1 =>
    let h := ub 2 b 0
    let n := h % 512
    if b.length < 2 ∨ h / 512 = 0 then none
    else if h / 512 = 127 ∧ slice b 2 4 = [0x00, 0x12, 0x0F, 0x05] then some (ub 2 b 8)
    else eeeTlv (b.drop (2 + n)) fuel

/-- LLDP settles TW with the link partner (R232). -/
def State.hearLldp (s : State) (p : Nat) (x : Fr) : State :=
  match eeeTlv x.body 128 with
  | some us => if bitOf (s.port p).pflags 1 then s.modPort p fun x => { x with tw := some (us * 1000) } else s
  | none => s

/-- The address an ARP request or a neighbour solicitation asks for. -/
def Fr.asked (x : Fr) : Option (Bool × List Byte) :=
  if x.etype = 0x0806 ∧ ub 2 x.body 6 = 1 then some (false, slice x.body 24 4)
  else if x.etype = 0x86DD ∧ u8 x.body 6 = 58 ∧ u8 x.body 40 = 135 then some (true, slice x.body 48 16)
  else none

/-- The MAC that the device answers for an address: its own, and VMAC for VIP while it is active (R597). -/
def State.answersFor (s : State) (p : Nat) (v6 : Bool) (a : List Byte) : Option (List Byte) :=
  if a = s.streamIp p v6 ∧ (s.pair.enabled = false ∨ (p < 2 ∧ s.pair.active = true)) then some (s.streamMac p)
  else if a = s.portIp p v6 then some (s.macOf p)
  else none

/-- The answer to a request for an address. -/
def State.answerRequest (s : State) (p : Nat) (x : Fr) : State :=
  match x.asked with
  | none => s
  | some (v6, a) =>
    match s.answersFor p v6 a with
    | none => s
    | some mac =>
      if v6 then
        let dst := slice x.body 8 16
        let icmp := fun c : Nat => [136, 0] ++ be 2 c ++ be 4 0x60000000 ++ a ++ [2, 1] ++ mac
        let c := inetSum (a ++ dst ++ be 4 32 ++ be 4 58 ++ icmp 0)
        s.fwFrame p 2 (ether x.src mac 0 0 0x86DD (ipBytes true a dst 0 255 0 58 (icmp c)))
      else
        s.fwFrame p 2 (ether x.src mac 0 0 0x0806
          (be 2 1 ++ be 2 0x0800 ++ [6, 4] ++ be 2 2 ++ mac ++ a ++ slice x.body 8 6 ++ slice x.body 14 4))

/-- SAP announcements go to the session cache. -/
def State.hearSession (s : State) (x : Fr) : State :=
  match x.udp with
  | some u => if u.dport = 9875 then s.hearSap u.payload else s
  | none => s

/-- What firmware does with a frame of receive queue `k`; of the rest the spec gives no effect on the block. -/
def State.firmwareFrame (s : State) (p k : Nat) (x : Fr) : State :=
  match k with
  | 0 => s.servoHears p
  | 1 => if x.etype = 0x88CC then s.hearLldp p x else s
  | 2 => ((s.hearResolution p x).answerRequest p x).hearSession x
  | _ => s

/-- A frame without its FCS. -/
def unFcs (f : List Byte) : List Byte := f.take (f.length - 4)

/-- Running firmware empties receive queue `k` of a port (R218). -/
def State.drainReceive (s : State) (p k : Nat) : Nat → State
  | 0 => s
  | fuel + 1 =>
    if s.sys.running then
      match s.popPacket (80 + 8 * p + k) with
      | (s', []) => s'
      | (s', c) =>
        let s' := if u16 c 0 = 0xFFFF then s' else s'.firmwareFrame p k (parseFr (unFcs (slice c 32 (u16 c 2))))
        s'.drainReceive p k fuel
    else s

/-! ## Stages 6 to 12 (Table 5-3) -/

/-- RFLAGS and TCI of a frame. -/
def rflags (x : Fr) (wake mirror : Bool) : Nat := b2n x.tci.isSome + 4 * b2n wake + 8 * b2n mirror

/-- A frame goes to receive queue `k` of a port. -/
def State.toFirmware (s : State) (p k stage : Nat) (wake : Bool) (x : Fr) (f : List Byte) : State :=
  (s.deliverFrame (80 + 8 * p + k) p stage 0xFF (rflags x wake false) (x.tci.getD 0) f).drainReceive p k 260

/-- Stage 9: a datagram of the command service; it also tells the sender's address (R70, R289). -/
def State.serviceDatagram (s : State) (x : Fr) (h : IpHead) : State :=
  let b := x.body
  let src := if h.v6 then slice b 8 16 else slice b 12 4
  let dst := if h.v6 then slice b 24 16 else slice b 16 4
  if dst ≠ s.portIp 2 h.v6 then s.discardDatagram 20
  else if h.frag then s.discardDatagram 21
  else
    let d := slice b (h.len + 8) (ub 2 b (h.len + 4) - 8)
    (s.learnMac 2 src x.src).datagram (if h.v6 then 6 else 4) src (ub 2 b h.len) false d

def isDiscovery (x : Fr) : Bool :=
  x.etype == 0x88CC || (x.etype == 0x22F0 && [0xFA, 0xFB, 0xFC].contains (u8 x.body 0))

def isControl (x : Fr) : Bool :=
  x.etype == 0x0806 ||
    (match x.ip with
     | some h => (h.v6 && h.proto == 58) || (!h.v6 && h.proto == 1)
     | none => false) ||
    x.toUdpPort [67, 68, 546, 547, 5353, 9875]

/-- Stages 9 to 12. -/
def State.lateStages (s : State) (p : Nat) (wake : Bool) (x : Fr) (f : List Byte) : State :=
  match (if p = 2 ∧ x.toUdpPort [9624] = true then x.ip else none) with
  | some h => s.serviceDatagram x h
  | none =>
    if isDiscovery x then s.toFirmware p 1 10 wake x f
    else if isControl x then s.toFirmware p 2 11 wake x f
    else if bitOf (s.port p).pflags 4 then s.toFirmware p 3 12 wake x f
    else s.countPort p Ctr.noMatch 1

/-- Stages 6 to 8. -/
def State.midStages (s : State) (p : Nat) (wake : Bool) (x : Fr) (f : List Byte) : State :=
  match (if p < 2 then s.matchStream p x else none) with
  | some i => s.streamPacket i p x
  | none =>
    if x.etype = 0x88F7 ∨ x.toUdpPort [319, 320] = true then s.toFirmware p 0 7 wake x f
    else
      match s.firstRule p x with
      | none => s.lateStages p wake x f
      | some n =>
        let r := tget [] s.net.rules n
        let mirror := bitOf (u8 r 0) 1
        let s := s.deliverFrame (u8 r 3) p 8 n (rflags x wake mirror) (x.tci.getD 0) f
        if mirror then s.lateStages p wake x f else s

/-- MAC control frames (stage 2). -/
def State.macControl (s : State) (p : Nat) (x : Fr) : State :=
  if ub 2 x.body 0 = 1 then s.pauseFrame p (ub 2 x.body 2) else s.countPort p Ctr.macCtrlDrop 1

/-- Stages 2 to 12 on Ports A, B and C. -/
def State.mediaFrame (s : State) (p : Nat) (f : List Byte) : State :=
  let x := parseFr (unFcs f)
  if x.etype = 0x8808 then s.macControl p x
  else if s.acceptsAddress p x.dst = false then s.countPort p Ctr.addrDrop 1
  else if s.vlanDrops p x then s.countPort p Ctr.vlanDrop 1
  else
    let r := s.wakeStage p f (List.range 8)
    r.1.midStages p r.2 x f

/-! ## Ports S and F (R211, R217, R238) -/

/-- A tagged frame on a port that takes untagged frames only. -/
def isTagged (x : Fr) : Bool := x.tci.isSome || x.etype == 0x88A8

def State.sightPortFrame (s : State) (f : List Byte) : State :=
  let x := parseFr (unFcs f)
  let t := s.net.sight
  if isTagged x then s.countPort 3 Ctr.vlanDrop 1
  else if x.etype = 0x88B5 then
    if u8 x.body 1 = 0 ∨ (t.peerSync = true ∧ x.src = t.peerAddr) then s.sightFrameIn x.body
    else s.countPort 3 Ctr.sightForeign 1
  else if x.etype = 0x88F7 ∨ x.toUdpPort [319, 320] = true then if s.sys.running then s.servoHears 3 else s
  else if x.etype = 0x88CC then s
  else s.countPort 3 Ctr.noMatch 1

def State.fieldFrame (s : State) (f : List Byte) : State :=
  let x := parseFr (unFcs f)
  let other := fun s : State => (s.deliverFrame 73 4 0 0xFF 0 0 f).firmwareTakes 73 260
  if isTagged x then s.countPort 4 Ctr.vlanDrop 1
  else if x.etype ≠ 0x88B6 then other s
  else if fbFrameOk f = false then s.countPort 4 Ctr.appCrc 1
  else if [1, 2, 3, 6].contains (u8 x.body 1) then s.rollReceive f
  else if [4, 5].contains (u8 x.body 1) then s.safetyReceive f
  else other s

/-! ## FRAME_RECEIVE -/

/-- The port can receive. -/
def State.hears (s : State) (p : Nat) : Bool :=
  !s.sys.inReset && (if p = 4 then s.isReady Rdy.field else (s.port p).link)

/-- Stage 1, and the port's chain (Table 5-2). -/
def State.receiveFrame (s : State) (p : Nat) (f : List Byte) (fcs : Bool) : State :=
  if !s.hears p then s
  else if f.length < 64 then s.countPort p Ctr.runt 1
  else if s.maxFrame p < f.length then s.countPort p Ctr.oversize 1
  else if !fcs then s.countPort p Ctr.fcsErr 1
  else
    let s := (s.countPort p Ctr.rxFrames 1).countPort p Ctr.rxBytes f.length
    if p < 3 then s.mediaFrame p f else if p = 3 then s.sightPortFrame f else s.fieldFrame f

/-- FRAME_RECEIVE: `f` from the destination address to the FCS, and whether the FCS is good (R211-R217, R228,
R238, R261). -/
def execFrameReceive (port : Nat) (f : List Byte) (fcs : Bool) (s : State) : Host.Outcome State Fault Refusal :=
  ran (decide (port < 5)) "FRAME_RECEIVE" s (s.receiveFrame port f fcs)

end Sys2Proof.Machine
end

