-- ==== Sys2Proof/Machine/NetTx.lean ====
section
/-!
DEFINITION. Sys2Proof/Machine/NetTx.lean: sending frames: launch times, priorities, shaping, one-step stamps, the
ends of a pause and the entry into low-power idle (R172, R174, R178, R179, R215, R224, R225, R228, R229,
R233).
-/
namespace Sys2Proof.Machine

/-! ## One-step stamps (R174) -/

/-- `d` written over a frame at an offset. -/
def overwrite (f : List Byte) (o : Nat) (d : List Byte) : List Byte := f.take o ++ d ++ f.drop (o + d.length)

/-- Where a frame's PTP event message begins, and its UDP header with the IP version if it has one. -/
def ptpPlace (f : List Byte) : Option (Nat × Option (Nat × Nat)) :=
  let e := if ub 2 f 12 = 0x8100 then 16 else 12
  let n := e + 2
  let udp4 := n + 4 * (u8 f n % 16)
  let udp6 := n + 40
  if ub 2 f e = 0x88F7 ∧ u8 f n % 16 < 4 then some (n, none)
  else if ub 2 f e = 0x0800 ∧ u8 f (n + 9) = 17 ∧ ub 2 f (udp4 + 2) = 319 then some (udp4 + 8, some (udp4, 4))
  else if ub 2 f e = 0x86DD ∧ u8 f (n + 6) = 17 ∧ ub 2 f (udp6 + 2) = 319 then some (udp6 + 8, some (udp6, 6))
  else none

/-- The last two bytes of a UDP payload rewritten so that its checksum stays valid (R174): `old` is the
payload as submitted, `new` the payload with the stamp. -/
def balanced (old new : List Byte) : List Byte :=
  let base := new.take (new.length - 2) ++ zeros 2
  let v := 65535 - inetSum old + inetSum base
  let v := if 65535 < v then v - 65535 else v
  base.take (base.length - 2) ++ (if new.length % 2 = 0 then be 2 v else (be 2 v).reverse)

/-- The stamp goes into originTimestamp, its fraction into correctionField. -/
def stamped (t : DevTime) (f : List Byte) : List Byte :=
  match ptpPlace f with
  | none => f
  | some (m, udp) =>
    let corr := (ub 8 f (m + 8) + t.stampFrac) % 18446744073709551616
    let g := overwrite (overwrite f (m + 8) (be 8 corr)) (m + 34) (be 6 t.sec ++ be 4 t.ns)
    match udp with
    | some (u, 4) => overwrite g (u + 6) (zeros 2)
    | some (_, _) => g.take m ++ balanced (f.drop m) (g.drop m)
    | none => g

/-! ## The head of a queue (R178, R179) -/

def TxFrame.launchNs (f : TxFrame) : Option Nat := f.launch.map fun l => l.1 * second + l.2

/-- The counter that a frame with a launch time is dropped under, if it is. `far`: it reaches the head now. -/
def State.launchDrop (s : State) (p : Nat) (far : Bool) (f : TxFrame) : Option Nat :=
  match f.launchNs with
  | none => none
  | some t =>
    let now := s.time.now.nanos
    if f.replay then none
    else if t + s.lateTolerance p < now then some Ctr.lateDrop
    else if far && decide (now + second < t) then some Ctr.farDrop
    else none

def State.setTxQueue (s : State) (p k : Nat) (q : List TxFrame) : State :=
  s.modPort p fun x => { x with tx := tput [] x.tx k q }

def State.txQueue (s : State) (p k : Nat) : List TxFrame := tget [] (s.port p).tx k

/-- Frames that reach the head of a queue are judged until one stays; it is held for its launch time. A
frame that stands there is judged again where `again` says so. -/
def State.judgeHead (s : State) (p k : Nat) (again : Bool) : Nat → State
  | 0 => s
  | fuel + 1 =>
    match s.txQueue p k with
    | [] => s
    | f :: fs =>
      if f.held && !again then s
      else
        match s.launchDrop p (!f.held) f with
        | some c => ((s.setTxQueue p k fs).countPort p c 1).judgeHead p k again fuel
        | none => s.setTxQueue p k ({ f with held := f.launch.isSome } :: fs)

/-- A queue waits out a pause; the island's never does (R54, R229). -/
def State.pausedQueue (s : State) (p k : Nat) : Bool := (s.port p).pauseEnd.isSome && k != 0

/-- A class's credit lets its head go (R225). -/
def State.creditOk (s : State) (p k : Nat) (f : TxFrame) : Bool :=
  f.replay || decide (2 ≤ p) || (if k = 2 then decide (0 ≤ (s.port p).creditA)
    else if k = 3 then decide (0 ≤ (s.port p).creditB) else true)

/-- The head of a queue is eligible (R178, R224, R225, R229). -/
def State.eligible (s : State) (p k : Nat) : Bool :=
  match s.txQueue p k with
  | [] => false
  | f :: _ =>
    !s.pausedQueue p k && s.creditOk p k f &&
      (f.replay || (f.launchNs.elim true fun t => decide (t ≤ s.time.now.nanos)))

/-- The queue whose head a port sends next, by strict priority (R224). -/
def State.nextQueue (s : State) (p : Nat) : Option Nat := (List.range 7).find? fun k => s.eligible p k

/-! ## Sending -/

/-- A frame leaves a port: padded, counted, and stamped where it asks (R172, R174, R215). -/
def State.emitFrame (s : State) (p : Nat) (f : TxFrame) : State :=
  let one := f.oneStep && decide (p < 4) && (tget PortDelay.reset s.time.delays p).oneStep
  let b := f.bytes ++ zeros (60 - f.bytes.length)
  let b := if one then stamped (s.txTime p) b else b
  let s := (s.countPort p Ctr.txFrames 1).countPort p Ctr.txBytes (b.length + 4)
  let s := if f.stamp && decide (p < 4) then s.takeStamp p { f with oneStep := one } else s
  s.modPort p fun x => { x with sent := b, lastTx := s.time.elapsed }

/-- The credit of a class pays for a frame at the port's rate. -/
def NetPort.pay (x : NetPort) (k n : Nat) : NetPort :=
  let c : Nat := (n + 20) * 8 * second
  if k = 2 then { x with creditA := x.creditA - c } else if k = 3 then { x with creditB := x.creditB - c } else x

/-- The head of queue `k` is sent. -/
def State.sendHead (s : State) (p k : Nat) : State :=
  match s.txQueue p k with
  | [] => s
  | f :: fs =>
    let s := s.setTxQueue p k fs
    let s := if f.replay then s else s.modPort p fun x => x.pay k (wireLen f.bytes)
    s.emitFrame p f

/-- A datagram of H6 or H7 leaves Port C once its address resolves (R71, R289); what the spec leaves open
in its IP header is free. -/
def State.sendUdp (s : State) : State :=
  match s.host.udpOut with
  | [] => s
  | (i, d) :: rest =>
    let b := (s.slot i).udp
    let v6 := b.ipver == 6
    let dst := if v6 then slice b.addr 0 16 else slice b.addr 0 4
    match s.resolve 2 v6 dst with
    | none => s.askMac 2 v6 dst
    | some m =>
      let r := s.draw 31
      let s := { r.2 with host := { r.2.host with udpOut := rest } }
      let src := s.portIp 2 v6
      let u := udpBytes v6 (bitOf r.1 16) src dst 9624 b.lastPort d
      let ip := ipBytes v6 src dst (r.1 / 131072 % 64) (r.1 / 8388608) (r.1 % 65536) 17 u
      s.emitFrame 2 (plainFrame (ether m (s.macOf 2) 0 0 (if v6 then 0x86DD else 0x0800) ip))

/-- A sight-line frame leaves Port S: SYNC to the broadcast address, any other to the peer (R244, R246). -/
def State.sendSight (s : State) : State :=
  match s.net.sight.out with
  | [] => s
  | f :: rest =>
    let s := s.sightMod fun x => { x with out := rest }
    let dst := if u8 f 1 = 0 then broadcast else slice (s.net.sight.peerAddr ++ zeros 6) 0 6
    s.emitFrame 3 (plainFrame (ether dst (s.macOf 3) 0 0 0x88B5 f))

/-- Judge the heads of every queue that is not paused; shaping may have delayed those of classes A and B
past their launch times (R225). -/
def State.judgeHeads (s : State) (p : Nat) : State :=
  (List.range 7).foldl (fun s k =>
    if s.pausedQueue p k then s else s.judgeHead p k (k == 2 || k == 3) ((s.txQueue p k).length + 1)) s

/-- A port sends its next eligible frame. -/
def State.transmit (s : State) (p : Nat) : State :=
  if (s.port p).link = false ∨ (s.port p).lpi = true then s
  else
    let s := (s.settleCredit p).judgeHeads p
    if p = 3 ∧ s.net.sight.out ≠ [] then s.sendSight
    else
      match s.nextQueue p with
      | some k => s.sendHead p k
      | none => if p = 2 ∧ s.pausedQueue 2 1 = false then s.sendUdp else s

/-- FRAME_TRANSMIT (R54, R71, R172, R174-R176, R215, R224, R225, R229, R287). -/
def execFrameTransmit (port : Nat) (s : State) : Host.Outcome State Fault Refusal :=
  ran (decide (port < 5)) "FRAME_TRANSMIT" s (s.transmit port)

/-- Queue `k` sends its head if the port chooses it. -/
def State.sendIfNext (s : State) (p k : Nat) : State :=
  if (s.port p).link && !(s.port p).lpi && s.nextQueue p == some k then s.sendHead p k else s

/-- A frame reaches the head of its queue: dropped as late or far, held, or sent at once (R178, R179, R231). -/
def State.atHead (s : State) (p k : Nat) : State :=
  if s.pausedQueue p k then s
  else ((s.settleCredit p).judgeHead p k false ((s.txQueue p k).length + 1)).sendIfNext p k

/-- TX_FRAME_AT_HEAD (R178, R179, R231). -/
def execTxFrameAtHead (port k : Nat) (s : State) : Host.Outcome State Fault Refusal :=
  ran (decide (port < 5) && decide (k < 7)) "TX_FRAME_AT_HEAD" s (s.atHead port k)

/-- Device time has reached the launch time of a held frame (R178). -/
def State.launches (s : State) (p k : Nat) : State :=
  match s.txQueue p k with
  | [] => s
  | f :: _ => if f.held then (s.settleCredit p).sendIfNext p k else s

/-- FRAME_LAUNCH (R178). -/
def execFrameLaunch (port k : Nat) (s : State) : Host.Outcome State Fault Refusal :=
  ran (decide (port < 5) && decide (k < 7)) "FRAME_LAUNCH" s (s.launches port k)

/-! ## The end of a pause, and low-power idle -/

/-- A pause ends, and frames it held past their launch times are judged (R228, R229). -/
def State.pauseEnds (s : State) (p : Nat) : State :=
  match (s.port p).pauseEnd with
  | none => s
  | some t =>
    if s.time.elapsed < t then s
    else
      let s := s.modPort p fun x => { x with pauseEnd := none }
      (List.range 7).foldl (fun s k => s.judgeHead p k true ((s.txQueue p k).length + 1)) s

/-- PAUSE_EXPIRE (R228, R229). -/
def execPauseExpire (port : Nat) (s : State) : Host.Outcome State Fault Refusal :=
  ran (decide (port < 5)) "PAUSE_EXPIRE" s (s.pauseEnds port)

/-- The island holds an override level above 0 on a transmit stream of the port. -/
def State.overridden (s : State) (p : Nat) : Bool :=
  s.str.tx.any fun x => Ent.enabled x.2.entry && Ent.onPort x.2.entry p &&
    (if Ent.island x.2.entry then
      (List.range 64).any fun c => decide (0 < (tget SafSink.reset s.saf.sink (islandNode x.1 c)).level)
     else x.2.run.any fun v => !mapNone v && decide (0 < (tget SafSink.reset s.saf.sink (0x8000 + v)).level))

/-- The next scheduled packet of a port's streams lies far enough ahead of a wake. -/
def State.packetsFar (s : State) (p : Nat) : Bool :=
  let tw := (s.port p).tw.getD 0
  s.str.tx.all fun x =>
    let e := x.2.entry
    !(Ent.enabled e && Ent.onPort e p && x.2.causes == 0) ||
      decide (s.time.now.nanos + tw + 20000 <
        s.riTime (x.2.riBase + (x.2.formed + 1) * packetStep e) + u32 e 16)

/-- The transmitter enters low-power idle where R233 allows it. -/
def State.lpiEnter (s : State) (p : Nat) : State :=
  if !(s.port p).lpi && s.mayIdle p (!s.overridden p) && s.packetsFar p then
    (s.modPort p fun x => { x with lpi := true }).countPort p Ctr.lpiEntries 1
  else s

/-- LPI_ENTER (R233). -/
def execLpiEnter (port : Nat) (s : State) : Host.Outcome State Fault Refusal :=
  ran (decide (port < 3)) "LPI_ENTER" s (s.lpiEnter port)

end Sys2Proof.Machine
end

