-- ==== Sys2Proof/Machine/Dispatch.lean ====
section
/-!
DEFINITION. Sys2Proof/Machine/Dispatch.lean: one arm per row of the opcode table, each one direct
call of that row's meaning.
-/
namespace Sys2Proof.Machine

def exec (i : Instr) (s : State) : Host.Outcome State Fault Refusal :=
  match i with
  | .sysNop q => Sys2Proof.Machine.execSysNop q s
  | .sysIdentify q => Sys2Proof.Machine.execSysIdentify q s
  | .sysGetReadiness q => Sys2Proof.Machine.execSysGetReadiness q s
  | .sysGetGenerations q => Sys2Proof.Machine.execSysGetGenerations q s
  | .sysGetWindow q => Sys2Proof.Machine.execSysGetWindow q s
  | .sysSetWindow q => Sys2Proof.Machine.execSysSetWindow q s
  | .sysAssignChannel q => Sys2Proof.Machine.execSysAssignChannel q s
  | .sysBindUdp q => Sys2Proof.Machine.execSysBindUdp q s
  | .sysFreeze q => Sys2Proof.Machine.execSysFreeze q s
  | .sysThaw q => Sys2Proof.Machine.execSysThaw q s
  | .sysSetEventFilter q => Sys2Proof.Machine.execSysSetEventFilter q s
  | .sysRestartCluster q => Sys2Proof.Machine.execSysRestartCluster q s
  | .sysGpioConfig q => Sys2Proof.Machine.execSysGpioConfig q s
  | .sysGpioStatus q => Sys2Proof.Machine.execSysGpioStatus q s
  | .sysFabStatus q => Sys2Proof.Machine.execSysFabStatus q s
  | .sysFabSetMargin q => Sys2Proof.Machine.execSysFabSetMargin q s
  | .sysFabBudget q => Sys2Proof.Machine.execSysFabBudget q s
  | .sysFwStatus q => Sys2Proof.Machine.execSysFwStatus q s
  | .sysFwChunk q => Sys2Proof.Machine.execSysFwChunk q s
  | .sysFwStage q => Sys2Proof.Machine.execSysFwStage q s
  | .sysFwSwitch q => Sys2Proof.Machine.execSysFwSwitch q s
  | .sysFwConfirm q => Sys2Proof.Machine.execSysFwConfirm q s
  | .sysReset q => Sys2Proof.Machine.execSysReset q s
  | .diagFaults q => Sys2Proof.Machine.execDiagFaults q s
  | .diagLogRead q => Sys2Proof.Machine.execDiagLogRead q s
  | .diagClear q => Sys2Proof.Machine.execDiagClear q s
  | .merGetTime q => Sys2Proof.Machine.execMerGetTime q s
  | .merSetIncrement q => Sys2Proof.Machine.execMerSetIncrement q s
  | .merSlew q => Sys2Proof.Machine.execMerSlew q s
  | .merStep q => Sys2Proof.Machine.execMerStep q s
  | .merSetTime q => Sys2Proof.Machine.execMerSetTime q s
  | .merServo q => Sys2Proof.Machine.execMerServo q s
  | .merLaunchArm q => Sys2Proof.Machine.execMerLaunchArm q s
  | .merLaunchCancel q => Sys2Proof.Machine.execMerLaunchCancel q s
  | .merSetLateTolerance q => Sys2Proof.Machine.execMerSetLateTolerance q s
  | .merPortDelay q => Sys2Proof.Machine.execMerPortDelay q s
  | .merLoopConfig q => Sys2Proof.Machine.execMerLoopConfig q s
  | .merLoopStatus q => Sys2Proof.Machine.execMerLoopStatus q s
  | .merHopLearn q => Sys2Proof.Machine.execMerHopLearn q s
  | .merLoopRealign q => Sys2Proof.Machine.execMerLoopRealign q s
  | .netPortConfig q => Sys2Proof.Machine.execNetPortConfig q s
  | .netPortStatus q => Sys2Proof.Machine.execNetPortStatus q s
  | .netGetCounters q => Sys2Proof.Machine.execNetGetCounters q s
  | .netSetRule q => Sys2Proof.Machine.execNetSetRule q s
  | .netSetMcast q => Sys2Proof.Machine.execNetSetMcast q s
  | .netSetWake q => Sys2Proof.Machine.execNetSetWake q s
  | .netSend q => Sys2Proof.Machine.execNetSend q s
  | .netFbConfig q => Sys2Proof.Machine.execNetFbConfig q s
  | .netFbNodes q => Sys2Proof.Machine.execNetFbNodes q s
  | .netFbForget q => Sys2Proof.Machine.execNetFbForget q s
  | .strGet q => Sys2Proof.Machine.execStrGet q s
  | .strBind q => Sys2Proof.Machine.execStrBind q s
  | .strEnable q => Sys2Proof.Machine.execStrEnable q s
  | .strSetMap q => Sys2Proof.Machine.execStrSetMap q s
  | .strStatus q => Sys2Proof.Machine.execStrStatus q s
  | .strAsrcConfig q => Sys2Proof.Machine.execStrAsrcConfig q s
  | .strContinuity q => Sys2Proof.Machine.execStrContinuity q s
  | .strSdpList q => Sys2Proof.Machine.execStrSdpList q s
  | .strTdmConfig q => Sys2Proof.Machine.execStrTdmConfig q s
  | .strTdmMask q => Sys2Proof.Machine.execStrTdmMask q s
  | .strAesConfig q => Sys2Proof.Machine.execStrAesConfig q s
  | .strWclkConfig q => Sys2Proof.Machine.execStrWclkConfig q s
  | .strSerialStatus q => Sys2Proof.Machine.execStrSerialStatus q s
  | .almStatus q => Sys2Proof.Machine.execAlmStatus q s
  | .almLoad q => Sys2Proof.Machine.execAlmLoad q s
  | .almSwap q => Sys2Proof.Machine.execAlmSwap q s
  | .almSetGain q => Sys2Proof.Machine.execAlmSetGain q s
  | .almGetGain q => Sys2Proof.Machine.execAlmGetGain q s
  | .almSetConfig q => Sys2Proof.Machine.execAlmSetConfig q s
  | .almSinkFade q => Sys2Proof.Machine.execAlmSinkFade q s
  | .almBusScale q => Sys2Proof.Machine.execAlmBusScale q s
  | .almDirectSet q => Sys2Proof.Machine.execAlmDirectSet q s
  | .almDirectEnable q => Sys2Proof.Machine.execAlmDirectEnable q s
  | .almPlay q => Sys2Proof.Machine.execAlmPlay q s
  | .almPlayStop q => Sys2Proof.Machine.execAlmPlayStop q s
  | .almTestgen q => Sys2Proof.Machine.execAlmTestgen q s
  | .objGet q => Sys2Proof.Machine.execObjGet q s
  | .objSet q => Sys2Proof.Machine.execObjSet q s
  | .objMove q => Sys2Proof.Machine.execObjMove q s
  | .objEnable q => Sys2Proof.Machine.execObjEnable q s
  | .objSetGain q => Sys2Proof.Machine.execObjSetGain q s
  | .objSetSource q => Sys2Proof.Machine.execObjSetSource q s
  | .objRenderConfig q => Sys2Proof.Machine.execObjRenderConfig q s
  | .objStatus q => Sys2Proof.Machine.execObjStatus q s
  | .objZoneSet q => Sys2Proof.Machine.execObjZoneSet q s
  | .objMeshLoad q => Sys2Proof.Machine.execObjMeshLoad q s
  | .objTaps q => Sys2Proof.Machine.execObjTaps q s
  | .feedGet q => Sys2Proof.Machine.execFeedGet q s
  | .feedSet q => Sys2Proof.Machine.execFeedSet q s
  | .feedTrim q => Sys2Proof.Machine.execFeedTrim q s
  | .corAlloc q => Sys2Proof.Machine.execCorAlloc q s
  | .corSwap q => Sys2Proof.Machine.execCorSwap q s
  | .corArm q => Sys2Proof.Machine.execCorArm q s
  | .corBanks q => Sys2Proof.Machine.execCorBanks q s
  | .corPool q => Sys2Proof.Machine.execCorPool q s
  | .corCompact q => Sys2Proof.Machine.execCorCompact q s
  | .corBiquad q => Sys2Proof.Machine.execCorBiquad q s
  | .corBiquadGet q => Sys2Proof.Machine.execCorBiquadGet q s
  | .corLimiter q => Sys2Proof.Machine.execCorLimiter q s
  | .corCompressor q => Sys2Proof.Machine.execCorCompressor q s
  | .corLimitDelay q => Sys2Proof.Machine.execCorLimitDelay q s
  | .corDynStatus q => Sys2Proof.Machine.execCorDynStatus q s
  | .safStatus q => Sys2Proof.Machine.execSafStatus q s
  | .safInputs q => Sys2Proof.Machine.execSafInputs q s
  | .safActivate q => Sys2Proof.Machine.execSafActivate q s
  | .safReset q => Sys2Proof.Machine.execSafReset q s
  | .safHeartbeat q => Sys2Proof.Machine.execSafHeartbeat q s
  | .safCfgRead q => Sys2Proof.Machine.execSafCfgRead q s
  | .safCfgWrite q => Sys2Proof.Machine.execSafCfgWrite q s
  | .safCfgCommit q => Sys2Proof.Machine.execSafCfgCommit q s
  | .safMsgLoad q => Sys2Proof.Machine.execSafMsgLoad q s
  | .safMsgDelete q => Sys2Proof.Machine.execSafMsgDelete q s
  | .safMsgList q => Sys2Proof.Machine.execSafMsgList q s
  | .safLogRead q => Sys2Proof.Machine.execSafLogRead q s
  | .safLines q => Sys2Proof.Machine.execSafLines q s
  | .safSvcSetKey q => Sys2Proof.Machine.execSafSvcSetKey q s
  | .safRestart q => Sys2Proof.Machine.execSafRestart q s
  | .datStatus q => Sys2Proof.Machine.execDatStatus q s
  | .datLoad q => Sys2Proof.Machine.execDatLoad q s
  | .datStore q => Sys2Proof.Machine.execDatStore q s
  | .datOvlStore q => Sys2Proof.Machine.execDatOvlStore q s
  | .datOvlApply q => Sys2Proof.Machine.execDatOvlApply q s
  | .datOvlRemove q => Sys2Proof.Machine.execDatOvlRemove q s
  | .datOvlGet q => Sys2Proof.Machine.execDatOvlGet q s
  | .datStage q => Sys2Proof.Machine.execDatStage q s
  | .datCommit q => Sys2Proof.Machine.execDatCommit q s
  | .datDiscard q => Sys2Proof.Machine.execDatDiscard q s
  | .otpRead q => Sys2Proof.Machine.execOtpRead q s
  | .otpProgram q => Sys2Proof.Machine.execOtpProgram q s
  | .pairStatus q => Sys2Proof.Machine.execPairStatus q s
  | .pairConfig q => Sys2Proof.Machine.execPairConfig q s
  | .pairHandover q => Sys2Proof.Machine.execPairHandover q s
  | .pairPeerLoad q => Sys2Proof.Machine.execPairPeerLoad q s
  | .pairLeave q => Sys2Proof.Machine.execPairLeave q s
  | .pairRejoin q => Sys2Proof.Machine.execPairRejoin q s
  | .orderedRelease q => Sys2Proof.Machine.execOrderedRelease q s
  | .pendingCommandApply => Sys2Proof.Machine.execPendingCommandApply s
  | .udpDatagramReceive ipver addr sport frag d => Sys2Proof.Machine.execUdpDatagramReceive ipver addr sport frag d s
  | .cellPushWrite slot off d => Sys2Proof.Machine.execCellPushWrite slot off d s
  | .cellPopRead slot off len => Sys2Proof.Machine.execCellPopRead slot off len s
  | .queueCommit slot q => Sys2Proof.Machine.execQueueCommit slot q s
  | .queueAbort slot q => Sys2Proof.Machine.execQueueAbort slot q s
  | .queueReset slot q => Sys2Proof.Machine.execQueueReset slot q s
  | .snapshotTake slot => Sys2Proof.Machine.execSnapshotTake slot s
  | .channelStart who ch => Sys2Proof.Machine.execChannelStart who ch s
  | .channelExtend who ch => Sys2Proof.Machine.execChannelExtend who ch s
  | .channelStop who ch => Sys2Proof.Machine.execChannelStop who ch s
  | .rcCounterRead slot off => Sys2Proof.Machine.execRcCounterRead slot off s
  | .stickyFaultClear slot off v => Sys2Proof.Machine.execStickyFaultClear slot off v s
  | .registerWrite slot off v => Sys2Proof.Machine.execRegisterWrite slot off v s
  | .functionLevelReset slot => Sys2Proof.Machine.execFunctionLevelReset slot s
  | .perstNAssert => Sys2Proof.Machine.execPerstNAssert s
  | .channelGrant island => Sys2Proof.Machine.execChannelGrant island s
  | .stationFetch ch => Sys2Proof.Machine.execStationFetch ch s
  | .stationComplete ch d => Sys2Proof.Machine.execStationComplete ch d s
  | .controlWordReread ch => Sys2Proof.Machine.execControlWordReread ch s
  | .dataBeatBusError ch code moved => Sys2Proof.Machine.execDataBeatBusError ch code moved s
  | .deviceTargetTimeout ch moved => Sys2Proof.Machine.execDeviceTargetTimeout ch moved s
  | .pcieCompletionTimeout ch moved => Sys2Proof.Machine.execPcieCompletionTimeout ch moved s
  | .peripheralRequestTimeout ch => Sys2Proof.Machine.execPeripheralRequestTimeout ch s
  | .peripheralWithdraw ch d taken => Sys2Proof.Machine.execPeripheralWithdraw ch d taken s
  | .peripheralReturnTimeout ch d taken => Sys2Proof.Machine.execPeripheralReturnTimeout ch d taken s
  | .gpioLevelTaken pin high => Sys2Proof.Machine.execGpioLevelTaken pin high s
  | .gpioPulseEnd pin => Sys2Proof.Machine.execGpioPulseEnd pin s
  | .slewEnd => Sys2Proof.Machine.execSlewEnd s
  | .launchSlotFire k => Sys2Proof.Machine.execLaunchSlotFire k s
  | .frameTransmit port => Sys2Proof.Machine.execFrameTransmit port s
  | .txFrameAtHead port k => Sys2Proof.Machine.execTxFrameAtHead port k s
  | .frameLaunch port k => Sys2Proof.Machine.execFrameLaunch port k s
  | .referenceStop l => Sys2Proof.Machine.execReferenceStop l s
  | .referenceGlitch l => Sys2Proof.Machine.execReferenceGlitch l s
  | .referenceRateChange l => Sys2Proof.Machine.execReferenceRateChange l s
  | .rateMeasureDone l mhz => Sys2Proof.Machine.execRateMeasureDone l mhz s
  | .referenceReturn l err => Sys2Proof.Machine.execReferenceReturn l err s
  | .loopLock l => Sys2Proof.Machine.execLoopLock l s
  | .loopLockLoss l => Sys2Proof.Machine.execLoopLockLoss l s
  | .coastWindowExpire l sec => Sys2Proof.Machine.execCoastWindowExpire l sec s
  | .bandSearchDone l band centre => Sys2Proof.Machine.execBandSearchDone l band centre s
  | .searchTimeout l => Sys2Proof.Machine.execSearchTimeout l s
  | .hopLearnDone l found band centre => Sys2Proof.Machine.execHopLearnDone l found band centre s
  | .realignBoundary l => Sys2Proof.Machine.execRealignBoundary l s
  | .realignTickResume => Sys2Proof.Machine.execRealignTickResume s
  | .realignFadeInDone l => Sys2Proof.Machine.execRealignFadeInDone l s
  | .blockTick t => Sys2Proof.Machine.execBlockTick t s
  | .directTick missed ins => Sys2Proof.Machine.execDirectTick missed ins s
  | .vcodeFall => Sys2Proof.Machine.execVcodeFall s
  | .shedRise => Sys2Proof.Machine.execShedRise s
  | .shedFall => Sys2Proof.Machine.execShedFall s
  | .vcodeRampStep => Sys2Proof.Machine.execVcodeRampStep s
  | .vddReadbackCheck ack mv => Sys2Proof.Machine.execVddReadbackCheck ack mv s
  | .pmAlert mv => Sys2Proof.Machine.execPmAlert mv s
  | .thermalRead t => Sys2Proof.Machine.execThermalRead t s
  | .profileChangeApply => Sys2Proof.Machine.execProfileChangeApply s
  | .partitionUsable n => Sys2Proof.Machine.execPartitionUsable n s
  | .partitionGate => Sys2Proof.Machine.execPartitionGate s
  | .programSwap => Sys2Proof.Machine.execProgramSwap s
  | .swapCrossfadeEnd => Sys2Proof.Machine.execSwapCrossfadeEnd s
  | .almLoadDone => Sys2Proof.Machine.execAlmLoadDone s
  | .gainStep reg x => Sys2Proof.Machine.execGainStep reg x s
  | .gainStepTimeout reg => Sys2Proof.Machine.execGainStepTimeout reg s
  | .playerDone pl => Sys2Proof.Machine.execPlayerDone pl s
  | .directSourceChange lane inp => Sys2Proof.Machine.execDirectSourceChange lane inp s
  | .directLaneFadeEnd lane => Sys2Proof.Machine.execDirectLaneFadeEnd lane s
  | .tapFadeEnd tap => Sys2Proof.Machine.execTapFadeEnd tap s
  | .meshAdopt => Sys2Proof.Machine.execMeshAdopt s
  | .meshLoadDone => Sys2Proof.Machine.execMeshLoadDone s
  | .correctionSwap feed => Sys2Proof.Machine.execCorrectionSwap feed s
  | .corCrossfadeEnd feed => Sys2Proof.Machine.execCorCrossfadeEnd feed s
  | .corCompactDone => Sys2Proof.Machine.execCorCompactDone s
  | .biquadFadeEnd unit sec => Sys2Proof.Machine.execBiquadFadeEnd unit sec s
  | .frameReceive port f fcs => Sys2Proof.Machine.execFrameReceive port f fcs s
  | .pauseExpire port => Sys2Proof.Machine.execPauseExpire port s
  | .linkUp port => Sys2Proof.Machine.execLinkUp port s
  | .linkDown port => Sys2Proof.Machine.execLinkDown port s
  | .lpiEnter port => Sys2Proof.Machine.execLpiEnter port s
  | .lpiExit port => Sys2Proof.Machine.execLpiExit port s
  | .wakeHoldExpire w => Sys2Proof.Machine.execWakeHoldExpire w s
  | .plcaBeaconLoss => Sys2Proof.Machine.execPlcaBeaconLoss s
  | .plcaBeaconSeen => Sys2Proof.Machine.execPlcaBeaconSeen s
  | .csmaCollision => Sys2Proof.Machine.execCsmaCollision s
  | .rollCall => Sys2Proof.Machine.execRollCall s
  | .fbAnswer f => Sys2Proof.Machine.execFbAnswer f s
  | .fbAssign f => Sys2Proof.Machine.execFbAssign f s
  | .fbLeave f => Sys2Proof.Machine.execFbLeave f s
  | .fbReport f => Sys2Proof.Machine.execFbReport f s
  | .fbTrigger f => Sys2Proof.Machine.execFbTrigger f s
  | .streamPacketForm so => Sys2Proof.Machine.execStreamPacketForm so s
  | .streamAbsent si => Sys2Proof.Machine.execStreamAbsent si s
  | .pathAbsent si path => Sys2Proof.Machine.execPathAbsent si path s
  | .asrcLock g ppb => Sys2Proof.Machine.execAsrcLock g ppb s
  | .nonAudioDetect iface pair even odd => Sys2Proof.Machine.execNonAudioDetect iface pair even odd s
  | .nonAudioHoldEnd iface pair => Sys2Proof.Machine.execNonAudioHoldEnd iface pair s
  | .sapAnnounce so => Sys2Proof.Machine.execSapAnnounce so s
  | .adpEntityAvailable => Sys2Proof.Machine.execAdpEntityAvailable s
  | .sdpSessionExpire idx => Sys2Proof.Machine.execSdpSessionExpire idx s
  | .acmpConnect tx idx on id dmac vid => Sys2Proof.Machine.execAcmpConnect tx idx on id dmac vid s
  | .serialClockStop k => Sys2Proof.Machine.execSerialClockStop k s
  | .serialRateChange k hz => Sys2Proof.Machine.execSerialRateChange k hz s
  | .serialClockReturn k hz => Sys2Proof.Machine.execSerialClockReturn k hz s
  | .serialFsGlitch k => Sys2Proof.Machine.execSerialFsGlitch k s
  | .bitcountError p again => Sys2Proof.Machine.execBitcountError p again s
  | .serialSlip k slow => Sys2Proof.Machine.execSerialSlip k slow s
  | .tdmMaskLatch p => Sys2Proof.Machine.execTdmMaskLatch p s
  | .tdmFramingChange p => Sys2Proof.Machine.execTdmFramingChange p s
  | .aesSubframeError n kind => Sys2Proof.Machine.execAesSubframeError n kind s
  | .aesCsBlock n d => Sys2Proof.Machine.execAesCsBlock n d s
  | .aesReceiverLock n hz => Sys2Proof.Machine.execAesReceiverLock n hz s
  | .sightSyncSend => Sys2Proof.Machine.execSightSyncSend s
  | .sightSyncReceive f => Sys2Proof.Machine.execSightSyncReceive f s
  | .sightAckReceive f => Sys2Proof.Machine.execSightAckReceive f s
  | .sightAckTimer => Sys2Proof.Machine.execSightAckTimer s
  | .sightRetransmit => Sys2Proof.Machine.execSightRetransmit s
  | .peerHeartbeat f => Sys2Proof.Machine.execPeerHeartbeat f s
  | .sightCommandReceive f => Sys2Proof.Machine.execSightCommandReceive f s
  | .sightResultReceive f => Sys2Proof.Machine.execSightResultReceive f s
  | .sightSnapshotReceive f => Sys2Proof.Machine.execSightSnapshotReceive f s
  | .sightImageReceive f => Sys2Proof.Machine.execSightImageReceive f s
  | .streamStateReceive f => Sys2Proof.Machine.execStreamStateReceive f s
  | .memoryWriteReceive f => Sys2Proof.Machine.execMemoryWriteReceive f s
  | .joinRequest f => Sys2Proof.Machine.execJoinRequest f s
  | .joinAccept f => Sys2Proof.Machine.execJoinAccept f s
  | .joinDone f => Sys2Proof.Machine.execJoinDone f s
  | .handover f => Sys2Proof.Machine.execHandover f s
  | .handoverAck f => Sys2Proof.Machine.execHandoverAck f s
  | .takeover f => Sys2Proof.Machine.execTakeover f s
  | .leave f => Sys2Proof.Machine.execLeave f s
  | .refuse f => Sys2Proof.Machine.execRefuse f s
  | .pairTakeover => Sys2Proof.Machine.execPairTakeover s
  | .fenceWaitExpire => Sys2Proof.Machine.execFenceWaitExpire s
  | .fenceConflict => Sys2Proof.Machine.execFenceConflict s
  | .foresightHold => Sys2Proof.Machine.execForesightHold s
  | .foresightRelease => Sys2Proof.Machine.execForesightRelease s
  | .foresightRejoin => Sys2Proof.Machine.execForesightRejoin s
  | .pairSeekTimeout => Sys2Proof.Machine.execPairSeekTimeout s
  | .joinSnapshotStart => Sys2Proof.Machine.execJoinSnapshotStart s
  | .pairSettled => Sys2Proof.Machine.execPairSettled s
  | .handoverBoundary => Sys2Proof.Machine.execHandoverBoundary s
  | .handoverAbandon => Sys2Proof.Machine.execHandoverAbandon s
  | .pairSkew => Sys2Proof.Machine.execPairSkew s
  | .islandInputSample mv ins => Sys2Proof.Machine.execIslandInputSample mv ins s
  | .inputStateChange inp => Sys2Proof.Machine.execInputStateChange inp s
  | .inputBandTimeout inp => Sys2Proof.Machine.execInputBandTimeout inp s
  | .delegationApply r => Sys2Proof.Machine.execDelegationApply r s
  | .delegationHandoff r => Sys2Proof.Machine.execDelegationHandoff r s
  | .fabricHbMiss => Sys2Proof.Machine.execFabricHbMiss s
  | .firmwareHeartbeat => Sys2Proof.Machine.execFirmwareHeartbeat s
  | .firmwareHbTimeout => Sys2Proof.Machine.execFirmwareHbTimeout s
  | .hostHbTimeout => Sys2Proof.Machine.execHostHbTimeout s
  | .delegationReturn r => Sys2Proof.Machine.execDelegationReturn r s
  | .islandOverlayRemove n => Sys2Proof.Machine.execIslandOverlayRemove n s
  | .reportSilent e => Sys2Proof.Machine.execReportSilent e s
  | .triggerHoldExpire r => Sys2Proof.Machine.execTriggerHoldExpire r s
  | .islandTimeCompare => Sys2Proof.Machine.execIslandTimeCompare s
  | .islandWatchdogExpire => Sys2Proof.Machine.execIslandWatchdogExpire s
  | .lockstepMismatch => Sys2Proof.Machine.execLockstepMismatch s
  | .lsResetNAssert => Sys2Proof.Machine.execLsResetNAssert s
  | .islandReady => Sys2Proof.Machine.execIslandReady s
  | .vddLsPowerGood => Sys2Proof.Machine.execVddLsPowerGood s
  | .vddLsLoss => Sys2Proof.Machine.execVddLsLoss s
  | .servicePacketWrite d => Sys2Proof.Machine.execServicePacketWrite d s
  | .serviceReplyRead => Sys2Proof.Machine.execServiceReplyRead s
  | .messageLoadDone => Sys2Proof.Machine.execMessageLoadDone s
  | .islandBankVerified => Sys2Proof.Machine.execIslandBankVerified s
  | .datumFetchDone => Sys2Proof.Machine.execDatumFetchDone s
  | .datumCheckDone => Sys2Proof.Machine.execDatumCheckDone s
  | .datumBoundary => Sys2Proof.Machine.execDatumBoundary s
  | .datumApplyDone => Sys2Proof.Machine.execDatumApplyDone s
  | .datumActivate => Sys2Proof.Machine.execDatumActivate s
  | .datStoreDone => Sys2Proof.Machine.execDatStoreDone s
  | .overlayApplyBoundary n => Sys2Proof.Machine.execOverlayApplyBoundary n s
  | .overlayRemoveBoundary n => Sys2Proof.Machine.execOverlayRemoveBoundary n s
  | .overlayResume n => Sys2Proof.Machine.execOverlayResume n s
  | .otpProgramDone step => Sys2Proof.Machine.execOtpProgramDone step s
  | .fwStageDone => Sys2Proof.Machine.execFwStageDone s
  | .trialAutoConfirm => Sys2Proof.Machine.execTrialAutoConfirm s
  | .trialTimeout => Sys2Proof.Machine.execTrialTimeout s
  | .mainSupplyLoss => Sys2Proof.Machine.execMainSupplyLoss s
  | .resetNAssert => Sys2Proof.Machine.execResetNAssert s
  | .resetNRelease boot pair => Sys2Proof.Machine.execResetNRelease boot pair s
  | .timeStart => Sys2Proof.Machine.execTimeStart s
  | .fieldStoreSelftestDone ok => Sys2Proof.Machine.execFieldStoreSelftestDone ok s
  | .longStoreTrained ok => Sys2Proof.Machine.execLongStoreTrained ok s
  | .firmwareBoot => Sys2Proof.Machine.execFirmwareBoot s
  | .fabricSelftestDone failed => Sys2Proof.Machine.execFabricSelftestDone failed s
  | .clusterWatchdogExpire => Sys2Proof.Machine.execClusterWatchdogExpire s
  | .firmwareFatalError => Sys2Proof.Machine.execFirmwareFatalError s
  | .clusterReady => Sys2Proof.Machine.execClusterReady s
  | .commandReset boot pair => Sys2Proof.Machine.execCommandReset boot pair s
  | .islandRestart => Sys2Proof.Machine.execIslandRestart s
  | .lsResetNRelease => Sys2Proof.Machine.execLsResetNRelease s
  | .lpiRxEntry port => Sys2Proof.Machine.execLpiRxEntry port s

end Sys2Proof.Machine
end

