-- ==== Sys2Proof/Machine/Tick.lean ====
section
/-!
DEFINITION. Sys2Proof/Machine/Tick.lean: one cycle of the device's own clock, which passes when no
command waits (R163, R169; notes/assumptions/2.md).
-/
namespace Sys2Proof.Machine

/-- Add an increment in 8.32 nanoseconds to a point of time. -/
def DevTime.add (t : DevTime) (inc : Nat) : DevTime :=
  let f := t.frac + inc
  let n := t.ns + f / 4294967296
  { sec := (t.sec + n / 1000000000) % 281474976710656, ns := n % 1000000000,
    frac := f % 4294967296 }

/-- Nanoseconds of one CD0 cycle: 2, or 40 while SYS runs on its fallback (Table 4-3). -/
def State.cycleNs (s : State) : Nat := if (tget Loop.reset s.time.loops 0).fallback then 40 else 2

/-- Island time's increment for a number of nanoseconds: its own clock and the slew of R503. -/
def islandInc (ns : Nat) (slewPpb : Int) : Nat :=
  ((ns * 4294967296 : Nat) * (1000000000 + slewPpb) / 1000000000 : Int).toNat

/-- One CD0 tick: device time adds its increment while it runs, a slew counts down, the
device's own elapsed time advances, and island time runs from its own clock (R503). -/
def State.tick (s : State) : State :=
  let t := s.time
  let k := s.cycleNs / 2
  let now := if t.running then t.now.add (t.inc * k) else t.now
  let slew := if t.running then t.slewLeft - k else t.slewLeft
  let x := s.saf
  { s with
    time := { t with
      now := now
      slewLeft := slew
      elapsed := t.elapsed + s.cycleNs }
    saf := if x.present then { x with time := x.time.add (islandInc s.cycleNs x.slewPpb) } else x }

end Sys2Proof.Machine
end

