-- ==== Sys2Proof/WellFormed.lean ====
section
/-!
DEFINITION. Sys2Proof/WellFormed.lean: which commands name units the device has: a queue, slot,
channel, port, loop or other index inside the range the spec gives that unit (Tables 0-6, 1-8,
3-1, 3-11). A command outside them names no part of the device and is refused as ill-formed (R26, R484, R574).
-/
namespace Sys2Proof

/-- Every unit index of the command lies in its unit's range. -/
def Instr.wf : Instr → Bool
  | .sysNop q => decide (q < 32)
  | .sysIdentify q => decide (q < 32)
  | .sysGetReadiness q => decide (q < 32)
  | .sysGetGenerations q => decide (q < 32)
  | .sysGetWindow q => decide (q < 32)
  | .sysSetWindow q => decide (q < 32)
  | .sysAssignChannel q => decide (q < 32)
  | .sysBindUdp q => decide (q < 32)
  | .sysFreeze q => decide (q < 32)
  | .sysThaw q => decide (q < 32)
  | .sysSetEventFilter q => decide (q < 32)
  | .sysRestartCluster q => decide (q < 32)
  | .sysGpioConfig q => decide (q < 32)
  | .sysGpioStatus q => decide (q < 32)
  | .sysFabStatus q => decide (q < 32)
  | .sysFabSetMargin q => decide (q < 32)
  | .sysFabBudget q => decide (q < 32)
  | .sysFwStatus q => decide (q < 32)
  | .sysFwChunk q => decide (q < 32)
  | .sysFwStage q => decide (q < 32)
  | .sysFwSwitch q => decide (q < 32)
  | .sysFwConfirm q => decide (q < 32)
  | .sysReset q => decide (q < 32)
  | .diagFaults q => decide (q < 32)
  | .diagLogRead q => decide (q < 32)
  | .diagClear q => decide (q < 32)
  | .merGetTime q => decide (q < 32)
  | .merSetIncrement q => decide (q < 32)
  | .merSlew q => decide (q < 32)
  | .merStep q => decide (q < 32)
  | .merSetTime q => decide (q < 32)
  | .merServo q => decide (q < 32)
  | .merLaunchArm q => decide (q < 32)
  | .merLaunchCancel q => decide (q < 32)
  | .merSetLateTolerance q => decide (q < 32)
  | .merPortDelay q => decide (q < 32)
  | .merLoopConfig q => decide (q < 32)
  | .merLoopStatus q => decide (q < 32)
  | .merHopLearn q => decide (q < 32)
  | .merLoopRealign q => decide (q < 32)
  | .netPortConfig q => decide (q < 32)
  | .netPortStatus q => decide (q < 32)
  | .netGetCounters q => decide (q < 32)
  | .netSetRule q => decide (q < 32)
  | .netSetMcast q => decide (q < 32)
  | .netSetWake q => decide (q < 32)
  | .netSend q => decide (q < 32)
  | .netFbConfig q => decide (q < 32)
  | .netFbNodes q => decide (q < 32)
  | .netFbForget q => decide (q < 32)
  | .strGet q => decide (q < 32)
  | .strBind q => decide (q < 32)
  | .strEnable q => decide (q < 32)
  | .strSetMap q => decide (q < 32)
  | .strStatus q => decide (q < 32)
  | .strAsrcConfig q => decide (q < 32)
  | .strContinuity q => decide (q < 32)
  | .strSdpList q => decide (q < 32)
  | .strTdmConfig q => decide (q < 32)
  | .strTdmMask q => decide (q < 32)
  | .strAesConfig q => decide (q < 32)
  | .strWclkConfig q => decide (q < 32)
  | .strSerialStatus q => decide (q < 32)
  | .almStatus q => decide (q < 32)
  | .almLoad q => decide (q < 32)
  | .almSwap q => decide (q < 32)
  | .almSetGain q => decide (q < 32)
  | .almGetGain q => decide (q < 32)
  | .almSetConfig q => decide (q < 32)
  | .almSinkFade q => decide (q < 32)
  | .almBusScale q => decide (q < 32)
  | .almDirectSet q => decide (q < 32)
  | .almDirectEnable q => decide (q < 32)
  | .almPlay q => decide (q < 32)
  | .almPlayStop q => decide (q < 32)
  | .almTestgen q => decide (q < 32)
  | .objGet q => decide (q < 32)
  | .objSet q => decide (q < 32)
  | .objMove q => decide (q < 32)
  | .objEnable q => decide (q < 32)
  | .objSetGain q => decide (q < 32)
  | .objSetSource q => decide (q < 32)
  | .objRenderConfig q => decide (q < 32)
  | .objStatus q => decide (q < 32)
  | .objZoneSet q => decide (q < 32)
  | .objMeshLoad q => decide (q < 32)
  | .objTaps q => decide (q < 32)
  | .feedGet q => decide (q < 32)
  | .feedSet q => decide (q < 32)
  | .feedTrim q => decide (q < 32)
  | .corAlloc q => decide (q < 32)
  | .corSwap q => decide (q < 32)
  | .corArm q => decide (q < 32)
  | .corBanks q => decide (q < 32)
  | .corPool q => decide (q < 32)
  | .corCompact q => decide (q < 32)
  | .corBiquad q => decide (q < 32)
  | .corBiquadGet q => decide (q < 32)
  | .corLimiter q => decide (q < 32)
  | .corCompressor q => decide (q < 32)
  | .corLimitDelay q => decide (q < 32)
  | .corDynStatus q => decide (q < 32)
  | .safStatus q => decide (q < 32)
  | .safInputs q => decide (q < 32)
  | .safActivate q => decide (q < 32)
  | .safReset q => decide (q < 32)
  | .safHeartbeat q => decide (q < 32)
  | .safCfgRead q => decide (q < 32)
  | .safCfgWrite q => decide (q < 32)
  | .safCfgCommit q => decide (q < 32)
  | .safMsgLoad q => decide (q < 32)
  | .safMsgDelete q => decide (q < 32)
  | .safMsgList q => decide (q < 32)
  | .safLogRead q => decide (q < 32)
  | .safLines q => decide (q < 32)
  | .safSvcSetKey q => decide (q < 32)
  | .safRestart q => decide (q < 32)
  | .datStatus q => decide (q < 32)
  | .datLoad q => decide (q < 32)
  | .datStore q => decide (q < 32)
  | .datOvlStore q => decide (q < 32)
  | .datOvlApply q => decide (q < 32)
  | .datOvlRemove q => decide (q < 32)
  | .datOvlGet q => decide (q < 32)
  | .datStage q => decide (q < 32)
  | .datCommit q => decide (q < 32)
  | .datDiscard q => decide (q < 32)
  | .otpRead q => decide (q < 32)
  | .otpProgram q => decide (q < 32)
  | .pairStatus q => decide (q < 32)
  | .pairConfig q => decide (q < 32)
  | .pairHandover q => decide (q < 32)
  | .pairPeerLoad q => decide (q < 32)
  | .pairLeave q => decide (q < 32)
  | .pairRejoin q => decide (q < 32)
  | .orderedRelease q => decide (q < 32)
  | .pendingCommandApply => true
  | .udpDatagramReceive _ _ _ _ _ => true
  | .cellPushWrite slot off _ => decide (slot < 6) && decide (off < 65536)
  | .cellPopRead slot off _ => decide (slot < 6) && decide (off < 65536)
  | .queueCommit slot q => decide (slot < 6) && decide (q < 256)
  | .queueAbort slot q => decide (slot < 6) && decide (q < 256)
  | .queueReset slot q => decide (slot < 6) && decide (q < 256)
  | .snapshotTake slot => decide (slot < 6)
  | .channelStart who ch => decide (who < 10) && decide (ch < 36)
  | .channelExtend who ch => decide (who < 10) && decide (ch < 36)
  | .channelStop who ch => decide (who < 10) && decide (ch < 36)
  | .rcCounterRead slot off => decide (slot < 6) && decide (off < 65536)
  | .stickyFaultClear slot off _ => decide (slot < 6) && decide (off < 65536)
  | .registerWrite slot off _ => decide (slot < 6) && decide (off < 65536)
  | .functionLevelReset slot => decide (slot < 4)
  | .perstNAssert => true
  | .channelGrant _ => true
  | .stationFetch ch => decide (ch < 36)
  | .stationComplete ch _ => decide (ch < 36)
  | .controlWordReread ch => decide (ch < 36)
  | .dataBeatBusError ch _ _ => decide (ch < 36)
  | .deviceTargetTimeout ch _ => decide (ch < 36)
  | .pcieCompletionTimeout ch _ => decide (ch < 36)
  | .peripheralRequestTimeout ch => decide (ch < 36)
  | .peripheralWithdraw ch _ _ => decide (ch < 36)
  | .peripheralReturnTimeout ch _ _ => decide (ch < 36)
  | .gpioLevelTaken pin _ => decide (pin < 32)
  | .gpioPulseEnd pin => decide (pin < 32)
  | .slewEnd => true
  | .launchSlotFire k => decide (k < 64)
  | .frameTransmit port => decide (port < 5)
  | .txFrameAtHead port k => decide (port < 5) && decide (k < 7)
  | .frameLaunch port k => decide (port < 5) && decide (k < 7)
  | .referenceStop l => decide (l < 6)
  | .referenceGlitch l => decide (l < 6)
  | .referenceRateChange l => decide (l < 6)
  | .rateMeasureDone l _ => decide (l < 6)
  | .referenceReturn l _ => decide (l < 6)
  | .loopLock l => decide (l < 6)
  | .loopLockLoss l => decide (l < 6)
  | .coastWindowExpire l _ => decide (l < 6)
  | .bandSearchDone l _ _ => decide (l < 6)
  | .searchTimeout l => decide (l < 6)
  | .hopLearnDone l _ _ _ => decide (l < 6)
  | .realignBoundary l => decide (l < 6)
  | .realignTickResume => true
  | .realignFadeInDone l => decide (l < 6)
  | .blockTick _ => true
  | .directTick _ _ => true
  | .vcodeFall => true
  | .shedRise => true
  | .shedFall => true
  | .vcodeRampStep => true
  | .vddReadbackCheck _ _ => true
  | .pmAlert _ => true
  | .thermalRead _ => true
  | .profileChangeApply => true
  | .partitionUsable n => decide (n < 16)
  | .partitionGate => true
  | .programSwap => true
  | .swapCrossfadeEnd => true
  | .almLoadDone => true
  | .gainStep reg _ => decide (reg < 16384)
  | .gainStepTimeout reg => decide (reg < 16384)
  | .playerDone pl => decide (pl < 64)
  | .directSourceChange lane inp => decide (lane < 64) && decide (inp < 8)
  | .directLaneFadeEnd lane => decide (lane < 64)
  | .tapFadeEnd tap => decide (tap < 65536)
  | .meshAdopt => true
  | .meshLoadDone => true
  | .correctionSwap feed => decide (feed < 1024)
  | .corCrossfadeEnd feed => decide (feed < 1024)
  | .corCompactDone => true
  | .biquadFadeEnd unit sec => decide (0x5000 ≤ unit) && decide (unit < 0x5400) && decide (sec < 16) ||
      decide (0x6000 ≤ unit) && decide (unit < 0x6100) && decide (sec < 8)
  | .frameReceive port _ _ => decide (port < 5)
  | .pauseExpire port => decide (port < 5)
  | .linkUp port => decide (port < 5)
  | .linkDown port => decide (port < 5)
  | .lpiEnter port => decide (port < 3)
  | .lpiExit port => decide (port < 3)
  | .wakeHoldExpire w => decide (w < 8)
  | .plcaBeaconLoss => true
  | .plcaBeaconSeen => true
  | .csmaCollision => true
  | .rollCall => true
  | .fbAnswer _ => true
  | .fbAssign _ => true
  | .fbLeave _ => true
  | .fbReport _ => true
  | .fbTrigger _ => true
  | .streamPacketForm so => decide (so < 512)
  | .streamAbsent si => decide (si < 512)
  | .pathAbsent si path => decide (si < 512) && decide (path < 2)
  | .asrcLock g _ => decide (g < 128)
  | .nonAudioDetect iface pair _ _ => decide (iface < 532) && decide (pair < 32)
  | .nonAudioHoldEnd iface pair => decide (iface < 532) && decide (pair < 32)
  | .sapAnnounce so => decide (so < 512)
  | .adpEntityAvailable => true
  | .sdpSessionExpire idx => decide (idx < 1024)
  | .acmpConnect _ idx _ _ _ vid => decide (idx < 512) && decide (vid < 4096)
  | .serialClockStop k => decide (k < 36)
  | .serialRateChange k _ => decide (k < 36)
  | .serialClockReturn k _ => decide (k < 36)
  | .serialFsGlitch k => decide (k < 36)
  | .bitcountError p _ => decide (p < 16)
  | .serialSlip k _ => decide (k < 36)
  | .tdmMaskLatch p => decide (p < 16)
  | .tdmFramingChange p => decide (p < 16)
  | .aesSubframeError n kind => decide (n < 4) && decide (kind < 3)
  | .aesCsBlock n _ => decide (n < 4)
  | .aesReceiverLock n _ => decide (n < 4)
  | .sightSyncSend => true
  | .sightSyncReceive _ => true
  | .sightAckReceive _ => true
  | .sightAckTimer => true
  | .sightRetransmit => true
  | .peerHeartbeat _ => true
  | .sightCommandReceive _ => true
  | .sightResultReceive _ => true
  | .sightSnapshotReceive _ => true
  | .sightImageReceive _ => true
  | .streamStateReceive _ => true
  | .memoryWriteReceive _ => true
  | .joinRequest _ => true
  | .joinAccept _ => true
  | .joinDone _ => true
  | .handover _ => true
  | .handoverAck _ => true
  | .takeover _ => true
  | .leave _ => true
  | .refuse _ => true
  | .pairTakeover => true
  | .fenceWaitExpire => true
  | .fenceConflict => true
  | .foresightHold => true
  | .foresightRelease => true
  | .foresightRejoin => true
  | .pairSeekTimeout => true
  | .joinSnapshotStart => true
  | .pairSettled => true
  | .handoverBoundary => true
  | .handoverAbandon => true
  | .pairSkew => true
  | .islandInputSample _ _ => true
  | .inputStateChange inp => decide (inp < 8)
  | .inputBandTimeout inp => decide (inp < 8)
  | .delegationApply r => decide (r < 64)
  | .delegationHandoff r => decide (r < 64)
  | .fabricHbMiss => true
  | .firmwareHeartbeat => true
  | .firmwareHbTimeout => true
  | .hostHbTimeout => true
  | .delegationReturn r => decide (r < 64)
  | .islandOverlayRemove n => decide (n < 64)
  | .reportSilent e => decide (e < 128)
  | .triggerHoldExpire r => decide (r < 64)
  | .islandTimeCompare => true
  | .islandWatchdogExpire => true
  | .lockstepMismatch => true
  | .lsResetNAssert => true
  | .islandReady => true
  | .vddLsPowerGood => true
  | .vddLsLoss => true
  | .servicePacketWrite _ => true
  | .serviceReplyRead => true
  | .messageLoadDone => true
  | .islandBankVerified => true
  | .datumFetchDone => true
  | .datumCheckDone => true
  | .datumBoundary => true
  | .datumApplyDone => true
  | .datumActivate => true
  | .datStoreDone => true
  | .overlayApplyBoundary n => decide (n < 64)
  | .overlayRemoveBoundary n => decide (n < 64)
  | .overlayResume n => decide (n < 64)
  | .otpProgramDone step => step == 0 || step == 3 || step == 4
  | .fwStageDone => true
  | .trialAutoConfirm => true
  | .trialTimeout => true
  | .mainSupplyLoss => true
  | .resetNAssert => true
  | .resetNRelease boot _ => decide (boot < 8)
  | .timeStart => true
  | .fieldStoreSelftestDone _ => true
  | .longStoreTrained _ => true
  | .firmwareBoot => true
  | .fabricSelftestDone failed => decide (failed < 65536)
  | .clusterWatchdogExpire => true
  | .firmwareFatalError => true
  | .clusterReady => true
  | .commandReset boot _ => decide (boot < 8)
  | .islandRestart => true
  | .lsResetNRelease => true
  | .lpiRxEntry port => decide (port < 3)

end Sys2Proof
end

