-- ==== Sys2Proof/Safety.lean ====
section
/-!
DEFINITION. Sys2Proof/Safety.lean: the terms the statements use: a state whose waiting commands are all well formed,
memory in its canonical form, and a command packet that passes every check which all opcodes share.
-/
namespace Sys2Proof.Machine

/-- Memory keeps its canonical form. -/
def State.memOk (s : State) : Prop := Memory.wf s.mem = true

/-- Every waiting command names units the device has. -/
def State.queueOk (s : State) : Prop := ∀ c ∈ s.pending, c.wf = true

/-- The device as command queue `q`'s packet leaves it: its markers dropped, the packet taken off (R88, R116). -/
def State.afterPacket (s : State) (q order : Nat) : State :=
  let t := (s.popPacket q).1
  { t with
    host := { t.host with
      takeCount := max t.host.takeCount order
      ordered := t.host.ordered.filter fun x => x.1 != q } }

/-- SEQ follows the last one accepted on the queue (R81). -/
def State.seqFollows (s : State) (r : Req) : Bool :=
  match (s.cmdQueue r.queue).lastSeq with
  | none => true
  | some l => decide (r.seq ≠ l) && decide (r.seq = (l + 1) % 65536)

/-- Checks 3 to 14 of Table 2-7, those of the opcode's own left out. -/
def State.sharedChecks (s : State) (r : Req) (p : List Byte) (i : OpInfo) : Bool :=
  decide (u8 p 0 = 3) && decide (u8 p 1 = r.slot) && decide (u16 p 14 = 0) && decide (r.flags < 16) &&
    s.seqFollows r && !(s.slot r.slot).frozen && (!s.sys.recovery || recoveryServes r.op) &&
    (commonCheck s i r (u16 p 12)).isNone

/-- Command queue `q` offers a packet of opcode `op` that the device takes now, and that passes every check of
Table 2-7 which all opcodes share: the state without it, the opcode's row and the command. -/
def State.offer (s : State) (q op : Nat) : Option (State × OpInfo × Req) :=
  let u := s.dropMarkers q 2
  let cells := (u.headPacket q).length
  let held := bitOf (u16 (u.headBytes q) 6) 1 &&
    ((u.waitingOrder q).isSome || u.earlierOpen (q / 4) (u.host.takeCount + 1))
  let order := (u.waitingOrder q).getD (u.host.takeCount + 1)
  let p := u.headBytes q
  let r := parseReq q order p
  let t := u.afterPacket q order
  match opInfo op with
  | none => none
  | some i =>
    if q < 32 ∧ s.takesCommands (q / 4) = true ∧ cells ≠ 0 ∧ held = false ∧ u16 (u.headBytes q) 4 = op ∧
        packetCheck p cells = none ∧ t.sharedChecks r p i = true then some (t, i, r)
    else none

/-! ## How a command packet completes

Each form is about every packet of opcode `op` that a command queue offers, under conditions on the command and the
state alone. `mirrors` is false where the command is not numbered for a Backsight (R590). -/

/-- A query is answered OK with its data, and changes nothing else. -/
def Answers (c : Nat → Instr) (op : Nat) (data : Req → State → List Byte) : Prop :=
  ∀ (q : Nat) (s t : State) (i : OpInfo) (r : Req), s.offer q op = some (t, i, r) →
    exec (c q) s = .next (s.goesTo ((t.accept r).finish r Status.ok (data r t)))

/-- A command takes effect and is answered OK with data. -/
def Finishes (c : Nat → Instr) (op : Nat) (ok : Req → State → Prop) (effect : Req → State → State)
    (data : Req → State → List Byte) : Prop :=
  ∀ (q : Nat) (s t : State) (i : OpInfo) (r : Req), s.offer q op = some (t, i, r) → ok r t →
    t.mirrors i r = false →
    exec (c q) s = .next (s.goesTo (((effect r t).accept r).finish r Status.ok (data r t)))

/-- A command begins work whose final reply comes later: it is answered ACCEPTED. -/
def Defers (c : Nat → Instr) (op : Nat) (ok : Req → State → Prop) (effect : Req → State → State) : Prop :=
  ∀ (q : Nat) (s t : State) (i : OpInfo) (r : Req), s.offer q op = some (t, i, r) → ok r t →
    t.mirrors i r = false →
    exec (c q) s = .next (s.goesTo (((effect r t).accept r).reply r Status.accepted [] false))

/-- ACCEPTED is the one and final reply, and the effect follows it. -/
def AcceptsOnly (c : Nat → Instr) (op : Nat) (ok : Req → State → Prop) (effect : Req → State → State) : Prop :=
  ∀ (q : Nat) (s t : State) (i : OpInfo) (r : Req), s.offer q op = some (t, i, r) → ok r t →
    t.mirrors i r = false →
    exec (c q) s = .next (s.goesTo (effect r ((t.accept r).finish r Status.accepted [])))

/-- An accepted command waits: for the next boundary, or answered ACCEPTED for that of AT_RI. -/
def State.keepWaiting (t : State) (r : Req) : State :=
  match r.at? with
  | none => (t.accept r).addPending { req := r, due := t.nextBoundary, atRi := false, acked := false }
  | some b => ((t.accept r).reply r Status.accepted [] false).addPending
      { req := r, due := b, atRi := true, acked := true }

/-- A command that changes audio processing waits for its boundary: the next one, or that of AT_RI (R34, R86). -/
def Waits (c : Nat → Instr) (op : Nat) (ok : Req → State → Prop) : Prop :=
  ∀ (q : Nat) (s t : State) (i : OpInfo) (r : Req), s.offer q op = some (t, i, r) → ok r t →
    t.mirrors i r = false →
    exec (c q) s = .next (s.goesTo (t.keepWaiting r))

/-- At its boundary such a command takes effect and is answered OK (R83, R86, R90). -/
def AppliesAtBoundary (op : Nat) (ok : Req → State → Prop) (effect : Req → State → State) : Prop :=
  ∀ (s : State) (p : Pending), s.sys.running = true → s.dueCommands = [p] → p.req.op = op →
    (p.req.gen = 0 ∨ p.req.gen = (s.dropPending p).genOf p.req.target) → ok p.req (s.dropPending p) →
    exec .pendingCommandApply s =
      .next (s.goesTo ((effect p.req (s.dropPending p)).finish p.req Status.ok []))

/-- A command that changes audio processing, from its acceptance to its effect. -/
def BoundaryCommand (c : Nat → Instr) (op : Nat) (ok : Req → State → Prop) (effect : Req → State → State) : Prop :=
  Waits c op ok ∧ AppliesAtBoundary op ok effect

/-- The check of an opcode passes. -/
abbrev passes (check : Req → State → Option Nat) (r : Req) (s : State) : Prop := check r s = none

/-- The command makes no demand of its own. -/
abbrev anyway (_ : Req) (_ : State) : Prop := True

/-- The command leaves the state as it is. -/
def unchanged (_ : Req) (s : State) : State := s

/-- The reply carries no data. -/
def noData (_ : Req) (_ : State) : List Byte := []

/-! ## Packets and their rows -/

def hostRows0 : List (Nat × (Nat → Instr)) :=
  [(0x0100, .sysNop), (0x0101, .sysIdentify), (0x0102, .sysGetReadiness), (0x0103, .sysGetGenerations),
   (0x0104, .sysGetWindow), (0x0105, .sysSetWindow), (0x0106, .sysAssignChannel), (0x0107, .sysBindUdp),
   (0x0108, .sysFreeze), (0x0109, .sysThaw), (0x010A, .sysSetEventFilter), (0x010B, .sysRestartCluster),
   (0x0140, .sysFabStatus), (0x0141, .sysFabSetMargin), (0x0142, .sysFabBudget), (0x0150, .sysFwStatus),
   (0x0151, .sysFwChunk), (0x0152, .sysFwStage), (0x0153, .sysFwSwitch), (0x0154, .sysFwConfirm),
   (0x0160, .sysReset), (0x0170, .sysGpioConfig), (0x0171, .sysGpioStatus)]

def hostRows1 : List (Nat × (Nat → Instr)) :=
  [(0x0200, .datStatus), (0x0201, .datLoad), (0x0202, .datStore), (0x0210, .datOvlStore), (0x0211, .datOvlApply),
   (0x0212, .datOvlRemove), (0x0213, .datOvlGet), (0x0220, .datStage), (0x0221, .datCommit),
   (0x0222, .datDiscard), (0x0300, .strGet), (0x0301, .strBind), (0x0302, .strEnable), (0x0303, .strSetMap),
   (0x0304, .strStatus), (0x0305, .strAsrcConfig), (0x0306, .strContinuity), (0x0307, .strSdpList),
   (0x0320, .strTdmConfig), (0x0321, .strTdmMask), (0x0322, .strAesConfig), (0x0323, .strWclkConfig),
   (0x0324, .strSerialStatus)]

def hostRows2 : List (Nat × (Nat → Instr)) :=
  [(0x0400, .objGet), (0x0401, .objSet), (0x0402, .objMove), (0x0403, .objEnable), (0x0404, .objSetGain),
   (0x0405, .objSetSource), (0x0410, .objRenderConfig), (0x0411, .objStatus), (0x0412, .objZoneSet),
   (0x0413, .objMeshLoad), (0x0414, .objTaps), (0x0500, .feedGet), (0x0501, .feedSet), (0x0502, .feedTrim),
   (0x0503, .corAlloc), (0x0504, .corSwap), (0x0505, .corArm), (0x0506, .corBanks), (0x0507, .corPool),
   (0x0508, .corCompact), (0x0510, .corBiquad), (0x0511, .corBiquadGet), (0x0520, .corLimiter)]

def hostRows3 : List (Nat × (Nat → Instr)) :=
  [(0x0521, .corCompressor), (0x0522, .corLimitDelay), (0x0523, .corDynStatus), (0x0600, .almStatus),
   (0x0601, .almLoad), (0x0602, .almSwap), (0x0603, .almSetGain), (0x0604, .almGetGain), (0x0605, .almSetConfig),
   (0x0606, .almSinkFade), (0x0607, .almBusScale), (0x0608, .almDirectSet), (0x0609, .almDirectEnable),
   (0x060A, .almPlay), (0x060B, .almPlayStop), (0x060C, .almTestgen), (0x0700, .merGetTime),
   (0x0701, .merSetIncrement), (0x0702, .merSlew), (0x0703, .merStep), (0x0704, .merSetTime),
   (0x0705, .merServo), (0x0708, .merLaunchArm)]

def hostRows4 : List (Nat × (Nat → Instr)) :=
  [(0x0709, .merLaunchCancel), (0x070A, .merSetLateTolerance), (0x070B, .merPortDelay), (0x0710, .merLoopConfig),
   (0x0711, .merLoopStatus), (0x0712, .merHopLearn), (0x0713, .merLoopRealign), (0x0900, .netPortConfig),
   (0x0901, .netPortStatus), (0x0902, .netGetCounters), (0x0903, .netSetRule), (0x0904, .netSetMcast),
   (0x0905, .netSetWake), (0x0906, .netSend), (0x0910, .netFbConfig), (0x0911, .netFbNodes),
   (0x0912, .netFbForget), (0x0A00, .safStatus), (0x0A01, .safInputs), (0x0A02, .safActivate),
   (0x0A03, .safReset), (0x0A04, .safHeartbeat), (0x0A05, .safCfgRead)]

def hostRows5 : List (Nat × (Nat → Instr)) :=
  [(0x0A06, .safCfgWrite), (0x0A07, .safCfgCommit), (0x0A08, .safMsgLoad), (0x0A09, .safMsgDelete),
   (0x0A0A, .safMsgList), (0x0A0B, .safLogRead), (0x0A0C, .safLines), (0x0A10, .safSvcSetKey),
   (0x0A11, .safRestart), (0x0B00, .pairStatus), (0x0B01, .pairConfig), (0x0B02, .pairHandover),
   (0x0B03, .pairPeerLoad), (0x0B04, .pairLeave), (0x0B05, .pairRejoin), (0x0C00, .otpRead),
   (0x0C01, .otpProgram), (0x0D00, .diagFaults), (0x0D01, .diagLogRead), (0x0D02, .diagClear)]

/-- Every opcode with its row (Table 2-12 and the opcode tables of chapters 3 to 15). -/
def hostRows : List (Nat × (Nat → Instr)) :=
  hostRows0 ++ hostRows1 ++ hostRows2 ++ hostRows3 ++ hostRows4 ++ hostRows5

/-- Command queue `q` has a packet that the row of opcode `op` takes now, whether or not it passes the checks: the state
without it, the command as its bytes give it, the bytes, and the cells they came in. -/
def State.packet (s : State) (q op : Nat) : Option (State × Req × List Byte × Nat) :=
  let u := s.dropMarkers q 2
  let b := u.headBytes q
  let cells := (u.headPacket q).length
  let order := (u.waitingOrder q).getD (u.host.takeCount + 1)
  let held := decide (packetCheck b cells = none) && bitOf (u16 b 6) 1 &&
    ((u.waitingOrder q).isSome || u.earlierOpen (q / 4) order)
  if q < 32 ∧ s.takesCommands (q / 4) = true ∧ cells ≠ 0 ∧ held = false ∧ u16 b 4 = op then
    some (u.afterPacket q order, parseReq q order b, b, cells)
  else none

/-- The device's audio tables, its memory, its time and its power stand as they were. -/
def State.sameAudio (s t : State) : Prop :=
  t.alm = s.alm ∧ t.obj = s.obj ∧ t.cor = s.cor ∧ t.str = s.str ∧ t.ser = s.ser ∧ t.mem = s.mem ∧ t.fab = s.fab ∧
    t.time = s.time ∧ t.otp = s.otp

/-- So do its datum, its traverse engines and its pins. -/
def State.sameWork (s t : State) : Prop := s.sameAudio t ∧ t.dat = s.dat ∧ t.trav = s.trav ∧ t.gpio = s.gpio

/-- A command is passed on to the Backsight: it is numbered, sent, and waits for the boundary both halves apply it at
(R588, R590, R591). -/
def Mirrors (c : Nat → Instr) (op : Nat) (ok : Req → State → Prop) : Prop :=
  ∀ (q : Nat) (s t : State) (i : OpInfo) (r : Req),
    let m := { r with mseq := some (t.pair.mseq + 1) }
    let due := t.boundaryAfterUs t.leadUs
    s.offer q op = some (t, i, r) → ok r t → t.mirrors i r = true → r.atRi = false →
    exec (c q) s = .next (s.goesTo
      (((t.accept r).mirrorCommand m due).addPending { req := m, due := due, atRi := false, acked := false }))

/-! ## Hardware queues -/

/-- The pointers of a bank of `n` cells stand in order. -/
def Bank.sound (n : Nat) (b : Bank) : Bool :=
  decide (b.read ≤ b.commit) && decide (b.commit ≤ b.cells.length) && decide (b.cells.length ≤ n - 1) &&
    (!b.markerPopped || b.marker.isSome)

/-- A queue in order: its pointers, the open packet at the end of its bank, nothing in the fill bank while the drain
bank still takes a packet, and nothing to pop only where nothing is committed (R117-R119, R129). -/
def Queue.sound (q : Nat) (x : Queue) : Bool :=
  let n := bankCells q x
  let fill := x.bank x.fill1
  x.bank0.sound n && x.bank1.sound n &&
    (match x.openAt with
     | none => decide (x.bank0.commit = x.bank0.cells.length) && decide (x.bank1.commit = x.bank1.cells.length)
     | some (b, at_) => decide (at_ = (x.bank b).commit) && decide (at_ < (x.bank b).cells.length) &&
         (x.bank b).marker.isNone &&
         decide ((x.bank !b).commit = (x.bank !b).cells.length) &&
         (b == x.fill1 || (fill.cells.isEmpty && fill.marker.isNone))) &&
    (decide ((x.bank x.drain).cellsLeft ≠ 0) || decide (fill.cellsLeft = 0))

/-- What a bank has yet to give: its committed cells, and then its marker. -/
def Bank.line (q : Nat) (b : Bank) : List QCell :=
  (b.cells.take b.commit).drop b.read ++
    (match b.marker with
     | some m => if b.markerPopped then [] else [{ data := m.cell q, first := true, last := true }]
     | none => [])

/-- What a queue has yet to give, in the order in which it gives it. -/
def Queue.line (q : Nat) (x : Queue) : List QCell := (x.bank x.drain).line q ++ (x.bank x.fill1).line q

/-- The cells of the open packet. -/
def Queue.openCells (x : Queue) : List QCell :=
  match x.openAt with
  | some (b, at_) => (x.bank b).cells.drop at_
  | none => []

end Sys2Proof.Machine
end

