-- ==== Sys2Proof/Certificates/Slice0/Obligations.lean ====
section
/-!
DEFINITION. Sys2Proof/Certificates/Slice0/Obligations.lean: the statements for the provers.
-/

open Sys2Proof Sys2Proof.Machine

/-! ## The queue of waiting commands -/

/-- One step takes the command at the front of the queue, and its outcome is that of the command with the rest. -/
def Obligations.StepRunsFront : Prop :=
  ∀ (c : Instr) (rest : List Instr) (s : State), s.pending = c :: rest →
    step s = exec c { s with pending := rest }

/-- With no command waiting, one cycle of the device's clock passes, and only the clocks of the device and of the
island move (the model's choice, notes/assumptions/2.md). -/
def Obligations.EmptyQueueTicks : Prop :=
  ∀ s : State, s.pending = [] → ∃ (now : DevTime) (slew : Nat) (island : DevTime), step s = .next { s with
    time := { s.time with now := now, slewLeft := slew, elapsed := s.time.elapsed + s.cycleNs }
    saf := { s.saf with time := island } }

/-- A well-formed command always completes, and leaves the queue of waiting commands alone; an ill-formed one is
refused by its name. -/
def Obligations.WellFormedCompletes : Prop :=
  ∀ (c : Instr) (s : State),
    (c.wf = true → ∃ t, exec c s = .next t ∧ t.pending = s.pending) ∧
    (c.wf = false → ∃ name, exec c s = .refused (.illFormed name))

/-- The invariant of the queue: while every waiting command is well formed, a step answers a next state, in which the
queue has lost its front at most and every waiting command is well formed. -/
def Obligations.StepKeepsQueue : Prop :=
  ∀ s : State, s.queueOk → ∃ t, step s = .next t ∧ t.pending = s.pending.tail ∧ t.queueOk

/-- Reset meets the invariants: no command waits, memory lists nothing, the tables are in order and every queue is
sound. -/
def Obligations.ResetInvariants : Prop :=
  State.reset.pending = [] ∧ State.reset.queueOk ∧ State.reset.memOk ∧ State.reset.mem = [] ∧
  twf SafInput.reset State.reset.saf.inputs = true ∧ twf Slot.reset State.reset.host.slots = true ∧
  (∀ q, ((State.reset.queue q).sound q) = true)

/-! ## Command packets -/

/-- Queries of the system, clock, fabric, network and pair groups are answered with the data their tables give. -/
def Obligations.SystemQueriesAnswer : Prop :=
  Answers .sysNop 0x0100 (fun r _ => r.params) ∧
  Answers .sysIdentify 0x0101 identifyData ∧
  Answers .sysGetReadiness 0x0102 sysGetReadinessData ∧
  Answers .sysGetWindow 0x0104 (fun r s => windowData s r.index) ∧
  Answers .sysFabStatus 0x0140 (fun _ s => fabStatusData s) ∧
  Answers .merGetTime 0x0700 (fun _ s => timeData s) ∧
  Answers .netFbNodes 0x0911 netFbNodesData ∧
  Answers .pairStatus 0x0B00 (fun _ s => pairStatusData s) ∧
  Answers .otpRead 0x0C00 otpReadData ∧
  Answers .diagFaults 0x0D00 (fun _ s => faultWords s)

/-- Queries of the audio groups are answered with the data their tables give. -/
def Obligations.AudioQueriesAnswer : Prop :=
  Answers .datStatus 0x0200 datStatusData ∧
  Answers .datOvlGet 0x0213 datOvlGetData ∧
  Answers .strGet 0x0300 strGetData ∧
  Answers .strContinuity 0x0306 (fun r s => continuityData s r.index) ∧
  Answers .objGet 0x0400 (fun r s => objectBytes s r.index) ∧
  Answers .feedGet 0x0500 (fun r s => feedBytes s r.index) ∧
  Answers .corBanks 0x0506 corBanksData ∧
  Answers .corPool 0x0507 corPoolData ∧
  Answers .corBiquadGet 0x0511 corBiquadGetData ∧
  Answers .almStatus 0x0600 (fun _ s => almStatusData s)

/-- Reads with parameters of their own are answered, and clear what they are asked to clear. -/
def Obligations.ParameterReadsAnswer : Prop :=
  Finishes .sysGetGenerations 0x0103 (fun r _ => r.params.length % 2 = 0) unchanged
    (fun r s => generationsOf s r.params (r.params.length / 2)) ∧
  Finishes .sysFabBudget 0x0142 (fun r _ => u8 r.params 0 ≤ 4 ∧ zeroAt r.params 1 3 = true) unchanged
    (fun r s => le 1 (b2n (s.budgetFail (u8 r.params 0)).isSome)
      ++ le 1 ((s.budgetFail (u8 r.params 0)).getD (0, 0, 0)).1 ++ zeros 2
      ++ le 4 ((s.budgetFail (u8 r.params 0)).getD (0, 0, 0)).2.1
      ++ le 4 ((s.budgetFail (u8 r.params 0)).getD (0, 0, 0)).2.2) ∧
  Finishes .sysGpioStatus 0x0171 (fun r _ => u8 r.params 0 = 0 ∧ zeroAt r.params 1 3 = true) unchanged
    (fun _ s => gpioData s) ∧
  Finishes .sysGpioStatus 0x0171
    (fun r s => u8 r.params 0 = 1 ∧ zeroAt r.params 1 3 = true ∧ r.hasLevel s 2 = true)
    (fun _ s => s.clearEdges (List.range 32)) (fun _ s => gpioData s) ∧
  Finishes .merLoopStatus 0x0711 (fun r _ => u8 r.params 0 ≤ 5) unchanged
    (fun r s => loopStatusData s (u8 r.params 0)) ∧
  Finishes .netPortStatus 0x0901 (fun r _ => u8 r.params 0 ≤ 4)
    (fun r s => if u8 r.params 0 < 3 then s else s.bump) (fun r s => portStatusData s (u8 r.params 0)) ∧
  Finishes .netGetCounters 0x0902
    (fun r _ => u8 r.params 0 ≤ 4 ∧ u8 r.params 1 = 0 ∧ zeroAt r.params 2 2 = true) unchanged
    (fun r s => countersData s (u8 r.params 0)) ∧
  Finishes .netGetCounters 0x0902
    (fun r s => u8 r.params 0 ≤ 4 ∧ u8 r.params 1 = 1 ∧ zeroAt r.params 2 2 = true ∧ r.hasLevel s 2 = true)
    (fun r s => s.modPort (u8 r.params 0) fun x => { x with counters := [] })
    (fun r s => countersData s (u8 r.params 0)) ∧
  Finishes .diagLogRead 0x0D01 (fun r _ => 1 ≤ u16 r.params 2 ∧ u16 r.params 2 ≤ 64) unchanged
    (fun r s => historyData s (u16 r.params 0) (u16 r.params 2)) ∧
  Finishes .almGetGain 0x0604
    (fun r _ => 1 ≤ u16 r.params 2 ∧ u16 r.params 2 ≤ 1000 ∧ u16 r.params 0 + u16 r.params 2 ≤ 16384) unchanged
    (fun r s => (List.range (u16 r.params 2)).flatMap fun i =>
      leI 2 (s.gainReg (u16 r.params 0 + i)).cur ++ leI 2 (s.gainReg (u16 r.params 0 + i)).target) ∧
  Finishes .objStatus 0x0411 (fun r _ => u8 r.params 0 = 0 ∧ zeroAt r.params 1 3 = true) unchanged
    (fun _ s => le 4 (s.tapCount (·.safe)) ++ le 4 (s.tapCount fun t => !t.safe)
      ++ le 4 (s.tapCount fun t => t.fade != 0) ++ le 4 s.obj.candidates ++ le 4 s.obj.waiting
      ++ (s.obj.counts.map fun n => le 4 n).flatten ++ le 8 (Mesh.id s.obj.mesh)) ∧
  Finishes .objTaps 0x0414 (fun r _ => zeroAt r.params 2 2 = true) unchanged
    (fun r s =>
      let l := (s.obj.tap.filter fun x => x.2.obj == r.index).map fun x => x.2.bytes
      le 2 l.length ++ zeros 2 ++ ((l.drop (u16 r.params 0)).take 254).flatten) ∧
  Finishes .corDynStatus 0x0523 (fun r _ => u8 r.params 0 = 0 ∧ zeroAt r.params 1 3 = true) unchanged
    (fun r s =>
      let d := s.dynUnit r.index
      d.settings (decide (r.index < 1024)) ++ leI 2 d.level ++ leI 2 d.now ++ leI 2 d.deepest ++ zeros 2
        ++ le 4 d.blocks) ∧
  Finishes .strStatus 0x0304 (fun r _ => u8 r.params 0 = 0 ∧ zeroAt r.params 1 3 = true) unchanged
    (fun r s => streamStatusData s r.target) ∧
  Finishes .strStatus 0x0304
    (fun r s => u8 r.params 0 = 1 ∧ zeroAt r.params 1 3 = true ∧ r.hasLevel s 2 = true)
    (fun r s => s.clearStream r.target) (fun r s => streamStatusData s r.target) ∧
  Finishes .strSdpList 0x0307 (fun r _ => zeroAt r.params 2 2 = true) unchanged
    (fun r s =>
      let l := sdpFit 4072 (s.str.sdp.drop (u16 r.params 0))
      le 2 l.length ++ zeros 2 ++ (l.map SdpSession.bytes).flatten) ∧
  Finishes .strSerialStatus 0x0324
    (fun r _ => u8 r.params 1 = 0 ∧ zeroAt r.params 2 2 = true ∧ unitClass r.target = 3 ∧ u8 r.params 0 = 0)
    unchanged (fun r s => serStatusData s r.index)

/-- Commands of the system and diagnostic groups take effect as they complete. -/
def Obligations.SystemCommandsComplete : Prop :=
  Finishes .sysSetWindow 0x0105 (passes windowCheck) setWindow noData ∧
  Finishes .sysAssignChannel 0x0106
    (fun r s => r.index < 32 ∧ zeroAt r.params 1 3 = true ∧ (u8 r.params 0 < 8 ∨ u8 r.params 0 = 0xFF) ∧
      (s.chan r.index).state = .idle)
    (fun r s => (s.modChan r.index fun x => { x with owner := u8 r.params 0 }).bumpGen r.target) noData ∧
  Finishes .sysBindUdp 0x0107 (passes bindCheck) bindUdp noData ∧
  Finishes .sysFreeze 0x0108 (fun r s => unitClass r.target = 10 ∧ r.index ≠ s.host.privSlot)
    (fun r s => s.freezeSlot r.index 3 0) (fun r s => le 2 ((s.freezeSlot r.index 3 0).slot r.index).serial) ∧
  Finishes .sysFreeze 0x0108 (fun r _ => unitClass r.target = 8 ∧ r.index < 32)
    (fun r s => s.freezeChan r.index 3 0 false)
    (fun r s => le 2 ((s.freezeChan r.index 3 0 false).chan r.index).serial) ∧
  Finishes .sysFreeze 0x0108 (fun r _ => unitClass r.target ≠ 10 ∧ unitClass r.target ≠ 8)
    (fun _ s => s.freezeSight 3 0) (fun _ s => le 2 (s.freezeSight 3 0).net.sight.serial) ∧
  Finishes .sysThaw 0x0109
    (fun r s => unitClass r.target = 10 ∧ (s.slot r.index).frozen = true ∧
      (s.slot r.index).serial = u16 r.params 0 ∧ (r.index ≠ s.host.privSlot ∨ 4 ≤ r.index))
    (fun r s => s.thawSlot r.index) noData ∧
  Finishes .sysThaw 0x0109
    (fun r s => unitClass r.target = 8 ∧ r.index < 32 ∧ (s.chan r.index).frozen = true ∧
      (s.chan r.index).serial = u16 r.params 0)
    (fun r s => s.thawChan r.index) noData ∧
  Finishes .sysThaw 0x0109
    (fun r s => unitClass r.target ≠ 10 ∧ unitClass r.target ≠ 8 ∧ s.net.sight.frozen = true ∧
      s.net.sight.serial = u16 r.params 0)
    (fun _ s => s.thawSight) noData ∧
  Finishes .sysSetEventFilter 0x010A anyway
    (fun r s => s.modSlot r.slot fun x =>
      { x with filter := x.filter.take 1 ++ (slice r.params 1 15).map (·.toNat) }) noData ∧
  Finishes .sysGpioConfig 0x0170 (passes gpioCheck) setGpio noData ∧
  Finishes .diagClear 0x0D02 (fun r _ => zeroAt r.params 1 3 = true ∧ isW1c (0x4000 + u8 r.params 0) = true)
    (fun r s => { s with
      sticky := s.sticky.w1c (0x4000 + u8 r.params 0) (BitVec.ofNat 32 (u32 r.params 4)) }) noData ∧
  Finishes .diagClear 0x0D02
    (fun r _ => zeroAt r.params 1 3 = true ∧ isW1c (0x4000 + u8 r.params 0) = false ∧
      isRcWord (0x4000 + u8 r.params 0) = true)
    (fun r s => { s with sticky := s.sticky.clearRc (0x4000 + u8 r.params 0) }) noData

/-- The restarts and resets that software asks for: ACCEPTED is their one and final reply (R83, R634). -/
def Obligations.ResetCommandsComplete : Prop :=
  AcceptsOnly .sysRestartCluster 0x010B (fun r _ => u32 r.params 0 = 0x9624) (fun _ s => s.clusterRestart 0x11) ∧
  AcceptsOnly .sysReset 0x0160 (fun r _ => u32 r.params 0 = 0x9624)
    (fun _ s => s.sysMod fun x => { x with resetDue := some (s.time.elapsed + milli) }) ∧
  (∀ (q k : Nat) (s t : State) (i : OpInfo) (r : Req), s.offer q 0x0153 = some (t, i, r) →
    u8 r.params 0 ≤ 1 → zeroAt r.params 1 3 = true → t.sys.staged = some k →
    (u32 r.params 4 = 0 ∨ u32 r.params 4 = Fw.version (t.bankImage k)) →
    t.sys.trial = none → t.sys.stage = none → t.loadBeforeB = false → t.otp.job = none → t.mirrors i r = false →
    exec (.sysFwSwitch q) s = .next (s.goesTo
      (((t.accept r).finish r Status.accepted []).beginTrial k (bitOf (u8 r.params 0) 0)))) ∧
  AcceptsOnly .safRestart 0x0A11
    (fun r s => s.saf.ready = true ∧ u32 r.params 0 = 0x9624 ∧ s.saf.activeReqs = [] ∧ s.safetyLocked r = false)
    (fun _ s => { s with sys := { s.sys with islandDue := some (s.time.elapsed + milli) } })

/-- Firmware and OTP commands (chapters 13 and 15): the chunk is written, the work begins, the trial is
confirmed. -/
def Obligations.FirmwareCommandsComplete : Prop :=
  Finishes .sysFwStatus 0x0150 (fun _ s => s.bootRecord.isSome = true) unchanged
    (fun _ s => ((s.bootRecord.map (·.2)).getD []) ++ (le 1 s.sys.fwBank ++ le 1 (s.sys.staged.getD 0xFF)
      ++ le 2 s.trialLeft ++ le 4 (s.bankVersion 0) ++ le 4 (s.bankVersion 1))) ∧
  Finishes .sysFwChunk 0x0151 (passes fwChunkCheck) sysFwChunkEffect noData ∧
  Defers .sysFwStage 0x0152
    (fun r s => u8 r.params 0 ≤ 1 ∧ zeroAt r.params 1 3 = true ∧ zeroAt r.params 16 4 = true ∧
      s.sys.stage = none ∧ s.sys.trial = none ∧ s.isReady Rdy.longStore = true)
    (fun r s => s.beginStage r) ∧
  Finishes .sysFwConfirm 0x0154 (fun _ s => s.sys.trial.isSome = true) (fun _ s => s.confirmTrial) noData ∧
  Defers .otpProgram 0x0C01
    (fun r s => s.otp.job = none ∧ s.otp.blank.isSome = true ∧ baseRecordOk (slice r.params 4 512) = true ∧
      u32 r.params 0 = u32 s.otp.ident 0 ∧ s.fab.tjMax ≤ 340)
    (fun r s => { s with
      otp := { s.otp with
        job := some (s.otp.blank.getD 0, filledRecord (s.otp.blank.getD 0) (slice r.params 4 512), r) } })

/-- Clock commands (chapter 4). -/
def Obligations.ClockCommandsComplete : Prop :=
  Finishes .merSetIncrement 0x0701 (passes incrementCheck) merSetIncrementEffect noData ∧
  Finishes .merSlew 0x0702 (passes slewCheck) merSlewEffect noData ∧
  Finishes .merStep 0x0703 (passes stepCheck) merStepEffect noData ∧
  Finishes .merSetTime 0x0704 (passes setTimeCheck) merSetTimeEffect noData ∧
  Finishes .merServo 0x0705 (passes servoCheck) setServo noData ∧
  Finishes .merLaunchArm 0x0708 (passes launchCheck) armLaunch noData ∧
  Finishes .merLaunchCancel 0x0709 anyway
    (fun r s => s.setLaunch r.index { s.launch r.index with armed := false })
    (fun r s => le 4 (s.launch r.index).firings) ∧
  Finishes .merSetLateTolerance 0x070A (passes toleranceCheck) merSetLateToleranceEffect noData ∧
  Finishes .merPortDelay 0x070B (passes portDelayCheck) merPortDelayEffect noData ∧
  BoundaryCommand .merLoopConfig 0x0710 (passes loopConfigCheck) merLoopConfigEffect ∧
  Defers .merHopLearn 0x0712
    (fun r s => (u8 r.params 0 = 1 ∨ u8 r.params 0 = 2) ∧ u8 r.params 1 ≤ 3 ∧ u8 r.params 2 ≠ 0 ∧
      referenceOk (u8 r.params 2) (u8 r.params 3) 0 (u32 r.params 4) = true ∧ u16 r.params 8 ≠ 0 ∧
      u16 r.params 10 ≠ 0 ∧ (s.loop (u8 r.params 0)).state ≠ .search ∧ (s.loop (u8 r.params 0)).learn = none)
    (fun r s => s.modLoop (u8 r.params 0) fun x =>
      { x with learn := some (u8 r.params 1, learnCfg r.params x.cfg, r) }) ∧
  Defers .merLoopRealign 0x0713
    (fun r s => (u8 r.params 0 = 1 ∨ u8 r.params 0 = 2) ∧ zeroAt r.params 1 3 = true ∧
      ((s.loop (u8 r.params 0)).state = .locked ∨ (s.loop (u8 r.params 0)).state = .coast ∨
        (s.loop (u8 r.params 0)).state = .holdover))
    (fun r s => (s.modLoop (u8 r.params 0) fun x => { x with realignReq := some r }).realign (u8 r.params 0)
      (s.loop (u8 r.params 0)).phaseErr)

/-- Network and field-bus commands (chapter 5). -/
def Obligations.NetworkCommandsComplete : Prop :=
  Finishes .netPortConfig 0x0900 (fun r _ => portConfigBad r.params = false) (fun r s => s.configPort r.params)
    noData ∧
  Finishes .netSetRule 0x0903 (passes ruleCheck) netSetRuleEffect noData ∧
  Finishes .netSetMcast 0x0904 (passes mcastCheck) netSetMcastEffect noData ∧
  Finishes .netSetWake 0x0905 (passes wakeCheck) netSetWakeEffect noData ∧
  Finishes .netSend 0x0906
    (fun r s => (u8 r.params 0 ≤ 2 ∨ u8 r.params 0 = 4) ∧ u8 r.params 1 < 8 ∧ zeroAt r.params 14 2 = true ∧
      (bitOf (u8 r.params 1) 2 = true → u32 r.params 10 < second) ∧
      slice (r.params.drop 16) 6 6 = s.macOf (u8 r.params 0) ∧
      wireLen (r.params.drop 16) ≤ s.maxFrame (u8 r.params 0))
    (fun r s => s.queueTx (u8 r.params 0) 6
      { bytes := r.params.drop 16
        launch := if bitOf (u8 r.params 1) 2 then some (u48 r.params 4, u32 r.params 10) else none
        stamp := bitOf (u8 r.params 1) 0, oneStep := bitOf (u8 r.params 1) 1, tag := u16 r.params 2
        slot := some r.slot, lastRi := none, held := false, replay := false }) noData ∧
  Finishes .netFbConfig 0x0910 (passes fbCheck) netFbConfigEffect noData ∧
  Finishes .netFbForget 0x0912 (fun r s => (s.node r.index).present = false ∧ (s.node r.index).known = true)
    (fun r s => (s.setNode r.index { s.node r.index with known := false }).bumpGen r.target) noData

/-- Programs, gains, sink fades, lanes, players and generators (chapter 9). A swap is noted, and applies by
PROGRAM_SWAP. -/
def Obligations.AlmanacCommandsComplete : Prop :=
  Defers .almLoad 0x0601
    (fun r s => zeroAt r.params 12 4 = true ∧ s.unmirrored r (u64 r.params 0) (u32 r.params 8) = false ∧
      (s.almBank s.idleBank).state ≠ 1 ∧ s.alm.swap = none ∧ s.programCovered = false ∧
      (isLong (u64 r.params 0) = false ∨ s.isReady Rdy.longStore = true))
    (fun r s => (s.setAlmBank s.idleBank { state := 1, image := [] }).almMod fun t =>
      { t with load := some { req := r, addr := u64 r.params 0, len := u32 r.params 8, bank := s.idleBank } }) ∧
  Defers .almSwap 0x0602
    (fun r s => zeroAt r.params 2 2 = true ∧ (u16 r.params 0 = 0 ∨ 16 ≤ u16 r.params 0 ∧ u16 r.params 0 ≤ 256) ∧
      s.locked r = false ∧ s.islandOverlay = false ∧ s.swapFail (u16 r.params 0) (u64 r.params 4) = none ∧
      s.programCovered = false)
    (fun r s => s.scheduleSwap (some (s.numbered r).1) (s.numbered r).2 (u16 r.params 0)) ∧
  BoundaryCommand .almSetGain 0x0603
    (fun r s => 1 ≤ u16 r.params 0 ∧ u16 r.params 0 ≤ 512 ∧ zeroAt r.params 2 2 = true ∧
      r.params.length = 4 + 4 * u16 r.params 0 ∧
      (∀ x ∈ gainItems r.params, x.1 ≤ 16383 ∧ gainOk x.2 = true ∧
        (∀ u ∈ s.gainOwners x.1, u = 0 ∨ r.mayWrite s u = true)) ∧
      s.locked r = false ∧ s.islandOverlay = false)
    (fun r s => s.putAll gainRecord writeGain r) ∧
  BoundaryCommand .almSetConfig 0x0605 (passes almConfigCheck) almSetConfigEffect ∧
  BoundaryCommand .almSinkFade 0x0606
    (fun r s => 1 ≤ u16 r.params 0 ∧ u16 r.params 0 ≤ 512 ∧ 16 ≤ u16 r.params 2 ∧ u16 r.params 2 ≤ 4096 ∧
      u8 r.params 4 ≤ 1 ∧ zeroAt r.params 5 3 = true ∧ r.params.length = 8 + 2 * u16 r.params 0 ∧
      (∀ a ∈ fadeSinks r.params, Node.sink a = true ∧
        (Node.objectIn a = true → inCapacity s.fab.active (0x4000 + (a - 0x9000)) = true) ∧
        (∀ u ∈ s.sinkUnits a, r.mayWrite s u = true)) ∧
      s.locked r = false ∧ s.islandOverlay = false)
    (fun r s => s.putAll sinkFadeRecord writeSinkFade r) ∧
  BoundaryCommand .almBusScale 0x0607 (passes busScaleCheck) almBusScaleEffect ∧
  BoundaryCommand .almDirectSet 0x0608 (passes directSetCheck) almDirectSetEffect ∧
  BoundaryCommand .almDirectEnable 0x0609 (passes directEnableCheck) almDirectEnableEffect ∧
  BoundaryCommand .almPlay 0x060A (passes almPlayCheck) almPlayEffect ∧
  BoundaryCommand .almPlayStop 0x060B (passes playStopCheck) almPlayStopEffect ∧
  BoundaryCommand .almTestgen 0x060C (passes testgenCheck) almTestgenEffect

/-- Objects, feeds' geometry, zones and the mesh (chapter 10). -/
def Obligations.PlanisphereCommandsComplete : Prop :=
  BoundaryCommand .objSet 0x0401 (passes objSetCheck) setObject ∧
  BoundaryCommand .objMove 0x0402 (passes moveCheck) moveObject ∧
  BoundaryCommand .objEnable 0x0403 (passes objEnableCheck) objEnableEffect ∧
  BoundaryCommand .objSetGain 0x0404 (passes objSetGainCheck) objSetGainEffect ∧
  BoundaryCommand .objSetSource 0x0405 (passes objSetSourceCheck) objSetSourceEffect ∧
  BoundaryCommand .objRenderConfig 0x0410 (passes renderConfigCheck) renderConfig ∧
  BoundaryCommand .objZoneSet 0x0412
    (fun r s => zeroAt r.params 1 3 = true ∧ zoneBad (slice r.params 4 256) = false ∧
      (∀ f ∈ Zn.feeds (slice r.params 4 256) ++ Zn.feeds (zoneBytes s (u8 r.params 0)),
        r.mayWrite s (0x5000 + f) = true) ∧ s.locked r = false)
    (fun r s => s.putAll zoneRecord writeZone r) ∧
  Defers .objMeshLoad 0x0413
    (fun r s => zeroAt r.params 12 4 = true ∧
      (u32 r.params 8 = 0 ∨ s.unmirrored r (u64 r.params 0) (u32 r.params 8) = false) ∧ s.obj.load = none)
    (fun r s => s.objMod fun t =>
      { t with load := some { req := r, addr := u64 r.params 0, len := u32 r.params 8, bank := 0 } }) ∧
  BoundaryCommand .feedSet 0x0501 (passes feedSetCheck) feedSetEffect ∧
  BoundaryCommand .feedTrim 0x0502 (passes feedTrimCheck) feedTrimEffect

/-- Banks, swaps, filters and dynamics of the feeds (chapter 11). A swap is noted, and applies by FEED_SWAP. -/
def Obligations.CorrectionCommandsComplete : Prop :=
  Finishes .corAlloc 0x0503
    (fun r s => allocBad r s = false ∧ s.corBusy r = false ∧ u32 r.params 4 / 32 = 0)
    (fun r s => s.setCorFeed r.index ((s.corFeed r.index).setBank (u8 r.params 0 == 1)
      { CorBank.reset with
        swaps := (if u8 r.params 0 == 1 then (s.corFeed r.index).bank1 else (s.corFeed r.index).bank0).swaps }))
    (fun _ _ => zeros 16) ∧
  Defers .corCompact 0x0508 (fun _ s => s.cor.compact = none)
    (fun r s => s.corMod fun c => { c with compact := some r }) ∧
  (∀ (q : Nat) (s t : State) (i : OpInfo) (r : Req), s.offer q 0x0504 = some (t, i, r) →
    zeroAt r.params 1 3 = true → u8 r.params 0 = 0xFF → t.dat.building = false →
    (t.corFeed r.index).busy = false → t.swapBarred r.index (t.numbered r).2 = false →
    t.mirrors i r = false → r.at? = none →
    exec (.corSwap q) s = .next (s.goesTo ((t.setCorFeed r.index
      { t.corFeed r.index with
        swap := some { req := some (t.numbered r).1, at_ := (t.numbered r).2, pulse := false } }).accept r))) ∧
  Finishes .corArm 0x0505
    (fun r s => zeroAt r.params 1 3 = true ∧ u8 r.params 0 ≤ 63 ∧ (s.corFeed r.index).busy = false)
    (fun r s => s.setCorFeed r.index
      { s.corFeed r.index with arm := some (u8 r.params 0, s.genOf r.target) }) noData ∧
  Finishes .corArm 0x0505 (fun r _ => zeroAt r.params 1 3 = true ∧ u8 r.params 0 = 0xFF)
    (fun r s => s.setCorFeed r.index { s.corFeed r.index with arm := none }) noData ∧
  BoundaryCommand .corBiquad 0x0510 (passes biquadCheck) corBiquadEffect ∧
  BoundaryCommand .corLimiter 0x0520 (passes limiterCheck) corLimiterEffect ∧
  BoundaryCommand .corCompressor 0x0521 (passes compressorCheck) corCompressorEffect ∧
  BoundaryCommand .corLimitDelay 0x0522 (passes limitDelayCheck) setLimitDelay

/-- Streams and serial ports (chapters 6 and 7). -/
def Obligations.StreamCommandsComplete : Prop :=
  BoundaryCommand .strBind 0x0301 (passes bindStreamCheck) bindStream ∧
  BoundaryCommand .strEnable 0x0302 (passes enableStreamCheck) strEnableEffect ∧
  BoundaryCommand .strSetMap 0x0303 (passes setMapCheck) strSetMapEffect ∧
  BoundaryCommand .strAsrcConfig 0x0305 (passes asrcCheck) configGroup ∧
  BoundaryCommand .strTdmConfig 0x0320 (passes tdmConfigCheck) configTdm ∧
  BoundaryCommand .strTdmMask 0x0321 (passes tdmMaskCheck) strTdmMaskEffect ∧
  BoundaryCommand .strAesConfig 0x0322 (passes aesCheck) strAesConfigEffect ∧
  BoundaryCommand .strWclkConfig 0x0323 (passes wclkCheck) strWclkConfigEffect ∧
  BoundaryCommand .sysFabSetMargin 0x0141 (passes marginCheck) setMargin

/-- Data, overlays and stages (chapter 13). -/
def Obligations.DatumCommandsComplete : Prop :=
  Defers .datLoad 0x0201
    (fun r s => u8 r.params 0 ≤ 1 ∧ zeroAt r.params 1 3 = true ∧ s.isReady Rdy.longStore = true ∧
      s.isReady Rdy.fieldStore = true ∧ s.dat.phase = 0)
    (fun r s => s.beginLoad (some r) (u8 r.params 0) (u64 r.params 4) (u32 r.params 12)) ∧
  Defers .datStore 0x0202
    (fun _ s => s.dat.phase = 0 ∧ s.dat.store = none ∧ s.dat.id ≠ 0 ∧
      leNat (readBytes s.mem (datumSlotBase s.dat.running + 16) 4) ≤ flashDatumSize)
    (fun r s => s.datMod fun d => { d with store := some r }) ∧
  Waits .datOvlApply 0x0211 (fun r s => s.applyFail r.index = none) ∧
  Waits .datOvlRemove 0x0212 (fun r s => s.removeFail r.index = none) ∧
  Finishes .datStage 0x0220
    (fun r s => fieldInvalid s r.target r.params = false ∧ (s.stage r.slot).length < 256)
    (fun r s => s.setStage r.slot (s.stage r.slot ++ [(r.target, r.params)])) noData ∧
  BoundaryCommand .datCommit 0x0221
    (fun r s => zeroAt r.params 2 2 = true ∧ u16 r.params 0 = (s.stage r.slot).length ∧
      s.islandCovers (s.stagePatches r.slot) = false ∧
      (∀ w ∈ s.stage r.slot, unitClass w.1 = 4 → (s.object (unitIndex w.1)).safe = false) ∧
      (∀ p ∈ s.stagePatches r.slot, (s.commitStage r.slot).keyPending p.key = false))
    (fun r s => (s.commitStage r.slot).setStage r.slot []) ∧
  Finishes .datDiscard 0x0222 anyway (fun r s => s.setStage r.slot []) noData ∧
  Finishes .datOvlStore 0x0210
    (fun r s => zeroAt r.params 12 4 = true ∧ 1 ≤ u32 r.params 8 ∧ u32 r.params 8 ≤ 16384 ∧
      oneRegion (u64 r.params 0) (u32 r.params 8) = true ∧ r.mayRead s (u64 r.params 0) (u32 r.params 8) = true ∧
      (28 ≤ u32 r.params 8 → Ov.island (s.sourceRead r (u64 r.params 0) (min (u32 r.params 8) 16384)) = false) ∧
      s.unmirrored r (u64 r.params 0) (u32 r.params 8) = false ∧ s.isReady Rdy.longStore = true ∧
      (s.ovl r.index).active = false ∧ (s.ovl r.index).waiting = false)
    (fun r s => { s.setOvl r.index { s.ovl r.index with stored := true } with
      mem := writeBytes s.mem (overlayBase r.index)
        (s.sourceRead r (u64 r.params 0) (min (u32 r.params 8) 16384)) }) noData

/-- Commands of a pair (chapter 14). -/
def Obligations.PairCommandsComplete : Prop :=
  Finishes .pairConfig 0x0B01 (passes pairConfigCheck) setPairConfig noData ∧
  Defers .pairHandover 0x0B02
    (fun _ s => s.pair.state = .foresight ∧ s.peerTakes = true ∧ s.pair.handover = none)
    (fun r s =>
      let h := r.at?.getD (s.boundaryAfterUs s.leadUs)
      (s.pairMod fun p => { p with handover := some { h := h, req := some r, acked := false } }).sendRole 4 0 h
        s.pair.state.code s.dat.id) ∧
  Defers .pairPeerLoad 0x0B03
    (fun r s => s.pair.state = .foresight ∧ zeroAt r.params 12 4 = true ∧ u32 r.params 8 ≠ 0 ∧
      oneRegion (u64 r.params 0) (u32 r.params 8) = true ∧
      (inHostMemory (u64 r.params 0) (u32 r.params 8) = true ∨
        mirroredAddr (u64 r.params 0) = true ∧ mirroredAddr (u64 r.params 0 + u32 r.params 8 - 1) = true) ∧
      r.mayRead s (u64 r.params 0) (u32 r.params 8) = true ∧ s.pair.settled = true ∧ s.pair.peerLoad = false ∧
      s.dat.phase = 0)
    (fun r s => s.sendPeerLoad r) ∧
  Finishes .pairLeave 0x0B04 anyway (fun _ s => s.leavePair) noData ∧
  Finishes .pairRejoin 0x0B05 (fun _ s => s.pair.state = .seeking ∨ s.pair.state = .isolated)
    (fun _ s => s.requestJoin) noData

/-- Queries of the island, once it is ready (chapter 12). -/
def Obligations.IslandQueriesComplete : Prop :=
  Finishes .safStatus 0x0A00 (fun _ s => s.saf.ready = true) unchanged (fun _ s => safStatusData s) ∧
  Finishes .safInputs 0x0A01 (fun _ s => s.saf.ready = true) unchanged (fun _ s => safInputsData s) ∧
  Finishes .safMsgList 0x0A0A (fun _ s => s.saf.ready = true) unchanged
    (fun _ s => readBytes s.mem 0x40000000 2048) ∧
  Finishes .safCfgRead 0x0A05
    (fun r s => s.saf.ready = true ∧ 1 ≤ u16 r.params 0 ∧ u16 r.params 0 ≤ 9 ∧ u8 r.params 2 ≤ 1 ∧
      u8 r.params 3 = 0) unchanged
    (fun r s => readSection (if u8 r.params 2 = 1 then s.saf.staged else s.saf.cfg) (u16 r.params 0)) ∧
  Finishes .safLogRead 0x0A0B
    (fun r s => s.saf.ready = true ∧ u8 r.params 0 ≤ 1 ∧ u8 r.params 1 = 0 ∧ 1 ≤ u16 r.params 2 ∧
      u16 r.params 2 ≤ 64 ∧ u32 r.params 4 ≤ 65535) unchanged
    (fun r s => (((if u8 r.params 0 = 0 then s.saf.log else s.saf.flashLog).filter fun e =>
        decide ((e.lseq + 65536 - u32 r.params 4) % 65536 < 32768)).take (u16 r.params 2)).flatMap
          SafLogEntry.bytes) ∧
  Finishes .safLines 0x0A0C (fun r s => s.saf.ready = true ∧ u16 r.params 0 ≤ 127 ∧ u16 r.params 2 = 0) unchanged
    (fun r s => ((List.range s.saf.lineEntries.length).drop (u16 r.params 0)).flatMap (lineData s))

/-- Commands of the island, once it is ready (chapter 12). -/
def Obligations.IslandCommandsComplete : Prop :=
  Finishes .safActivate 0x0A02
    (fun r s => s.saf.ready = true ∧ r.origin = .host ∧ u8 r.params 0 ≤ 63 ∧ u8 r.params 1 ≤ 1 ∧
      u16 r.params 2 = 0 ∧ SafCfg.reqUsed (s.saf.reqEntry (u8 r.params 0)) = true)
    (fun r s => (s.changeReq (u8 r.params 0) 3 fun q => { q with command := u8 r.params 1 == 1 }).safRefresh)
    noData ∧
  Finishes .safReset 0x0A03
    (fun r s => s.saf.ready = true ∧ r.origin = .host ∧ (u8 r.params 0 ≤ 63 ∨ u8 r.params 0 = 0xFF) ∧
      zeroAt r.params 1 3 = true)
    (fun r s => ((if u8 r.params 0 = 0xFF then List.range 64 else [u8 r.params 0]).foldl
      (fun s r => s.releaseLatch 3 r) s).safRefresh) noData ∧
  Finishes .safHeartbeat 0x0A04 (fun r s => s.saf.ready = true ∧ r.slot = SafCfg.supSlot s.saf.general)
    (fun _ s => (s.safMod fun x => { x with hostLast := s.time.elapsed }).beatBack 2) noData ∧
  Finishes .safCfgWrite 0x0A06
    (fun r s => s.saf.ready = true ∧ r.params.length = 4 + u16 r.params 2 ∧ s.safetyLocked r = false ∧
      1 ≤ u16 r.params 0 ∧ u16 r.params 0 ≤ 9)
    (fun r s => s.safMod fun x => { x with
      staged := putSection (sectKey (u16 r.params 0) (r.params.drop 4)) (r.params.drop 4) x.staged }) noData ∧
  (∀ (q : Nat) (s t : State) (i : OpInfo) (r : Req), s.offer q 0x0A07 = some (t, i, r) → t.saf.ready = true →
    t.safetyLocked r = false → u8 r.params 0 = 0 → zeroAt r.params 1 3 = true →
    t.recordGood t.saf.merged = true → t.saf.activeReqs = [] → t.mirrors i r = false →
    exec (.safCfgCommit q) s = .next (s.goesTo
      (((((t.applyRecord t.saf.merged (nextCfgId t.saf.cfgId) true).islandEvent 0x0E09 Sev.notice
          (le 8 (nextCfgId t.saf.cfgId))).accept r).reply r Status.accepted [] false).finish r Status.ok
            (le 8 (nextCfgId t.saf.cfgId))))) ∧
  (∀ (q : Nat) (s t : State) (i : OpInfo) (r : Req) (at_ len : Nat), s.offer q 0x0A08 = some (t, i, r) →
    t.saf.ready = true → t.safetyLocked r = false → u8 r.params 0 ≤ 63 → u8 r.params 1 ≤ 3 →
    u16 r.params 2 = 0 → u32 r.params 12 ≠ 0 →
    (bitOf (u8 r.params 1) 0 = true ∨ r.mayRead t (u64 r.params 4) (u32 r.params 12) = true ∧
      t.unmirrored r (u64 r.params 4) (u32 r.params 12) = false) →
    t.saf.load = none → t.saf.playing (u8 r.params 0) = false →
    (libraryRuns 0 (t.heldRuns (u8 r.params 0))).find? (fun x => decide (u32 r.params 12 ≤ x.2)) = some (at_, len) →
    t.mirrors i r = false →
    exec (.safMsgLoad q) s = .next (s.goesTo
      (((((t.putMsgEntry (u8 r.params 0) at_ (u32 r.params 12) 1 []).safMod fun x => { x with
        load := some { msg := u8 r.params 0, persist := bitOf (u8 r.params 1) 1, flash := bitOf (u8 r.params 1) 0
                       src := u64 r.params 4, len := u32 r.params 12, offset := at_, req := r } }).accept r).reply
          r Status.accepted [] false)))) ∧
  Finishes .safMsgDelete 0x0A09
    (fun r s => s.saf.ready = true ∧ s.safetyLocked r = false ∧ u8 r.params 0 ≤ 63 ∧ u8 r.params 1 = 0 ∧
      u16 r.params 2 = 0 ∧ s.saf.playing (u8 r.params 0) = false ∧ s.saf.load = none)
    (fun r s => { s with
      mem := writeBytes s.mem (0x40000000 + 32 * u8 r.params 0) (zeros 32) }.judgeBadMessages (u8 r.params 0))
    noData

/-- A packet of SAF_SVC_SET_KEY from a host slot is no opcode (R543); on the service port it sets the key (R537). -/
def Obligations.ServiceKeyCompletes : Prop :=
  (∀ (q : Nat) (s : State),
    let u := s.dropMarkers q 2
    let o := (u.waitingOrder q).getD (u.host.takeCount + 1)
    let p := u.headBytes q
    let r := parseReq q o p
    let t := u.afterPacket q o
    q < 32 → s.takesCommands (q / 4) = true → (u.headPacket q).length ≠ 0 → u16 (u.headBytes q) 4 = 0x0A10 →
    bitOf (u16 (u.headBytes q) 6) 1 = false → packetCheck p (u.headPacket q).length = none →
    u8 p 0 = 3 → u8 p 1 = r.slot → u16 p 14 = 0 → r.flags < 16 → t.seqFollows r = true →
    (t.slot r.slot).frozen = false →
    exec (.safSvcSetKey q) s = .next (s.goesTo (t.reply r Status.badOpcode [] false))) ∧
  (∀ (d : List Byte) (s : State) (i : OpInfo),
    let t := s.safMod fun x => { x with svcFloor := u32 d 4 }
    let p := (d.take (d.length - 32)).drop 12
    s.saf.ready = true → 64 ≤ d.length → s.saf.tagOk d = true → u8 d 0 = 2 → u8 d 1 < 4 → u16 d 2 = 0 →
    u32 d 8 = s.saf.bootCount → s.saf.svcFloor < u32 d 4 →
    packetCheck p ((20 + u16 p 12 + 63) / 64) = none → p.length = 20 + u16 p 12 → (serviceReq p).op = 0x0A10 →
    serviceInfo 0x0A10 = some i → serviceFail t i (serviceReq p) p = none →
    exec (.servicePacketWrite d) s = .next (s.goesTo
      ((t.safMod fun x => { x with key := some (serviceReq p).params }).finish (serviceReq p) Status.ok [])))

/-- Accesses of a host to its apertures and registers (chapter 3). -/
def Obligations.PortAccessesComplete : Prop :=
  (∀ (slot off q : Nat) (d : List Byte) (s : State), slot < 6 → off < 65536 → pushAperture slot off = some q →
    off % 64 = 0 → d.length = 64 →
    exec (.cellPushWrite slot off d) s = .next (s.goesTo (s.qop q (some (.push d)) false).1)) ∧
  (∀ (slot off q : Nat) (s : State), slot < 6 → off < 65536 → popAperture slot off = some q → off % 64 = 0 →
    exec (.cellPopRead slot off 64) s = .next (s.goesTo ((s.qop q none true).1.setRead slot
      (((s.qop q none true).2.map (·.data)).getD (zeros 64))))) ∧
  (∀ (slot q : Nat) (s : State), slot < 6 → q < 256 → (s.slot slot).frozen = false → s.ownsQueue slot q = true →
    s.produces slot q = true →
    exec (.queueCommit slot q) s = .next (s.goesTo (s.qop q (some .commit) false).1)) ∧
  (∀ (slot q : Nat) (s : State), slot < 6 → q < 256 → (s.slot slot).frozen = false → s.ownsQueue slot q = true →
    s.produces slot q = true →
    exec (.queueAbort slot q) s = .next (s.goesTo (s.qop q (some .abort) false).1)) ∧
  (∀ (slot q : Nat) (s : State), slot < 6 → q < 256 → (s.slot slot).frozen = false → s.ownsQueue slot q = true →
    exec (.queueReset slot q) s = .next (s.goesTo (s.qop q (some .reset) false).1)) ∧
  (∀ (slot : Nat) (s : State), slot < 6 → (s.slot slot).frozen = false →
    exec (.snapshotTake slot) s = .next (s.goesTo (s.takeSnapshot slot))) ∧
  (∀ (slot off : Nat) (s : State), slot < 6 → off < 0x8000 →
    exec (.rcCounterRead slot off) s = .next (s.goesTo ((s.clearRc off).setRead slot (le 4 (readReg s slot off))))) ∧
  (∀ (slot off : Nat) (v : Word) (s : State), slot < 6 → slot = s.host.privSlot → (s.slot slot).frozen = false →
    0x4000 ≤ off → off < 0x4100 → off % 4 = 0 →
    exec (.stickyFaultClear slot off v) s = .next (s.goesTo { s with sticky := s.sticky.w1c off v })) ∧
  (∀ (slot c o : Nat) (v : Word) (s : State), slot < 6 → c < 32 → o < 32 → o % 4 = 0 →
    (s.slot slot).frozen = false → (s.chan c).owner = slot →
    exec (.registerWrite slot (0x2000 + 32 * c + o) v) s =
      .next (s.goesTo (s.modChan c fun x => x.write o v.toNat))) ∧
  (∀ (slot : Nat) (s : State), slot < 4 →
    exec (.functionLevelReset slot) s = .next (s.goesTo (s.functionReset slot))) ∧
  (∀ s : State, exec .perstNAssert s =
    .next (s.goesTo ((((s.functionReset 0).functionReset 1).functionReset 2).functionReset 3)))

/-- A datagram whose HMAC, boot count and sequence are good delivers its packet to the slot's queue (R71-R74). -/
def Obligations.DatagramCompletes : Prop :=
  ∀ (ipver : Nat) (addr : List Byte) (sport i : Nat) (d : List Byte) (s : State),
    s.udpSlot ipver addr sport = some i → (s.slot i).frozen = false → 44 ≤ d.length →
    d.drop (d.length - 32) = Machine.hmacSha256 (s.slot i).udp.key (d.take (d.length - 32)) → u8 d 0 = 1 →
    u8 d 1 < 4 → u16 d 2 = 0 → u32 d 8 = s.host.bootCount → (s.slot i).udp.floor < u32 d 4 →
    exec (.udpDatagramReceive ipver addr sport false d) s = .next (s.goesTo
      ((s.modSlot i fun x => { x with udp := { x.udp with floor := u32 d 4, lastPort := sport } }).pushPacket
        (4 * i + u8 d 1) ((d.take (d.length - 32)).drop 12)))

/-- A level held for the debounce time is taken, and a timed pulse ends (the GPIO rules of chapter 2). -/
def Obligations.PinsComplete : Prop :=
  (∀ (pin : Nat) (high : Bool) (s : State), pin < 32 → (s.pin pin).mode = 1 → (s.pin pin).primed = true →
    (s.pin pin).taken = !high → s.pair.fenced = false →
    exec (.gpioLevelTaken pin high) s = .next (s.goesTo (s.setPin pin
      { s.pin pin with taken := high, edges := satAdd 0xFFFFFFFF (s.pin pin).edges 1 }))) ∧
  (∀ (pin t : Nat) (s : State), pin < 32 → (s.pin pin).mode = 3 → (s.pin pin).pulseEnd = some t →
    t ≤ s.time.elapsed →
    exec (.gpioPulseEnd pin) s = .next (s.goesTo (s.setPin pin
      { s.pin pin with out := false, pulseEnd := none })))

/-- Channels of the traverse engine (chapter 3): doorbells, the grant, the fetch of a station, its end, and the ways
a transfer breaks off. -/
def Obligations.ChannelsComplete : Prop :=
  (∀ (who ch : Nat) (s : State), who < 6 → ch < 32 → (s.slot who).frozen = false → (s.chan ch).owner = who →
    exec (.channelStart who ch) s = .next (s.goesTo (s.modChan ch fun x => x.doorbell 1)) ∧
    exec (.channelExtend who ch) s = .next (s.goesTo (s.modChan ch fun x => x.doorbell 2)) ∧
    exec (.channelStop who ch) s = .next (s.goesTo (s.modChan ch fun x => x.doorbell 4))) ∧
  (∀ (c : Nat) (s : State), s.trav.busy = none → s.firstWaiting (grantOrder s.trav.lastGrant 0 32) = some c →
    exec (.channelGrant false) s = .next (s.goesTo
      (({ s with trav := { s.trav with busy := some c, lastGrant := some c } }).modChan c fun x =>
        { x with state := .fetch }))) ∧
  (∀ (c : Nat) (s : State), s.trav.busyL = none → s.firstWaiting (grantOrder s.trav.lastGrantL 32 4) = some c →
    exec (.channelGrant true) s = .next (s.goesTo
      (({ s with trav := { s.trav with busyL := some c, lastGrantL := some c } }).modChan c fun x =>
        { x with state := .fetch }))) ∧
  (∀ (ch : Nat) (s : State),
    let x := s.chan ch
    let a := x.tbase + x.nextFetch
    ch < 36 → x.state = .fetch → x.reread = false → x.station = none → x.nextFetch % 32 = 0 →
    ownerMay s ch false a 32 = true → busFault s ch false a 32 = 0 →
    exec (.stationFetch ch) s = .next (s.goesTo
      ((s.modChan ch fun y => { y with current := x.nextFetch, extPending := false }).judgeStation ch
        (parseStation x.nextFetch s.time.elapsed (s.chanRead ch a 32))))) ∧
  (∀ (ch : Nat) (st : Station) (d : List Byte) (s : State), ch < 36 → (s.chan ch).station = some st →
    st.result = none → (s.chan ch).frozen = false → (s.chan ch).thawed = false →
    exec (.stationComplete ch d) s = .next (s.goesTo (s.complete ch st (runStation s ch st d st.length 0)))) ∧
  (∀ (ch : Nat) (s : State),
    let x := s.chan ch
    let a := x.tbase + x.current
    ch < 36 → x.state = .fetch → x.reread = true → x.holdAfter = false → ownerMay s ch false a 4 = true →
    busFault s ch false a 4 = 0 → bitOf (leNat (s.chanRead ch a 4)) 31 = true →
    exec (.controlWordReread ch) s = .next (s.goesTo (s.settleChan ch
      { x with reread := false, extPending := false, lastLast := true, state := .parked }))) ∧
  (∀ (ch code moved : Nat) (st : Station) (s : State), ch < 36 → (s.chan ch).station = some st →
    st.result = none → (s.chan ch).frozen = false → (s.chan ch).thawed = false →
    (1 ≤ code → code ≤ 4 → code ≠ Bus.ecc → exec (.dataBeatBusError ch code moved) s =
      .next (s.goesTo (s.complete ch st (runStation s ch st [] moved code)))) ∧
    exec (.deviceTargetTimeout ch moved) s =
      .next (s.goesTo (s.complete ch st (runStation s ch st [] moved Bus.timeout))) ∧
    (readsHost (s.chan ch) moved = true → exec (.pcieCompletionTimeout ch moved) s =
      .next (s.goesTo (s.complete ch st (runStation s ch st [] moved Bus.timeout))))) ∧
  (∀ (ch : Nat) (st : Station) (s : State), ch < 36 → s.periphStation ch = some st →
    (s.chan ch).station = some st → st.result = none → (s.chan ch).frozen = false → (s.chan ch).thawed = false →
    st.start + milli ≤ s.time.elapsed → exec (.peripheralRequestTimeout ch) s =
      .next (s.goesTo (s.complete ch st (runStation s ch st [] 0 Bus.timeout)))) ∧
  (∀ (ch taken : Nat) (d : List Byte) (st : Station) (s : State), ch < 36 → s.periphStation ch = some st →
    exec (.peripheralWithdraw ch d taken) s = .next (s.goesTo (s.withdraw ch d taken true)) ∧
    exec (.peripheralReturnTimeout ch d taken) s = .next (s.goesTo (s.withdraw ch d taken false)))

/-- Time, launch slots and references (chapter 4). -/
def Obligations.ReferencesComplete : Prop :=
  (∀ s : State, s.time.running = false → s.sys.inReset = false → s.sys.releaseAt + 20 * milli ≤ s.time.elapsed →
    exec .timeStart s = .next (s.goesTo
      (({ s with time := { s.time with running := true, now := DevTime.zero } }).setReady Rdy.time true))) ∧
  (∀ s : State, s.time.slewLeft = 0 →
    exec .slewEnd s = .next (s.goesTo (s.timeMod fun t => { t with inc := t.baseInc }))) ∧
  (∀ (k : Nat) (s : State),
    let x := s.launch k
    k < 64 → x.due s.time.now.nanos = 1 → x.period = 0 →
    x.fires 1 (s.time.now.nanos - (x.sec * second + x.ns)) (s.lateTolerance 4) = true →
    exec (.launchSlotFire k) s = .next (s.goesTo ((s.setLaunch k
      { x with armed := false, left := x.left.map (· - 1), firings := x.firings + 1 }).pulse (x.line.getD 0)))) ∧
  (∀ (l : Nat) (s : State), l < 6 → hasEdges l (s.loop l) = true →
    exec (.referenceGlitch l) s = .next (s.goesTo
      (s.modLoop l fun x => { x with glitches := satAdd 0xFFFFFFFF x.glitches 1 })) ∧
    (followsReference (s.loop l) = true → exec (.referenceRateChange l) s = .next (s.goesTo
      ((s.coast l 2).modLoop l fun x => { x with measuring := true }))) ∧
    (l ≠ 0 → followsReference (s.loop l) = false → exec (.referenceStop l) s = .next (s.goesTo
      (s.modLoop l fun x => { x with measuring := false })))) ∧
  (∀ (l mhz : Nat) (s : State), l < 6 → (s.loop l).measuring = true → bitOf (s.loop l).cfg.lflags 0 = false →
    exec (.rateMeasureDone l mhz) s = .next (s.goesTo
      ((s.modLoop l fun x => { x with measuring := false }).loopEvent 0x0704 Sev.warning l
        (zeros 3 ++ leI 4 (sat32 (ppmOffset mhz (nominalHz l (s.loop l)))))))) ∧
  (∀ (l : Nat) (err : Int) (s : State), l < 6 →
    ((s.loop l).state = .coast ∨ (s.loop l).state = .holdover) → l ≠ 1 → l ≠ 2 →
    exec (.referenceReturn l err) s = .next (s.goesTo
      ((((s.modLoop l fun x => { x with phaseErr := err }).enterLoop l .locked).domainBack l).loopsJudged)))

/-- The states of the media loops (chapter 4). -/
def Obligations.LoopsComplete : Prop :=
  (∀ (l : Nat) (s : State), l < 6 → (s.sys.inReset = false ∨ l = 5) →
    exec (.loopLock l) s = .next (s.goesTo (((s.loopLocks l).domainBack l).loopsJudged))) ∧
  (∀ (l : Nat) (s : State), l < 6 → followsReference (s.loop l) = true →
    exec (.loopLockLoss l) s = .next (s.goesTo ((s.coast l 3).loopsJudged))) ∧
  (∀ (l : Nat) (sec : Bool) (s : State), l < 5 → (s.loop l).state = .coast →
    (s.loop l).coastFrom + (s.loop l).cfg.coastMs * milli ≤ s.time.elapsed →
    exec (.coastWindowExpire l sec) s = .next (s.goesTo (s.coastExpires l sec).loopsJudged)) ∧
  (∀ (l band centre : Nat) (s : State), l < 6 → (l = 1 ∨ l = 2) →
    ((s.loop l).state = .search → exec (.bandSearchDone l band centre) s = .next (s.goesTo
      ((s.setLoop l (learnResult (s.loop l) (s.loop l).cfg band centre)).enterLoop l .acquire))) ∧
    ((s.loop l).state = .hop → exec (.bandSearchDone l band centre) s = .next (s.goesTo (s.enterLoop l .acquire)))) ∧
  (∀ (l : Nat) (s : State), l < 6 → (s.loop l).state = .search → (s.loop l).since + 10 * milli ≤ s.time.elapsed →
    exec (.searchTimeout l) s = .next (s.goesTo ((s.enterLoop l .off).loopEvent 0x0703 Sev.error l (le 1 2)))) ∧
  (∀ (l i band centre : Nat) (c : LoopCfg) (r : Req) (s : State), l < 6 → (s.loop l).learn = some (i, c, r) →
    exec (.hopLearnDone l false band centre) s = .next (s.goesTo
      ((s.modLoop l fun x => { x with learn := none }).finish r Status.timeout []))) ∧
  (∀ (l b : Nat) (e : Int) (s : State), l < 6 → (s.loop l).realign = some (b, e) → b ≤ s.time.ri →
    l ≠ s.time.render → exec (.realignBoundary l) s = .next (s.goesTo
      (s.modLoop l fun x => { x with realign := none, phaseErr := 0, fade := Fade.start 64 }))) ∧
  (∀ s : State, s.time.withheld = true → s.time.lastUsed < s.floorTr →
    exec .realignTickResume s = .next (s.goesTo
      ((s.timeMod fun t => { t.atRi ((t.lastUsed / s.blockLen + 1) * s.blockLen) with
        withheld := false }).anchorIfMoved s.time.ri))) ∧
  (∀ (l : Nat) (s : State), l < 6 → (s.loop l).state = .realign → (s.loop l).realign = none →
    (s.loop l).realignReq = none → exec (.realignFadeInDone l) s = .next (s.goesTo
      ((s.modLoop l fun x => { x with realignReq := none }).enterLoop l .locked)))

/-- What a port sends, and when it rests (chapter 5). -/
def Obligations.TransmissionCompletes : Prop :=
  (∀ (p k : Nat) (s : State), p < 5 → p ≠ 3 → (s.port p).link = true → (s.port p).lpi = false →
    ((s.settleCredit p).judgeHeads p).nextQueue p = some k →
    exec (.frameTransmit p) s = .next (s.goesTo (((s.settleCredit p).judgeHeads p).sendHead p k))) ∧
  (∀ (p k : Nat) (s : State), p < 5 → k < 7 → s.pausedQueue p k = false →
    exec (.txFrameAtHead p k) s = .next (s.goesTo
      (((s.settleCredit p).judgeHead p k false ((s.txQueue p k).length + 1)).sendIfNext p k))) ∧
  (∀ (p k : Nat) (f : TxFrame) (rest : List TxFrame) (s : State), p < 5 → k < 7 → s.txQueue p k = f :: rest →
    f.held = true → exec (.frameLaunch p k) s = .next (s.goesTo ((s.settleCredit p).sendIfNext p k))) ∧
  (∀ (p t : Nat) (s : State), p < 5 → (s.port p).pauseEnd = some t → t ≤ s.time.elapsed →
    exec (.pauseExpire p) s = .next (s.goesTo ((List.range 7).foldl
      (fun s k => s.judgeHead p k true ((s.txQueue p k).length + 1))
      (s.modPort p fun x => { x with pauseEnd := none })))) ∧
  (∀ (p : Nat) (s : State), p < 3 → (s.port p).lpi = false → s.mayIdle p (!s.overridden p) = true →
    s.packetsFar p = true → exec (.lpiEnter p) s = .next (s.goesTo
      ((s.modPort p fun x => { x with lpi := true }).countPort p Ctr.lpiEntries 1)))

/-- The margin, the voltage loop, shedding and partitions (chapter 8). -/
def Obligations.FabricEventsComplete : Prop :=
  (∀ s : State, 64 ≤ s.fab.ample → s.fab.shed = 0 → exec .vcodeFall s = .next (s.goesTo
    ((s.setVcode (max s.fab.floor (s.fab.vcode - 1))).fabMod fun f => { f with ample := 0 }))) ∧
  (∀ s : State, 8 ≤ s.fab.short → s.fab.shed < s.fab.shedMax → exec .shedRise s = .next (s.goesTo
    ((s.fabMod fun f => { f with shed := f.shed + 1, short := 0 }).event 0x0141 Sev.warning 0x01 0x0000
      (le 1 (s.fab.shed + 1) ++ zeros 3 ++ le 4 ((s.fab.shed + 1) * s.classFour / 16))))) ∧
  (∀ s : State, 256 ≤ s.fab.shedAmple → exec .shedFall s = .next (s.goesTo
    (s.fabMod fun f => { f with shed := f.shed - 1, shedAmple := 0 }))) ∧
  (∀ (t : Nat) (s : State), s.fab.vtarget = some t → exec .vcodeRampStep s = .next (s.goesTo
    (s.setVcode (if s.fab.vcode < t then s.fab.vcode + 1 else s.fab.vcode - 1)).aimVcode.noteReady)) ∧
  (∀ (mv t : Nat) (s : State), s.fab.readback = some t →
    exec (.vddReadbackCheck false mv) s = .next (s.goesTo (s.vddFault 1 mv)) ∧
    (t + milli ≤ s.time.elapsed → mvOff s.fab.vcode mv = true →
      exec (.vddReadbackCheck true mv) s = .next (s.goesTo (s.vddFault 2 mv))) ∧
    (t + milli ≤ s.time.elapsed → mvOff s.fab.vcode mv = false →
      exec (.vddReadbackCheck true mv) s = .next (s.goesTo (s.fabMod fun f => { f with readback := none })))) ∧
  (∀ (mv : Nat) (s : State), mvOff s.fab.vcode mv = true →
    exec (.pmAlert mv) s = .next (s.goesTo (s.vddFault 2 mv))) ∧
  (∀ (n : Nat) (s : State), n < 16 → s.fab.powered.getLsbD n = true → exec (.partitionUsable n) s =
    .next (s.goesTo (s.fabMod fun f => { f with usable := setBit f.usable n true }).noteReady)) ∧
  (∀ (b : Nat) (m : Word) (s : State), s.fab.gateDue = some (b, m) → b ≤ s.time.ri → exec .partitionGate s =
    .next (s.goesTo (s.fabMod fun f => { f with gateDue := none }).gateParts)) ∧
  (∀ (p : Nat) (s : State), s.fab.pend = some p → s.dat.phase ≠ 3 → s.isReady Rdy.fabric = true →
    s.changeAt p s.time.ri = true → exec .profileChangeApply s = .next (s.goesTo (s.takeProfile p true)))

/-- A block tick and a direct tick (R32, R340-R343, R359, R403): the block presented joins the record, work left
unfinished is marked and judged, the inputs are captured, the finished block is released and the captured one
taken, and the boundary's judgements follow. -/
def Obligations.TicksComplete : Prop :=
  (∀ (t : TickIn) (s : State), s.noBlocks = false →
    let base := s.time.ri
    let n := s.blockLen
    let a := ((s.finishBlock base n).abandon t (base + n)).judgeBlock t
      ((s.alm.flight.head?.map Flight.ri).getD base)
    let b := t.ecc.foldl (fun s e => s.eccError e.2 e.1) a
    let c := b.capture base n t.inputs
    let d := c.1.releaseBlock (b.liveSource t.inputs c.2.2) n (base + n)
    exec (.blockTick t) s = .next (s.goesTo
      (((if d.isReady Rdy.fabric then d.takeBlock c.2.1 base n else d).enterBlock (base + n)).boundaryPassed t n))) ∧
  (∀ (missed : Bool) (ins : List (Nat × List Int)) (s : State), s.noBlocks = false → s.alm.quarter < s.blockLen →
    s.isReady Rdy.fabric = true →
    exec (.directTick missed ins) s = .next (s.goesTo (s.directTick missed ins)))

/-- Reset, start and the self-tests (chapter 15). -/
def Obligations.StartCompletes : Prop :=
  (∀ (t : List Int) (s : State), s.sys.hot = false → s.sys.inReset = false → hottest t ≤ 500 →
    exec (.thermalRead t) s = .next (s.goesTo (s.readSensors t))) ∧
  (∀ (t : List Int) (s : State), s.sys.hot = false → s.sys.inReset = false → 500 < hottest t →
    exec (.thermalRead t) s = .next (s.goesTo ((s.mainReset 4).sysMod fun x => { x with hot := true }))) ∧
  (∀ s : State, exec .mainSupplyLoss s =
    .next (s.goesTo ((s.mainReset 1).sysMod fun x => { x with resetLow := true, hot := false }))) ∧
  (∀ s : State, s.sys.inReset = false → exec .resetNAssert s =
    .next (s.goesTo ((s.mainReset 2).sysMod fun x => { x with resetLow := true }))) ∧
  (∀ (boot : Nat) (pair : Bool) (s : State), boot < 8 → s.sys.inReset = true → s.sys.hot = false →
    exec (.resetNRelease boot pair) s = .next (s.goesTo
      ((s.sysMod fun x => { x with resetLow := false, bootPins := boot, pairPin := pair }).released boot pair))) ∧
  (∀ (boot t : Nat) (pair : Bool) (s : State), boot < 8 → s.sys.resetDue = some t → t ≤ s.time.elapsed →
    s.sys.inReset = false →
    exec (.commandReset boot pair) s = .next (s.goesTo ((s.mainReset 3).released boot pair))) ∧
  (∀ s : State, s.sys.inReset = false → s.isReady Rdy.fieldStore = false →
    exec (.fieldStoreSelftestDone true) s = .next (s.goesTo
      (({ s with mem := s.mem.filter fun x => !isField x.1 }).setReady Rdy.fieldStore true)) ∧
    exec (.fieldStoreSelftestDone false) s = .next (s.goesTo (s.markMemory 4))) ∧
  (∀ s : State, s.sys.inReset = false → s.isReady Rdy.longStore = false →
    exec (.longStoreTrained true) s = .next (s.goesTo (s.setReady Rdy.longStore true)) ∧
    exec (.longStoreTrained false) s = .next (s.goesTo (s.markMemory 5))) ∧
  (∀ s : State, s.sys.inReset = false → s.isReady Rdy.fabric = false → s.fab.failed = 0 →
    let w : Word := BitVec.ofNat 32 (profPowered s.fab.active) ||| 1
    exec (.fabricSelftestDone 0) s = .next (s.goesTo
      (((s.fabMod fun f => { f with
        powered := w, usable := w, ceil := f.ceilNow, floor := bandFloor (profBand f.active) }).setReady
          Rdy.fabric true).setReady Rdy.dynamics true).aimVcode))

/-- The ROM, the firmware's trial and the control cluster's restarts (chapter 15). -/
def Obligations.FirmwareEventsComplete : Prop :=
  (∀ (k : Nat) (s : State), s.sys.inReset = false → s.sys.booted = false → s.sys.recovery = false →
    s.sys.halted = false → s.sys.bootPins ≠ 4 →
    let t := (s.sysMod fun x => { x with keyBoot := s.host.bootCount })
    (t.noteFailed t.romFailed).romChoice = some k →
    exec .firmwareBoot s = .next (s.goesTo ((t.noteFailed t.romFailed).firstBoot k t.romFailed))) ∧
  (∀ s : State, s.sys.running = true →
    exec .clusterWatchdogExpire s = .next (s.goesTo (s.clusterRestart 0x10)) ∧
    exec .firmwareFatalError s = .next (s.goesTo (s.clusterRestart 0x13))) ∧
  (∀ (k : Nat) (s : State), s.sys.inReset = false → s.sys.booted = true → s.sys.running = false →
    s.sys.recovery = false → s.sys.halted = false → (s.noteFailed s.romFailed).romChoice = some k →
    exec .clusterReady s = .next (s.goesTo ((s.noteFailed s.romFailed).clusterBack k s.romFailed))) ∧
  (∀ (j : StageJob) (s : State),
    let t := s.sysMod fun x => { x with stage := none }
    s.sys.stage = some j → t.stageFail j = none → s.sys.recovery = false →
    (t.placeImage j.image).sys.recovery = false →
    exec .fwStageDone s = .next (s.goesTo ((t.placeImage j.image).finish j.req Status.ok
      (zeros 1 ++ (le 1 (Fw.target j.image) ++ zeros 2 ++ le 4 (Fw.version j.image)))))) ∧
  (∀ (t : Trial) (s : State), s.sys.trial = some t → t.auto = true → s.sys.running = true →
    s.sys.clusterAt + 60 * second ≤ s.time.elapsed →
    exec .trialAutoConfirm s = .next (s.goesTo s.confirmTrial)) ∧
  (∀ (t : Trial) (s : State), s.sys.trial = some t → t.auto = false → s.sys.running = true →
    t.from_ + 600 * second ≤ s.time.elapsed →
    exec .trialTimeout s = .next (s.goesTo
      ((((s.settleBoot s.verifiedBank).markFirmware 2).sysMod fun x =>
        { x with trial := none, reverted := some 0x14 }).clusterRestart 0x14))) ∧
  (∀ (g : Nat) (b : List Byte) (r : Req) (s : State), s.otp.job = some (g, b, r) →
    exec (.otpProgramDone 0) s = .next (s.goesTo
      (((({ s with otp := { s.otp with job := none } }).setGen g { state := .valid, record := b }).event 0x0C01
        Sev.notice 0x0C 0x0000 (le 1 g)).finish r Status.ok (le 1 g ++ zeros 3))) ∧
    exec (.otpProgramDone 3) s = .next (s.goesTo
      (((({ s with otp := { s.otp with job := none } }).setGen g { state := .spent, record := b }).event 0x0C02
        Sev.error 0x0C 0x0000 (le 1 g ++ le 1 3)).finish r Status.internal (le 1 g ++ zeros 3))))

/-- Programs, gains, players and direct lanes at work (chapter 9). -/
def Obligations.AlmanacEventsComplete : Prop :=
  (∀ (x : AlmSwap) (g : Prog) (s : State), s.alm.swap = some x → x.running = false → x.at_ ≤ s.time.ri →
    s.progOf s.idleBank = some g → checkCapacity s.fab.active g = none →
    exec .programSwap s = .next (s.goesTo (s.startSwap x g))) ∧
  (∀ (x : AlmSwap) (s : State), s.alm.swap = some x → x.running = true → x.at_ + x.window ≤ s.time.ri →
    exec .swapCrossfadeEnd s = .next (s.goesTo
      ((s.corMod fun c => c.dropShadow (((s.runningProg.getD Prog.empty).bus).map (·.1))).almMod fun t =>
        { t with prog := t.progNew, progNew := ProgState.reset, swap := none }))) ∧
  (∀ (f : Fetch) (s : State),
    let img := s.sourceRead f.req f.addr (min f.len 524288)
    s.alm.load = some f → f.req.mayRead s f.addr f.len = true → f.len ≠ 0 → f.len ≤ 524288 →
    imageSource f.addr f.len = true → programCheck (s.almMod fun t => { t with load := none }) img = none →
    exec .almLoadDone s = .next (s.goesTo
      (((s.almMod fun t => { t with load := none }).setAlmBank f.bank { state := 2, image := img }).finish f.req
        Status.ok (zeros 8)))) ∧
  (∀ (reg : Nat) (x : Int) (s : State), reg < 16384 →
    exec (.gainStep reg x) s =
      .next (s.goesTo (s.setGainReg reg ((s.gainReg reg).sample s.stepTimeout x)))) ∧
  (∀ (reg : Nat) (s : State), reg < 16384 → (s.gainReg reg).pendingStep = true →
    s.stepTimeout ≤ (s.gainReg reg).armed →
    exec (.gainStepTimeout reg) s = .next (s.goesTo (s.setGainReg reg (s.gainReg reg).apply))) ∧
  (∀ (k m e : Nat) (s : State), k < 64 → (s.player k).msg = some m →
    playEnd s.rate (s.libraryMessage m) (s.player k).repeats = some e → e ≤ (s.player k).pos →
    exec (.playerDone k) s = .next (s.goesTo
      ((s.setPlayer k AlmPlayer.reset).event 0x0605 Sev.info 0x06 0x0000 (le 1 k ++ zeros 1 ++ le 2 m)))) ∧
  (∀ (k i : Nat) (s : State),
    let x := s.lane k
    k < 64 → i < 8 → Lane.valid x.entry = true → i < Lane.inputs x.entry →
    s.directUsable (Lane.src x.entry i) = false → bitOf x.idle i = false →
    exec (.directSourceChange k i) s = .next (s.goesTo
      ((s.setLane k { x with idle := x.idle + 2 ^ i }).event 0x0604 Sev.warning 0x06 0x0000
        (le 1 k ++ le 1 i ++ le 2 (Lane.src x.entry i) ++ le 1 1)))) ∧
  (∀ (k : Nat) (s : State), k < 64 → (s.lane k).enabled = false → (s.lane k).fade.ended = true →
    (s.lane k).fade.len ≠ 0 →
    exec (.directLaneFadeEnd k) s = .next (s.goesTo
      (s.setLane k { s.lane k with fade := DirectLane.reset.fade, out := [] })))

/-- Taps, the mesh, swaps and compaction (chapters 10 and 11). -/
def Obligations.RenderEventsComplete : Prop :=
  (∀ (k : Nat) (s : State), k < 65536 → exec (.tapFadeEnd k) s = .next (s.goesTo (s.objMod fun o =>
    { o with tap := tput Tap.reset o.tap k ((tget Tap.reset o.tap k).settle.getD Tap.reset) }))) ∧
  (∀ (b : List Byte) (s : State), s.obj.newMesh = some b →
    let clear := s.obj.feed.foldl (fun t x => tput Feed.reset t x.1 { x.2 with mesh := false }) s.obj.feed
    let feed := (meshFeeds b).foldl (fun t f => tmod Feed.reset t f fun x => { x with mesh := true }) clear
    let t := (s.objMod fun t => { t with mesh := b, newMesh := none, feed := feed })
    let t := t.markDue fun i => Ob.law (t.objRec i) == 1
    exec .meshAdopt s = .next (s.goesTo
      (t.event 0x0404 Sev.notice 0x04 0x0000 (le 8 (Mesh.id b))).judgeObjects)) ∧
  (∀ (f : Fetch) (s : State),
    let t := s.objMod fun t => { t with load := none }
    let b := t.sourceRead f.req f.addr (min f.len 131013)
    s.obj.load = some f → f.len ≠ 0 → f.req.mayRead t f.addr f.len = true → t.meshCheck b f.len = none →
    exec .meshLoadDone s = .next (s.goesTo
      ((t.objMod fun t => { t with newMesh := some b }).finish f.req Status.ok (zeros 8)))) ∧
  (∀ (f : Nat) (w : CorSwap) (s : State), f < 1024 → (s.corFeed f).swap = some w → w.at_ ≤ s.time.ri →
    w.req = none → s.swapBarred f w.at_ = false →
    exec (.correctionSwap f) s = .next (s.goesTo
      (((s.setCorFeed f { ({ s.corFeed f with swap := none } : CorFeed).exchange with
        fadeAt := some w.at_ }).countSpectra f).answerCorSwap w Status.ok))) ∧
  (∀ (f b : Nat) (s : State), f < 1024 → (s.corFeed f).fadeAt = some b → b + 512 ≤ s.time.ri →
    exec (.corCrossfadeEnd f) s = .next (s.goesTo
      ((s.setCorFeed f { s.corFeed f with fadeAt := none }).event 0x0501 Sev.notice 0x05 (0x5000 + f)
        (le 2 f ++ le 1 (b2n (s.corFeed f).run1) ++ zeros 1 ++ le 4 b)))) ∧
  (∀ (r : Req) (s : State),
    let order := (s.cor.feed.foldl (fun l x => insertRun (x.2.running.base, x.1) l) []).map (·.2)
    let t := (s.corMod fun c => { c with compact := none }).lowerBanks 0 order
    s.cor.compact = some r → exec .corCompactDone s = .next (s.goesTo
      (t.1.finish r Status.ok (le 4 t.2 ++ le 4 (longestRun (t.1.freeSlots none)))))) ∧
  (∀ (u sec : Nat) (s : State), (0x5000 ≤ u ∧ u < 0x5400 ∧ sec < 16 ∨ 0x6000 ≤ u ∧ u < 0x6100 ∧ sec < 8) →
    exec (.biquadFadeEnd u sec) s = .next (s.goesTo (s.corMod fun c => { c with
      biquad := (s.sectionKeys u sec).foldl (fun b i => tmod Biquad.reset b i Biquad.settle) c.biquad })))

/-- Loading a datum, its boundary and its activation (chapter 13). -/
def Obligations.DatumEventsComplete : Prop :=
  (∀ (j : LoadJob) (s : State), s.dat.job = some j → s.dat.phase = 1 → s.sourceGranted j = true →
    j.readable = true → j.addr ≠ s.idleSlot →
    exec .datumFetchDone s = .next (s.goesTo
      ((({ s with mem := writeBytes s.mem s.idleSlot (j.bytes s) }).datMod fun d =>
        { d with phase := 2 }).mirrorLoad j))) ∧
  (∀ (j : LoadJob) (s : State), s.dat.job = some j → s.dat.phase = 2 → s.dat.boundary = none →
    s.loadFail j = none → exec .datumCheckDone s = .next (s.goesTo
      (s.datMod fun d => { d with boundary := some s.fadeBoundary }))) ∧
  (∀ (b : Nat) (s : State),
    let t := ((s.dropAudio.datumReady false false).datMod fun d => { d with
      id := 0, phase := 3, boundary := none, applied := false
      roles := s.roleList
      fade := { pos := 64, len := 64, up := false }
      ovl := d.ovl.map fun o => (o.1, { Ovl.reset with stored := o.2.stored }) }).undelegate.resetAudio
    s.dat.boundary = some b → s.dat.phase = 2 → b ≤ s.time.ri → Dm.profile t.idleImage = t.fab.active →
    exec .datumBoundary s = .next (s.goesTo t)) ∧
  (∀ s : State, s.dat.phase = 3 → s.dat.applied = false → exec .datumApplyDone s = .next (s.goesTo
    ((s.writeDatum s.idleImage).datMod fun d =>
      { d with applied := true, roles := [], boundary := some s.nextBoundary }))) ∧
  (∀ (b : Nat) (s : State), s.dat.boundary = some b → s.dat.phase = 3 → s.dat.applied = true → b ≤ s.time.ri →
    eligibleRi s.fab.active (min 4 (Dm.profile s.idleImage)) s.time.ri = true →
    exec .datumActivate s = .next (s.goesTo s.activate)) ∧
  (∀ (r : Req) (s : State), s.dat.store = some r → exec .datStoreDone s = .next (s.goesTo
    ((({ s with mem := writeBytes s.mem flashDatum s.runningImage }).datMod fun d =>
      { d with store := none }).finish r Status.ok [])))

/-- Overlays at their boundaries (chapter 13). -/
def Obligations.OverlayEventsComplete : Prop :=
  (∀ (p : Pending) (ps : List Pending) (n : Nat) (s : State), n < 64 → s.dueCommands = p :: ps →
    p.req.index = n → p.req.gen = 0 →
    (p.req.op = 0x0211 → (s.dropPending p).applyFail n = none →
      exec (.overlayApplyBoundary n) s =
        .next (s.goesTo (((s.dropPending p).applyOvl n).finish p.req Status.ok []))) ∧
    (p.req.op = 0x0212 → (s.dropPending p).removeFail n = none →
      exec (.overlayRemoveBoundary n) s =
        .next (s.goesTo (((s.dropPending p).removeOvl n).finish p.req Status.ok [])))) ∧
  (∀ (n b : Nat) (s : State),
    let t := s.setOvl n { s.ovl n with active := false, suspended := false, resumeDue := none }
    n < 64 → (s.ovl n).resumeDue = some b → (s.ovl n).suspended = true → b ≤ s.time.ri → s.activeCount < 4 →
    ovlFail t n = none →
    exec (.overlayResume n) s = .next (s.goesTo ((t.stackOn n).ovlSuspended n false))) ∧
  (∀ (n : Nat) (s : State), n < 64 → s.saf.ready = true → ovlIsland s n = true → s.ovlNeeded n = false →
    (s.ovl n).waiting = false → (s.ovl n).active = true → s.swapStuck (s.removeOvl n) = false →
    exec (.islandOverlayRemove n) s = .next (s.goesTo (s.removeOvl n)))

/-- Commands that have waited: under ORDERED, and for their boundary (R86, R88, R90). -/
def Obligations.WaitingCommandsComplete : Prop :=
  (∀ (q n : Nat) (b : Body) (s : State),
    let u := s.dropMarkers q 2
    q < 32 → s.takesCommands (q / 4) = true → s.waitingOrder q = some n → u.waitingOrder q = some n →
    (u.headPacket q).length ≠ 0 → bodyOf (u16 (u.headBytes q) 4) = some b → u.earlierOpen (q / 4) n = false →
    exec (.orderedRelease q) s = .next (s.goesTo (u.popAndJudge q n b))) ∧
  (∀ (p : Pending) (b : Body) (s : State), s.sys.running = true → s.dueCommands = [p] → p.isOverlay = false →
    (p.req.gen = 0 ∨ p.req.gen = (s.dropPending p).genOf p.req.target) → bodyOf p.req.op = some b →
    exec .pendingCommandApply s = .next (s.goesTo
      ((s.dropPending p).settle p.req p.acked (b true p.req (s.dropPending p))))) ∧
  (∀ (p : Pending) (s : State), s.sys.running = true → s.dueCommands = [p] → p.isOverlay = false →
    p.req.gen ≠ 0 → p.req.gen ≠ (s.dropPending p).genOf p.req.target →
    exec .pendingCommandApply s = .next (s.goesTo ((s.dropPending p).finish p.req Status.staleRole [])))

/-- Links, low power, wake, and the field bus (chapter 5). -/
def Obligations.NetworkEventsComplete : Prop :=
  (∀ (p : Nat) (f : List Byte) (s : State), p < 5 → s.hears p = true →
    (f.length < 64 → ∀ fcs, exec (.frameReceive p f fcs) s = .next (s.goesTo (s.countPort p Ctr.runt 1))) ∧
    (64 ≤ f.length → s.maxFrame p < f.length → ∀ fcs,
      exec (.frameReceive p f fcs) s = .next (s.goesTo (s.countPort p Ctr.oversize 1))) ∧
    (64 ≤ f.length → f.length ≤ s.maxFrame p →
      exec (.frameReceive p f false) s = .next (s.goesTo (s.countPort p Ctr.fcsErr 1)) ∧
      (let t := (s.countPort p Ctr.rxFrames 1).countPort p Ctr.rxBytes f.length
       exec (.frameReceive p f true) s = .next (s.goesTo
        (if p < 3 then t.mediaFrame p f else if p = 3 then t.sightPortFrame f else t.fieldFrame f))))) ∧
  (∀ (p : Nat) (s : State),
    let u := s.modPort p fun x => { x with link := true }
    let t := if p = 3 then u else u.setReady (portReadyBit p) true
    p < 5 → (p < 3 → (s.port p).mode ≠ 0xFF) → exec (.linkUp p) s = .next (s.goesTo
      (t.event 0x0901 Sev.notice 0x09 0x0000 (le 1 p ++ le 1 (t.port p).mode)))) ∧
  (∀ (p : Nat) (s : State),
    let u := s.modPort p fun x => { x with link := false, lpi := false, pauseEnd := none }
    let t := if p = 3 then (u.sightMod Sight.restart).sightLost else u
    p < 5 → exec (.linkDown p) s = .next (s.goesTo
      ((t.setReady (portReadyBit p) false).event 0x0902 Sev.warning 0x09 0x0000 (le 1 p)))) ∧
  (∀ (p : Nat) (s : State), p < 3 →
    exec (.lpiRxEntry p) s = .next (s.goesTo (s.countPort p Ctr.lpiRxEntries 1)) ∧
    ((s.port p).lpi = true → ((s.port p).tx.any fun q => q.2.any fun f => f.launch.isNone) = true →
      exec (.lpiExit p) s = .next (s.goesTo (s.modPort p fun x => { x with lpi := false })))) ∧
  (∀ (w t : Nat) (s : State), w < 8 → (s.wakePattern w).hold = some t → t ≤ s.time.elapsed →
    exec (.wakeHoldExpire w) s = .next (s.goesTo ((s.netMod fun n => { n with
      wake := tmod WakePattern.reset n.wake w fun x => { x with hold := none } }).gateParts))) ∧
  (∀ s : State, s.net.fb.role = 1 → s.net.fb.plca = true →
    (s.net.fb.lastBeacon + 4 * milli ≤ s.time.elapsed → exec .plcaBeaconLoss s = .next (s.goesTo
      (((s.fbMod fun f => { f with plca := false }).countPort 4 Ctr.beaconLoss 1).event
        0x0909 Sev.warning 0x09 0x0000 (le 1 4)))) ∧
    exec .plcaBeaconSeen s = .next (s.goesTo
      (s.fbMod fun f => { f with plca := true, lastBeacon := s.time.elapsed }))) ∧
  (∀ s : State, s.net.fb.role = 0 → s.net.fb.beaconing = true → exec .plcaBeaconSeen s = .next (s.goesTo
    ((s.fbMod fun f => { f with plca := false, beaconing := false }).event 0x090B Sev.error 0x09 0x0000 (le 1 4)))) ∧
  (∀ s : State, s.net.fb.plca = false → (s.countPort 4 Ctr.collisions 1).net.fb.attempts + 1 < 16 →
    exec .csmaCollision s = .next (s.goesTo ((s.countPort 4 Ctr.collisions 1).fbMod fun f =>
      { f with attempts := (s.countPort 4 Ctr.collisions 1).net.fb.attempts + 1 }))) ∧
  (∀ s : State,
    let t := (s.judgeCalls (List.range 32)).fbMod fun f =>
      { f with cseq := (f.cseq + 1) % 4294967296, lastCall := (s.judgeCalls (List.range 32)).time.elapsed }
    s.net.fb.role = 0 → s.sys.running = true → s.net.fb.lastCall + s.net.fb.callMs * milli ≤ s.time.elapsed →
    exec .rollCall s = .next (s.goesTo
      (t.sendFb broadcast 1 (le 4 t.net.fb.cseq ++ le 2 t.net.fb.callMs ++ zeros 2)))) ∧
  (∀ (f : List Byte) (s : State), fbFrameOk f = true →
    (isFbFrame f 2 = true → exec (.fbAnswer f) s =
      .next (s.goesTo ((s.deliverFrame 72 4 0 0xFF 0 0 f).drainRoll 260))) ∧
    (isFbFrame f 3 = true → exec (.fbAssign f) s =
      .next (s.goesTo ((s.deliverFrame 72 4 0 0xFF 0 0 f).drainRoll 260))) ∧
    (isFbFrame f 6 = true → exec (.fbLeave f) s =
      .next (s.goesTo ((s.deliverFrame 72 4 0 0xFF 0 0 f).drainRoll 260))) ∧
    (isFbFrame f 4 = true → exec (.fbReport f) s = .next (s.goesTo
      ((((s.deliverFrame 243 4 0 0xFF 0 0 f).drainSafety 260).deliverFrame 74 4 0 0xFF 0 0 f).firmwareTakes 74 260))) ∧
    (isFbFrame f 5 = true → exec (.fbTrigger f) s = .next (s.goesTo
      ((((s.deliverFrame 243 4 0 0xFF 0 0 f).drainSafety 260).deliverFrame 74 4 0 0xFF 0 0 f).firmwareTakes 74 260))))

/-- Streams leaving, absent and locking, and their discovery (chapter 6). -/
def Obligations.StreamEventsComplete : Prop :=
  (∀ (i : Nat) (s : State),
    let x := s.tx i
    let last := x.riBase + (x.formed + 1) * packetStep x.entry
    let d := s.draw 17
    i < 512 → Ent.enabled x.entry = true → x.causes = 0 → last ≤ s.posRi → packetStep x.entry ≠ 0 →
    exec (.streamPacketForm i) s = .next (s.goesTo
      ((entPorts x.entry).foldl
        (fun u p => u.sendStream i p (x.riBase + x.formed * packetStep x.entry) last
          (d.2.riTime last + u32 x.entry 16)
          (u.txFrame x.entry p d.1 (d.2.transport i x x.formed)))
        (d.2.setTx i { x with formed := x.formed + 1 })))) ∧
  (∀ (i : Nat) (s : State), i < 512 → (s.rx i).state = 2 →
    ((s.rx i).lastAny + absentNs (s.rx i).entry ≤ s.time.elapsed → exec (.streamAbsent i) s = .next (s.goesTo
      (rxEvent (s.setRx i { (s.rx i).release with state := 3 }) 0x0302 Sev.warning i
        (zeros 2 ++ le 4 (s.rx i).accepted)))) ∧
    (∀ p, p < 2 → Ent.flag (s.rx i).entry 2 = true → (s.rx i).down.getD p false = false →
      (s.rx i).lastPath.getD p 0 + absentNs (s.rx i).entry ≤ s.time.elapsed →
      exec (.pathAbsent i p) s = .next (s.goesTo
        (rxEvent (s.setRx i { s.rx i with down := (s.rx i).down.set p true }) 0x0303 Sev.warning i (le 1 p))))) ∧
  (∀ (g : Nat) (ppb : Int) (s : State), g < 128 → (s.group g).mode = 1 → (s.group g).suspended = false →
    exec (.asrcLock g ppb) s = .next (s.goesTo
      ((s.setGroup g { s.group g with ppb := ppb }).setLock g
        (decide (-1000000 ≤ ppb) && decide (ppb ≤ 1000000))))) ∧
  (∀ (i : Nat) (s : State), i < 512 → s.sys.running = true → s.outputsHeld = false →
    Ent.enabled (s.tx i).entry = true → Ent.flag (s.tx i).entry 3 = true → Ent.aes67 (s.tx i).entry = true →
    ((s.tx i).sapAt = 0 ∨ (s.tx i).sapAt - 1 + 30 * second ≤ s.time.elapsed) →
    exec (.sapAnnounce i) s = .next (s.goesTo
      ((entPorts (s.tx i).entry).foldl (fun s p => s.sapFrame i p false)
        (s.setTx i { s.tx i with sapAt := s.time.elapsed + 1 })))) ∧
  (∀ s : State, s.sys.running = true → s.outputsHeld = false →
    (s.str.adpAt = 0 ∨ s.str.adpAt - 1 + 5 * second ≤ s.time.elapsed) →
    ∃ t, exec .adpEntityAvailable s = .next t ∧ t.str.adpIdx = (s.str.adpIdx + 1) % 4294967296 ∧
      t.str.adpAt = s.time.elapsed + 1) ∧
  (∀ (i : Nat) (x : SdpSession) (s : State), i < 1024 → s.str.sdp[i]? = some x →
    x.last + 300 * second ≤ s.time.elapsed → exec (.sdpSessionExpire i) s = .next (s.goesTo
      (s.strMod fun t => { t with sdp := t.sdp.eraseIdx i }))) ∧
  (∀ (i vid : Nat) (id dmac : List Byte) (s : State),
    let u := 0x2000 + i
    let e := streamRecord.padBytes 128 (s.streamEntry u)
    let t := (((s.modTx i fun x => { x with listeners := (s.tx i).listeners + 1 }).bumpGen u).adoptStream u
      (withEnable e true)
      (((s.modTx i fun x => { x with listeners := (s.tx i).listeners + 1 }).bumpGen u).tx i).run)
    i < 512 → vid < 4096 → Ent.valid e = true → Ent.flag e 4 = true → Ent.aes67 e = false → Ent.island e = false →
    s.sys.running = true → (s.tx i).listeners ≠ 16 →
    exec (.acmpConnect true i true id dmac vid) s = .next (s.goesTo
      (t.event 0x030A Sev.notice 0x03 u (le 2 u ++ le 1 1 ++ zeros 1 ++ le 2 (t.genOf u)))))

/-- Serial interfaces at work: TDM ports and AES3 receivers (chapter 7). -/
def Obligations.SerialEventsComplete : Prop :=
  (∀ (k : Nat) (s : State), k < 36 → s.serRuns k = true →
    exec (.serialClockStop k) s = .next (s.goesTo ((s.clockLost k 1).serEvent 0x0320 Sev.warning k 1 [])) ∧
    exec (.serialFsGlitch k) s = .next (s.goesTo (s.modSer k (·.count 0))) ∧
    (∀ hz, rateNear hz (s.serNominal k) = false → serIsRx k = false →
      exec (.serialRateChange k hz) s = .next (s.goesTo
        (((s.clockLost k 2).modSer k fun x => { x with measured := hz }).serEvent 0x0323 Sev.warning k 0 (le 4 hz))))) ∧
  (∀ (k hz : Nat) (s : State), k < 36 → serIsTdm k = true → ((s.ser_ k).state = 1 ∨ (s.ser_ k).state = 3) →
    s.serDrives k (s.ser_ k).set = false → rateNear hz (s.serNominal k) = true →
    exec (.serialClockReturn k hz) s = .next (s.goesTo (s.clockOk k hz))) ∧
  (∀ (p : Nat) (again : Bool) (s : State),
    let t := s.modSer p fun x => { x.count 1 with badRun := if again then x.badRun + 1 else 1 }
    p < 16 → s.serRuns p = true →
    ((t.ser_ p).badRun < 16 → exec (.bitcountError p again) s = .next (s.goesTo t)) ∧
    (16 ≤ (t.ser_ p).badRun → exec (.bitcountError p again) s = .next (s.goesTo
      ((t.clockLost p 3).serEvent 0x0320 Sev.warning p 3 [])))) ∧
  (∀ (k : Nat) (slow : Bool) (s : State), k < 36 → (s.ser_ k).state = 2 → hasSlip k (s.ser_ k).set = true →
    exec (.serialSlip k slow) s = .next (s.goesTo
      ((s.setSer k { (s.ser_ k).count 2 with slip := 0, slipFade := true, fade := Fade.out 16 }).oncePerSecond
        (0x32200 * 4096 + k) fun s =>
          s.serEvent 0x0322 Sev.warning k (if slow then 1 else 2) (le 4 (tget 0 (s.ser_ k).counters 2))))) ∧
  (∀ (p : Nat) (m : List Byte) (s : State), p < 16 → (s.ser_ p).masks = some m →
    (s.tdmOk p ((tdmSet (s.ser_ p)).take 8 ++ m) = true → exec (.tdmMaskLatch p) s = .next (s.goesTo
      (s.setSer p { s.ser_ p with set := (tdmSet (s.ser_ p)).take 8 ++ m, masks := none, pendc := false }))) ∧
    (s.tdmOk p ((tdmSet (s.ser_ p)).take 8 ++ m) = false → exec (.tdmMaskLatch p) s = .next (s.goesTo (s.pendTdm p)))) ∧
  (∀ (p : Nat) (b : List Byte) (s : State), p < 16 → (s.ser_ p).newSet = some b →
    exec (.tdmFramingChange p) s = .next (s.goesTo ((s.setSer p { s.ser_ p with
      set := b, newSet := none, masks := none, pendc := false, badRun := 0, last := [] }).judgeSer p))) ∧
  (∀ (n : Nat) (s : State), n < 4 → s.serRuns (16 + n) = true →
    (∀ kind, kind < 3 → exec (.aesSubframeError n kind) s = .next (s.goesTo (s.modSer (16 + n) (·.count (3 + kind))))) ∧
    (∀ d, let b := slice (d ++ zeros 24) 0 24
      let t := s.modSer (16 + n) fun x => { x with cs := b }
      (bitOf (u8 b 0) 0 = true → u8 b 23 ≠ csCrc b →
        exec (.aesCsBlock n d) s = .next (s.goesTo (s.modSer (16 + n) (·.count 6)))) ∧
      ((bitOf (u8 b 0) 0 = false ∨ u8 b 23 = csCrc b) → bitOf (u8 b 0) 1 = true →
        exec (.aesCsBlock n d) s = .next (s.goesTo (t.naMute (naIface (16 + n)) 0 true))))) ∧
  (∀ (n hz : Nat) (s : State), n < 4 → (s.ser_ (16 + n)).state ≠ 0 → (s.ser_ (16 + n)).state ≠ 2 →
    (aesNominal hz = none → exec (.aesReceiverLock n hz) s = .next (s.goesTo
      (s.setSer (16 + n) { s.ser_ (16 + n) with state := 3, cause := 4, measured := hz }))) ∧
    (aesNominal hz = some s.rate → u8 (s.ser_ (16 + n)).set 2 ≠ 2 →
      exec (.aesReceiverLock n hz) s = .next (s.goesTo (s.clockOk (16 + n) hz)))) ∧
  (∀ (i pair even odd : Nat) (s : State), i < 512 → pair < 32 → s.naPairOk i pair = true →
    isPreamble even odd = true →
    exec (.nonAudioDetect i pair even odd) s = .next (s.goesTo (s.naMute i pair false))) ∧
  (∀ (i pair : Nat) (s : State), i < 532 → pair < 32 → (s.naPair i pair).muted = true →
    (s.naPair i pair).byCs = false → (s.naPair i pair).until_ ≤ s.time.elapsed →
    exec (.nonAudioHoldEnd i pair) s = .next (s.goesTo
      (s.setNa i pair { s.naPair i pair with muted := false, fade := Fade.start 64 })))

/-- The sightline between the halves of a pair: its synchronisation, acknowledgements and messages (chapters 5 and 14). -/
def Obligations.SightlineCompletes : Prop :=
  (∀ s : State, (s.port 3).link = true → s.isReady Rdy.sight = false → s.net.sight.frozen = false →
    exec .sightSyncSend s = .next (s.goesTo (s.sightMod fun x => { x with out := x.out ++ [syncFrame s] }))) ∧
  (∀ (f : List Byte) (s : State),
    let t := s.sightMod fun x => { x with
      peerSync := true, peerAddr := slice (f.drop 32) 0 6, peerBoot := u32 (f.drop 32) 8
      peerId := u8 (f.drop 32) 6 == 1 }
    s.net.sight.frozen = false → u8 f 0 = 1 → u8 f 1 = 0 → u16 f 20 = 16 → s.net.sight.peerSync = false →
    exec (.sightSyncReceive f) s = .next (s.goesTo
      ((({ t with pair := { t.pair with heard := true } }).sightMod Sight.sendAck).sightReadyNow))) ∧
  (∀ (f : List Byte) (s : State), s.net.sight.frozen = false → u8 f 0 = 1 → u8 f 1 = 1 →
    exec (.sightAckReceive f) s = .next (s.goesTo
      ((s.sightMod fun x => { x.ackTo (u32 f 24) s.time.elapsed with ackSeen := true }).sightReadyNow.form))) ∧
  (∀ (t : Nat) (s : State), s.net.sight.ackDue = some t → t + 10 * micro ≤ s.time.elapsed →
    exec .sightAckTimer s = .next (s.goesTo (s.sightMod Sight.sendAck))) ∧
  (∀ s : State, s.net.sight.unacked ≠ [] → s.net.sight.progress + 50 * micro ≤ s.time.elapsed →
    (8 ≤ s.net.sight.resends → exec .sightRetransmit s = .next (s.goesTo s.sightFails)) ∧
    (s.net.sight.resends < 8 → exec .sightRetransmit s = .next (s.goesTo
      ((s.sightMod fun x => x.unacked.foldl (fun y u => y.emit (asResend u.2))
        { x with resends := x.resends + 1, progress := s.time.elapsed }).countPort 3 Ctr.sightRetrans 1)))) ∧
  (∀ (f : List Byte) (s : State), (s.sequenced f).2 = true →
    (u8 f 1 = 3 →
      (u8 (sightPayload f) 0 = 1 → exec (.sightCommandReceive f) s = .next (s.goesTo ((s.sequenced f).1.takeMirrored f))) ∧
      (u8 (sightPayload f) 0 = 2 → exec (.sightResultReceive f) s = .next (s.goesTo ((s.sequenced f).1.takeResult f))) ∧
      (u8 (sightPayload f) 0 = 3 → exec (.sightSnapshotReceive f) s = .next (s.goesTo ((s.sequenced f).1.takeSnapshotPart f))) ∧
      (u8 (sightPayload f) 0 = 4 → exec (.sightImageReceive f) s = .next (s.goesTo ((s.sequenced f).1.takeSnapshotPart f)))) ∧
    (u8 f 1 = 4 → exec (.streamStateReceive f) s = .next (s.goesTo ((s.sequenced f).1.takeStreamState f))) ∧
    (u8 f 1 = 5 → exec (.memoryWriteReceive f) s = .next (s.goesTo ((s.sequenced f).1.takeWrite (sightPayload f)))) ∧
    (u8 f 1 = 6 →
      (u8 (sightPayload f) 0 = 1 → exec (.joinRequest f) s = .next (s.goesTo ((s.sequenced f).1.joinAsked (sightPayload f)))) ∧
      (u8 (sightPayload f) 0 = 2 → exec (.joinAccept f) s = .next (s.goesTo ((s.sequenced f).1.joinAccepted (sightPayload f)))) ∧
      (u8 (sightPayload f) 0 = 3 → exec (.joinDone f) s = .next (s.goesTo (s.sequenced f).1.joinDone)) ∧
      (u8 (sightPayload f) 0 = 4 → exec (.handover f) s = .next (s.goesTo ((s.sequenced f).1.handoverAsked (u64 f 8)))) ∧
      (u8 (sightPayload f) 0 = 5 → exec (.handoverAck f) s = .next (s.goesTo ((s.sequenced f).1.handoverAcked (u64 f 8)))) ∧
      (u8 (sightPayload f) 0 = 6 → exec (.takeover f) s = .next (s.goesTo (s.sequenced f).1.overtaken)) ∧
      (u8 (sightPayload f) 0 = 7 → exec (.leave f) s = .next (s.goesTo ((s.sequenced f).1.peerLeaves (u8 (sightPayload f) 3)))) ∧
      (u8 (sightPayload f) 0 = 8 → exec (.refuse f) s = .next (s.goesTo (s.sequenced f).1)))) ∧
  (∀ (f : List Byte) (s : State),
    let t := (s.ackReceive f).pairMod fun p =>
      { p with peer := parseBeat f, beats := (p.beats.filter fun n => n != (parseBeat f).ri) ++ [(parseBeat f).ri] }
    s.net.sight.frozen = false → u8 f 0 = 1 → u8 f 1 = 2 → s.pair.state ≠ .single →
    exec (.peerHeartbeat f) s = .next (s.goesTo
      (((t.pairMod fun p => { p with beats := p.beats.drop (p.beats.length - 16) }).peerRequests
        (parseBeat f).reqBits).beatRole (parseBeat f))))

/-- The roles of a pair: seeking, joining, taking over, handing over and holding (chapter 14). -/
def Obligations.PairEventsComplete : Prop :=
  (∀ s : State,
    let t := (((s.enterPair .alone).judgeHeld s).pairMod fun q => { q with
      takeovers := (q.takeovers + 1) % 4294967296, lastTake := s.time.ri }).replayAll.announce
    s.pair.mayTake = true → exec .pairTakeover s = .next (s.goesTo
      ((t.sendRole 6 0 t.time.ri t.pair.state.code t.dat.id).event 0x0B03 Sev.error 0x0B 0x0000
        (le 1 (min 255 s.pair.misses) ++ zeros 3
          ++ le 4 (t.sendRole 6 0 t.time.ri t.pair.state.code t.dat.id).time.ri)))) ∧
  (∀ (n : Nat) (s : State), s.pair.state = .backsight → s.pair.peerFenced = true → s.pair.fenceWait = some n →
    2 ≤ n → exec .fenceWaitExpire s = .next (s.goesTo s.isolate)) ∧
  (∀ s : State, s.pair.pairId = true → s.pair.active = true → s.pair.fenced = true → 2 ≤ s.pair.fenceRun →
    exec .fenceConflict s = .next (s.goesTo (s.dropPeerLoad.seek.pairSplit 2))) ∧
  (∀ (h : Nat) (s : State), s.pair.holdAt = some h → h ≤ s.time.ri → s.pair.state = .foresight →
    (s.pair.fenced = true ∨ s.pair.hbOnly = true) →
    exec .foresightHold s = .next (s.goesTo (s.setSelfHold (some s.time.ri)))) ∧
  (∀ (h : Nat) (s : State), s.pair.selfHold = some h → s.pair.state.isFore = true → h + s.blockLen ≤ s.time.ri →
    exec .foresightRelease s = .next (s.goesTo
      (if s.pair.peerFenced then s.dropPeerLoad.seek else s.goAlone.setSelfHold none))) ∧
  (∀ s : State, s.pair.state = .seeking → s.pair.selfHold.isSome = true → s.pair.withheld = 0 →
    s.pair.beatFrom + 3 * second ≤ s.time.elapsed →
    exec .foresightRejoin s = .next (s.goesTo (s.setSelfHold none).requestJoin)) ∧
  (∀ s : State, s.pair.state = .seeking → s.pair.selfHold = none → s.pair.heard = false →
    s.pair.seekFrom + s.pair.seekNs ≤ s.time.elapsed → s.pair.peerFenced = false →
    exec .pairSeekTimeout s = .next (s.goesTo s.becomeAlone)) ∧
  (∀ (j : Nat) (s : State), s.pair.joinAt = some j → s.pair.state = .joining → j ≤ s.time.ri → s.dat.phase = 0 →
    let t := (((s.pair.snapshot.filter fun m => u8 m 0 == 0xFF).map (·.drop 1)).foldl State.takeRecords
      s.startSnapshot).pairMod fun p =>
        { p with state := .backsight, snapshot := [], misses := 0, settled := false, resent := false }
    exec .joinSnapshotStart s = .next (s.goesTo (t.sendRole 3 0 0 t.pair.state.code t.dat.id))) ∧
  (∀ (j : Nat) (s : State), s.pair.joinAt = some j → s.pair.settled = false →
    (s.pair.state = .foresight ∨ s.pair.state = .backsight) → j + 3 * s.rate ≤ s.time.ri →
    exec .pairSettled s = .next (s.goesTo
      (((s.pairMod fun p => { p with settled := true }).showPair).event 0x0B01 Sev.notice 0x0B 0x0000
        (le 1 s.pair.state.code ++ zeros 3 ++ le 4 j)))) ∧
  (∀ (x : Handover) (s : State), s.pair.handover = some x → x.h ≤ s.time.ri → x.acked = true → x.req = none →
    s.pair.state = .foresight → s.pair.peerLoad = false → s.pair.loadReq = none →
    exec .handoverBoundary s = .next (s.goesTo
      (((((s.enterPair .backsight).judgeHeld s).pairMod fun q => { q with
        settled := true, switchRi := some x.h, handover := none, loadReq := none, joinAt := s.pair.joinAt
        mseq := q.mseq, mseqDone := q.mseq }).showPair).event 0x0B04 Sev.notice 0x0B 0x0000
          (le 1 PState.backsight.code ++ zeros 3 ++ le 4 x.h)))) ∧
  (∀ (x : Handover) (s : State), s.pair.handover = some x → x.acked = false →
    x.h ≤ s.time.ri + 2 * s.blockLen → exec .handoverAbandon s = .next (s.goesTo (s.dropHandover x))) ∧
  (∀ (t : Nat) (s : State), s.pair.skewFrom = some t → s.pair.skewSent = false → t + second ≤ s.time.elapsed →
    exec .pairSkew s = .next (s.goesTo ((s.pairMod fun p => { p with skewSent := true }).event
      0x0B07 Sev.warning 0x0B 0x0000 (zeros 4 ++ leI 4 s.pair.offset))))

/-- Inputs, requests, heartbeats and delegations of the safety island (chapter 12). -/
def Obligations.IslandEventsComplete : Prop :=
  (∀ (mv : List Nat) (ins : List (Nat × List Int)) (s : State), s.saf.ready = true →
    (((List.range 8).foldl (fun s i => s.sampleInput i (mv.getD i 0)) s).saf.ready = true →
      ((List.range 8).foldl (fun s i => s.sampleInput i (mv.getD i 0)) s).blocksPace = true →
      exec (.islandInputSample mv ins) s = .next (s.goesTo
        ((List.range 8).foldl (fun s i => s.sampleInput i (mv.getD i 0)) s)))) ∧
  (∀ (i : Nat) (s : State), i < 8 → s.inputDue i = true →
    exec (.inputStateChange i) s = .next (s.goesTo (s.inputTakes i (InState.ofBand (s.safIn i).band)))) ∧
  (∀ (i t : Nat) (s : State), i < 8 → (s.safIn i).between = some t → s.saf.ready = true →
    t + second ≤ s.time.elapsed → exec (.inputBandTimeout i) s = .next (s.goesTo
      (s.inputFault i SafFault.inputBand true).safRefresh)) ∧
  (∀ (r : Nat) (s : State), r < 64 → s.saf.ready = true → s.saf.hbMissing = 0 → s.wantsOverlay r = true →
    s.dat.phase ≠ 3 → s.reqOvl r = none →
    exec (.delegationApply r) s = .next (s.goesTo (s.beginDelegation r))) ∧
  (∀ (r a : Nat) (s : State),
    let kept := s.keptDirect r
    let t := s.setSafReq r { s.safReq r with deleg := Deleg.delegated, direct := kept }
    r < 64 → (s.safReq r).boundaryA = some a → s.saf.ready = true → (s.safReq r).active = true →
    (s.safReq r).deleg = Deleg.start → s.saf.hbMissing = 0 → (s.safReq r).beatsOk = true →
    a + (profDepth s.fab.active + 3) * s.blockLen ≤ s.time.ri →
    exec (.delegationHandoff r) s = .next (s.goesTo
      ((t.islandEvent 0x0E03 Sev.notice (le 1 r ++ zeros 3 ++ le 2 kept.length)).settleSinks s.saf))) ∧
  (∀ s : State, s.saf.ready = true →
    (s.fabricMissing = true → bitOf s.saf.hbMissing 0 = false → exec .fabricHbMiss s = .next (s.goesTo
      ((((s.safMod fun x => { x with hbMissing := withBit x.hbMissing 0 true, healthy := none }).islandFault 0
        SafFault.fabricHb true).takeOver SafFault.fabricHb).safRefresh))) ∧
    (s.saf.fwLast + SafCfg.hbFwMs s.saf.general * milli ≤ s.time.elapsed → bitOf s.saf.hbMissing 1 = false →
      exec .firmwareHbTimeout s = .next (s.goesTo
        ((((s.safMod fun x => { x with hbMissing := withBit x.hbMissing 1 true, healthy := none }).islandFault 0
          (SafFault.fabricHb + 1) true).takeOver (SafFault.fabricHb + 1)).safRefresh))) ∧
    (SafCfg.supSlot s.saf.general ≠ 0xFF →
      s.saf.hostLast + SafCfg.hbHostMs s.saf.general * milli ≤ s.time.elapsed → bitOf s.saf.hbMissing 2 = false →
      exec .hostHbTimeout s = .next (s.goesTo
        ((((s.safMod fun x => { x with hbMissing := withBit x.hbMissing 2 true, healthy := none }).islandFault 0
          (SafFault.fabricHb + 2) true).takeOver (SafFault.fabricHb + 2)).safRefresh)))) ∧
  (∀ s : State, s.sys.running = true → s.saf.present = true → bitOf s.saf.hbMissing 1 = false →
    exec .firmwareHeartbeat s = .next (s.goesTo (s.safMod fun x => { x with fwLast := s.time.elapsed }))) ∧
  (∀ (r since : Nat) (s : State), r < 64 → s.saf.healthy = some since → s.saf.ready = true →
    SafCfg.returnS s.saf.general ≠ 0 → (s.safReq r).active = true → (s.safReq r).deleg = Deleg.takenOver →
    since + SafCfg.returnS s.saf.general * second ≤ s.time.elapsed →
    exec (.delegationReturn r) s = .next (s.goesTo
      ((s.setSafReq r { s.safReq r with deleg := Deleg.start, boundaryA := none, direct := [] }).settleSinks s.saf))) ∧
  (∀ (e : Nat) (s : State), e < 128 → s.saf.ready = true →
    bitOf (u8 (s.saf.lineEntries.getD e []) 1) 0 = true →
    max s.saf.readyAt ((s.saf.lineAt e).last.getD 0) + SafCfg.reportToMs s.saf.general * milli ≤ s.time.elapsed →
    exec (.reportSilent e) s = .next (s.goesTo (s.lineFault e SafFault.reportSilent true).safRefresh)) ∧
  (∀ (r : Nat) (s : State), r < 64 → s.saf.ready = true → (s.safReq r).trigger = true →
    (s.safReq r).trigUntil ≤ s.time.elapsed → exec (.triggerHoldExpire r) s = .next (s.goesTo
      (s.changeReq r 2 fun q => { q with trigger := false }))) ∧
  (∀ s : State,
    let d : Int := (s.time.now.nanos : Int) - (s.saf.time.nanos : Int)
    s.saf.present = true → s.isReady Rdy.time = true → (s.loop 0).fallback = false →
    (∀ t, s.saf.compared = some t → t + second ≤ s.time.elapsed) →
    (d.natAbs ≤ milli → exec .islandTimeCompare s = .next (s.goesTo (s.safMod fun x =>
      { x with compared := some s.time.elapsed, slewPpb := clampI (-100000) 100000 d }))) ∧
    (milli < d.natAbs → exec .islandTimeCompare s = .next (s.goesTo (s.safMod fun x =>
      { x with compared := some s.time.elapsed, time := s.time.now, slewPpb := 0 }))))

/-- The safety island's supplies, restarts and message library (chapter 12). -/
def Obligations.IslandLifeCompletes : Prop :=
  (∀ s : State, s.saf.present = false → exec .vddLsPowerGood s = .next (s.goesTo (s.safMod fun x => { x with
    present := true, readyDue := if x.resetN then some (s.time.elapsed + 120 * milli) else none }))) ∧
  (∀ s : State, s.saf.present = true → exec .vddLsLoss s = .next (s.goesTo s.islandLost)) ∧
  (∀ s : State, exec .lsResetNAssert s =
    .next (s.goesTo ((s.safMod fun x => { x with resetN := false }).islandStops 1))) ∧
  (∀ s : State, s.saf.resetN = false → exec .lsResetNRelease s = .next (s.goesTo (s.safMod fun x => { x with
    resetN := true, readyDue := if x.present then some (s.time.elapsed + 120 * milli) else none }))) ∧
  (∀ s : State, s.saf.ready = true → exec .islandWatchdogExpire s = .next (s.goesTo (s.islandStops 2))) ∧
  (∀ s : State, s.saf.present = true → exec .lockstepMismatch s =
    .next (s.goesTo ((s.safMod fun x => { x with mismatch := true }).islandStops 3))) ∧
  (∀ (t k : Nat) (s : State), s.saf.readyDue = some t → s.saf.ready = false → s.saf.present = true →
    t ≤ s.time.elapsed → s.saf.bankOrder.find? s.saf.bankOk = some k →
    exec .islandReady s = .next (s.goesTo (s.islandUp k))) ∧
  (∀ s : State, s.saf.ready = true → s.saf.readyAt + 60 * second ≤ s.time.elapsed →
    exec .islandBankVerified s = .next (s.goesTo (s.safMod fun x => { x with verified := x.bank }))) ∧
  (∀ (t : Nat) (s : State), s.sys.islandDue = some t → t ≤ s.time.elapsed →
    exec .islandRestart s = .next (s.goesTo (({ s with sys := { s.sys with islandDue := none } }).islandStops 4))) ∧
  (∀ (m : List Byte) (ms : List (List Byte)) (s : State), s.saf.present = true → s.saf.svcOut = m :: ms →
    exec .serviceReplyRead s = .next (s.goesTo
      (s.safMod fun x => { x with svcOut := ms, svcRead := le 2 m.length ++ m }))) ∧
  (∀ (j : MsgLoad) (s : State),
    let b := s.loadBytes j
    let t := s.safMod fun x => { x with load := none }
    let u := ({ t with mem := writeBytes t.mem (messageArea + j.offset) b }).putMsgEntry j.msg j.offset j.len 2 (Msg.tag b)
    s.saf.load = some j → j.flash = true → messageOk j.msg b = true → j.persist = false →
    exec .messageLoadDone s = .next (s.goesTo ((u.judgeBadMessages j.msg).finish j.req Status.ok (le 1 2 ++ zeros 3))))

/-! ## Checks and frames -/

/-- The checks of a packet before those of its opcode: the first that fails decides the status (R79, R81, Table 2-7). -/
def Obligations.ChecksInOrder : Prop :=
  ∀ e ∈ hostRows, ∀ (q cells : Nat) (p : List Byte) (s t : State) (r : Req), s.packet q e.1 = some (t, r, p, cells) →
    (∀ st, packetCheck p cells = some st → exec (e.2 q) s = .next (s.goesTo (t.reply r st [] false))) ∧
    (packetCheck p cells = none →
      (u8 p 0 ≠ 3 → exec (e.2 q) s = .next (s.goesTo (t.reply r Status.badOpcode [] false))) ∧
      (u8 p 0 = 3 → (u8 p 1 ≠ r.slot ∨ u16 p 14 ≠ 0 ∨ 16 ≤ r.flags) →
        exec (e.2 q) s = .next (s.goesTo (t.reply r Status.badParam [] false))) ∧
      (u8 p 0 = 3 → u8 p 1 = r.slot → u16 p 14 = 0 → r.flags < 16 →
        (∀ last, (t.cmdQueue r.queue).lastSeq = some last → r.seq = last →
          exec (e.2 q) s = .next (s.goesTo (t.resend r))) ∧
        (∀ last, (t.cmdQueue r.queue).lastSeq = some last → r.seq ≠ last → r.seq ≠ (last + 1) % 65536 →
          exec (e.2 q) s = .next (s.goesTo (t.reply r Status.sequence (le 2 ((last + 1) % 65536)) false))) ∧
        (t.seqFollows r = true →
          ((t.slot r.slot).frozen = true →
            exec (e.2 q) s = .next (s.goesTo (t.reply r Status.frozen [] false))) ∧
          (∀ (i : OpInfo) (st : Nat), (t.slot r.slot).frozen = false → t.sys.recovery = false →
            opInfo r.op = some i → commonCheck t i r (u16 p 12) = some st → st ≠ Status.noAccess →
            exec (e.2 q) s = .next (s.goesTo (t.reply r st [] false))))))

/-- A packet that fails a shared check, is held back, or is not of the row's opcode changes nothing of the device's
work (R79). -/
def Obligations.RefusedPacketsFrame : Prop :=
  ∀ e ∈ hostRows, ∀ (q : Nat) (s t : State), s.offer q e.1 = none → exec (e.2 q) s = .next t → s.sameWork t

/-- Queries change nothing of the device's work, whatever they are answered. -/
def Obligations.QueriesFrame : Prop :=
  ∀ c ∈ [Instr.sysNop, .sysIdentify, .sysGetReadiness, .sysGetWindow, .sysFabStatus, .merGetTime, .netFbNodes,
      .pairStatus, .otpRead, .diagFaults, .datStatus, .datOvlGet, .strGet, .strContinuity, .objGet, .feedGet,
      .corBanks, .corPool, .corBiquadGet, .almStatus],
    ∀ (q : Nat) (s t : State), exec (c q) s = .next t → s.sameWork t

/-- What the slots do at their ports, and the ends of pulses, change none of the device's audio, memory or time. -/
def Obligations.PortsFrame : Prop :=
  ∀ (s t : State),
    (∀ slot off d, exec (.cellPushWrite slot off d) s = .next t → s.sameAudio t) ∧
    (∀ slot off n, 0x8000 ≤ off → exec (.cellPopRead slot off n) s = .next t → s.sameAudio t) ∧
    (∀ slot off v, exec (.registerWrite slot off v) s = .next t → s.sameAudio t) ∧
    (∀ slot q, exec (.queueCommit slot q) s = .next t → s.sameAudio t) ∧
    (∀ slot q, exec (.queueAbort slot q) s = .next t → s.sameAudio t) ∧
    (∀ slot q, exec (.queueReset slot q) s = .next t → s.sameAudio t) ∧
    (∀ slot, exec (.snapshotTake slot) s = .next t → s.sameAudio t) ∧
    (∀ slot off v, exec (.stickyFaultClear slot off v) s = .next t → s.sameAudio t) ∧
    (∀ who ch, exec (.channelStart who ch) s = .next t → s.sameAudio t) ∧
    (∀ who ch, exec (.channelExtend who ch) s = .next t → s.sameAudio t) ∧
    (∀ who ch, exec (.channelStop who ch) s = .next t → s.sameAudio t) ∧
    (∀ slot, exec (.functionLevelReset slot) s = .next t → s.sameAudio t) ∧
    (exec .perstNAssert s = .next t → s.sameAudio t) ∧
    (∀ v a p x d, exec (.udpDatagramReceive v a p x d) s = .next t → s.sameAudio t) ∧
    (∀ pin, exec (.gpioPulseEnd pin) s = .next t → s.sameAudio t)

/-- Links, low power and the field bus's arbitration change none of the device's audio, memory or time. -/
def Obligations.NetworkFrame : Prop :=
  ∀ (s t : State),
    (∀ p, exec (.linkUp p) s = .next t → s.sameAudio t) ∧
    (∀ p, p ≠ 3 → exec (.linkDown p) s = .next t → s.sameAudio t) ∧
    (∀ p, exec (.lpiEnter p) s = .next t → s.sameAudio t) ∧
    (∀ p, exec (.lpiExit p) s = .next t → s.sameAudio t) ∧
    (∀ p, exec (.lpiRxEntry p) s = .next t → s.sameAudio t) ∧
    (exec .plcaBeaconLoss s = .next t → s.sameAudio t) ∧
    (exec .plcaBeaconSeen s = .next t → s.sameAudio t) ∧
    (exec .csmaCollision s = .next t → s.sameAudio t)

/-- Commands that store to memory write the bytes they name and no others (a message load its entry in the message table
as well), and keep memory in its canonical form. -/
def Obligations.StoresFrame : Prop :=
  (∀ (f : List Byte) (s t : State) (a : Nat), s.memOk → exec (.memoryWriteReceive f) s = .next t → t.memOk ∧
    (a < u64 (sightPayload f) 0 ∨ u64 (sightPayload f) 0 + ((sightPayload f).drop 8).length ≤ a →
      readByte t.mem a = readByte s.mem a)) ∧
  (∀ (s t : State) (a : Nat), s.memOk → exec .datStoreDone s = .next t → t.memOk ∧
    (a < flashDatum ∨ flashDatum + s.runningImage.length ≤ a → readByte t.mem a = readByte s.mem a)) ∧
  (∀ (j : LoadJob) (s t : State) (a : Nat), s.memOk → s.dat.job = some j → exec .datumFetchDone s = .next t →
    t.memOk ∧ (a < s.idleSlot ∨ s.idleSlot + (j.bytes s).length ≤ a → readByte t.mem a = readByte s.mem a)) ∧
  (∀ (j : MsgLoad) (s t : State) (a : Nat), s.memOk → s.saf.load = some j → j.persist = false →
    exec .messageLoadDone s = .next t → t.memOk ∧
    (a < messageArea + j.offset ∨ messageArea + j.offset + (s.loadBytes j).length ≤ a →
      a < 0x40000000 + 32 * j.msg ∨ 0x40000000 + 32 * j.msg + 32 ≤ a → readByte t.mem a = readByte s.mem a))

/-- A command that changes audio processing, at a Foresight, is numbered and passed on, and both halves apply it at one
boundary (R588-R591). -/
def Obligations.CommandsMirrored : Prop :=
  Mirrors .objSet 0x0401 (passes objSetCheck) ∧ Mirrors .objMove 0x0402 (passes moveCheck) ∧
  Mirrors .objEnable 0x0403 (passes objEnableCheck) ∧ Mirrors .objSetGain 0x0404 (passes objSetGainCheck) ∧
  Mirrors .objSetSource 0x0405 (passes objSetSourceCheck) ∧ Mirrors .feedSet 0x0501 (passes feedSetCheck) ∧
  Mirrors .feedTrim 0x0502 (passes feedTrimCheck) ∧ Mirrors .corBiquad 0x0510 (passes biquadCheck) ∧
  Mirrors .corLimiter 0x0520 (passes limiterCheck) ∧ Mirrors .corCompressor 0x0521 (passes compressorCheck) ∧
  Mirrors .strBind 0x0301 (passes bindStreamCheck) ∧ Mirrors .strEnable 0x0302 (passes enableStreamCheck) ∧
  Mirrors .strSetMap 0x0303 (passes setMapCheck) ∧ Mirrors .almSetConfig 0x0605 (passes almConfigCheck)

/-! ## Rules of the specification, word for word -/

/-- PERST_N resets slots H0-H3 as the function-level resets of the four functions would, and nothing else (R69). -/
def Obligations.PerstResetsFunctions : Prop :=
  ∀ s : State, ∃ t0 t1 t2 t3 : State,
    exec (.functionLevelReset 0) s = .next t0 ∧ exec (.functionLevelReset 1) t0 = .next t1 ∧
    exec (.functionLevelReset 2) t1 = .next t2 ∧ exec (.functionLevelReset 3) t2 = .next t3 ∧
    exec .perstNAssert s = .next t3

/-- A packet whose cells are not ceil((20 + P) / 64) fails, and what stands after its trailer is ignored (R78). -/
def Obligations.PacketCells : Prop :=
  ∀ (p : List Byte) (cells : Nat), 14 ≤ p.length →
    (cells ≠ (20 + u16 p 12) / 64 + (if (20 + u16 p 12) % 64 = 0 then 0 else 1) →
      packetCheck p cells = some Status.badLength) ∧
    (∀ pad : List Byte, 20 + u16 p 12 ≤ p.length →
      packetCheck (p.take (20 + u16 p 12) ++ pad) cells = packetCheck p cells)

/-- A plain contact is ACTIVE up to ACT_MAX and NORMAL above it, and raises no faults (R506). -/
def Obligations.PlainContact : Prop :=
  (∀ (e : List Byte) (mv : Nat), SafCfg.inSupervised e = false →
    InState.ofBand (bandOf e mv) = if mv ≤ u16 e 4 then .active else .normal) ∧
  (∀ (i mv : Nat) (s : State),
    SafCfg.inSupervised (s.saf.inputEntry i) = false → ((s.sampleInput i mv).safIn i).between = none) ∧
  (∀ (i mv : Nat) (s : State), i < 8 →
    SafCfg.inSupervised (s.saf.inputEntry i) = false →
    let u := s.sampleInput i mv
    exec (.inputBandTimeout i) u = .next (u.goesTo u) ∧
    (u.inputDue i = true → exec (.inputStateChange i) u = .next (u.goesTo
      (u.inputTakes i (if (u.safIn i).mv ≤ u16 (s.saf.inputEntry i) 4 then .active else .normal)))))

/-- A lockstep mismatch and the expiry of the watchdog stop the island as LS_RESET_N does, but for the cause it keeps
and the pin itself (R500). -/
def Obligations.LockstepResets : Prop :=
  ∀ s : State, s.saf.ready = true → s.saf.present = true →
    ∃ t u v : State, exec .lsResetNAssert s = .next t ∧ exec .lockstepMismatch s = .next u ∧
      exec .islandWatchdogExpire s = .next v ∧
      t.saf.ready = false ∧ u.saf.ready = false ∧ v.saf.ready = false ∧
      u.saf.req = t.saf.req ∧ v.saf.req = t.saf.req

/-- A new binding sets the slot's accepted-sequence floor to 0 (R107). -/
def Obligations.BindingResetsFloor : Prop :=
  ∀ (q : Nat) (s t : State) (i : OpInfo) (r : Req), s.offer q 0x0107 = some (t, i, r) → bindCheck r t = none →
    t.mirrors i r = false → ∃ u, exec (.sysBindUdp q) s = .next u ∧ (u.slot r.index).udp.floor = 0

/-- A hardware queue keeps its pointers in order through every cycle, whatever is pushed and popped in it. -/
def Obligations.QueueKeepsSound : Prop :=
  ∀ (q sec ns : Nat) (x : Queue) (push : Option PushOp) (pop : Bool),
    x.sound q = true → (queueCycle q x push pop sec ns).1.sound q = true

/-- A hardware queue gives packets in the order in which they were committed (R118-R127): a pop takes the front, a push
adds to the open packet only, COMMIT puts the open packet at the end, and ABORT forgets it. -/
def Obligations.QueueKeepsOrder : Prop :=
  ∀ (q sec ns : Nat) (x : Queue), x.sound q = true → bankLog2 q x ≠ 0 → x.copiesAgree = true →
    ((queueCycle q x none true sec ns).2 = (x.line q).head? ∧
      (queueCycle q x none true sec ns).1.line q = (x.line q).tail) ∧
    (x.discarding = false →
      (queueCycle q x (some .commit) false sec ns).1.line q = x.line q ++ markLast x.openCells ∧
      (queueCycle q x (some .commit) false sec ns).1.openCells = [] ∧
      (queueCycle q x (some .abort) false sec ns).1.line q = x.line q ∧
      (queueCycle q x (some .abort) false sec ns).1.openCells = []) ∧
    (∀ c, x.discarding = false → x.openLen < bankCells q x - 2 → (x.bank x.pushBank).sealed = false →
      (x.bank x.pushBank).cells.length < bankCells q x - 1 →
      (queueCycle q x (some (.push c)) false sec ns).1.line q = x.line q ∧
      (queueCycle q x (some (.push c)) false sec ns).1.openCells =
        x.openCells ++ [{ data := c, first := x.openAt.isNone, last := false }])
end

