-- ==== Sys2Proof/Laws/State.lean ====
section
/-!
SUPPORT. Sys2Proof/Laws/State.lean: what each single-field update of State leaves in every field.
-/
namespace Sys2Proof.Machine

@[simp] theorem State.markMemory_pending (s : State) (bit : Nat) : (s.markMemory bit).pending = s.pending := rfl
@[simp] theorem State.markMemory_freeCtr (s : State) (bit : Nat) : (s.markMemory bit).freeCtr = s.freeCtr := rfl
@[simp] theorem State.markMemory_host (s : State) (bit : Nat) : (s.markMemory bit).host = s.host := rfl
@[simp] theorem State.markMemory_gpio (s : State) (bit : Nat) : (s.markMemory bit).gpio = s.gpio := rfl
@[simp] theorem State.markMemory_queues (s : State) (bit : Nat) : (s.markMemory bit).queues = s.queues := rfl
@[simp] theorem State.markMemory_trav (s : State) (bit : Nat) : (s.markMemory bit).trav = s.trav := rfl
@[simp] theorem State.markMemory_time (s : State) (bit : Nat) : (s.markMemory bit).time = s.time := rfl
@[simp] theorem State.markMemory_pair (s : State) (bit : Nat) : (s.markMemory bit).pair = s.pair := rfl
@[simp] theorem State.markMemory_sys (s : State) (bit : Nat) : (s.markMemory bit).sys = s.sys := rfl
@[simp] theorem State.markMemory_otp (s : State) (bit : Nat) : (s.markMemory bit).otp = s.otp := rfl
@[simp] theorem State.markMemory_fab (s : State) (bit : Nat) : (s.markMemory bit).fab = s.fab := rfl
@[simp] theorem State.markMemory_net (s : State) (bit : Nat) : (s.markMemory bit).net = s.net := rfl
@[simp] theorem State.markMemory_saf (s : State) (bit : Nat) : (s.markMemory bit).saf = s.saf := rfl
@[simp] theorem State.markMemory_dat (s : State) (bit : Nat) : (s.markMemory bit).dat = s.dat := rfl
@[simp] theorem State.markMemory_str (s : State) (bit : Nat) : (s.markMemory bit).str = s.str := rfl
@[simp] theorem State.markMemory_ser (s : State) (bit : Nat) : (s.markMemory bit).ser = s.ser := rfl
@[simp] theorem State.markMemory_alm (s : State) (bit : Nat) : (s.markMemory bit).alm = s.alm := rfl
@[simp] theorem State.markMemory_obj (s : State) (bit : Nat) : (s.markMemory bit).obj = s.obj := rfl
@[simp] theorem State.markMemory_cor (s : State) (bit : Nat) : (s.markMemory bit).cor = s.cor := rfl
@[simp] theorem State.markMemory_mem (s : State) (bit : Nat) : (s.markMemory bit).mem = s.mem := rfl

@[simp] theorem State.sysMod_sys (s : State) (f : SysPart → SysPart) : (s.sysMod f).sys = f s.sys := rfl
@[simp] theorem State.sysMod_pending (s : State) (f : SysPart → SysPart) : (s.sysMod f).pending = s.pending := rfl
@[simp] theorem State.sysMod_freeCtr (s : State) (f : SysPart → SysPart) : (s.sysMod f).freeCtr = s.freeCtr := rfl
@[simp] theorem State.sysMod_host (s : State) (f : SysPart → SysPart) : (s.sysMod f).host = s.host := rfl
@[simp] theorem State.sysMod_gpio (s : State) (f : SysPart → SysPart) : (s.sysMod f).gpio = s.gpio := rfl
@[simp] theorem State.sysMod_queues (s : State) (f : SysPart → SysPart) : (s.sysMod f).queues = s.queues := rfl
@[simp] theorem State.sysMod_trav (s : State) (f : SysPart → SysPart) : (s.sysMod f).trav = s.trav := rfl
@[simp] theorem State.sysMod_time (s : State) (f : SysPart → SysPart) : (s.sysMod f).time = s.time := rfl
@[simp] theorem State.sysMod_sticky (s : State) (f : SysPart → SysPart) : (s.sysMod f).sticky = s.sticky := rfl
@[simp] theorem State.sysMod_pair (s : State) (f : SysPart → SysPart) : (s.sysMod f).pair = s.pair := rfl
@[simp] theorem State.sysMod_otp (s : State) (f : SysPart → SysPart) : (s.sysMod f).otp = s.otp := rfl
@[simp] theorem State.sysMod_fab (s : State) (f : SysPart → SysPart) : (s.sysMod f).fab = s.fab := rfl
@[simp] theorem State.sysMod_net (s : State) (f : SysPart → SysPart) : (s.sysMod f).net = s.net := rfl
@[simp] theorem State.sysMod_saf (s : State) (f : SysPart → SysPart) : (s.sysMod f).saf = s.saf := rfl
@[simp] theorem State.sysMod_dat (s : State) (f : SysPart → SysPart) : (s.sysMod f).dat = s.dat := rfl
@[simp] theorem State.sysMod_str (s : State) (f : SysPart → SysPart) : (s.sysMod f).str = s.str := rfl
@[simp] theorem State.sysMod_ser (s : State) (f : SysPart → SysPart) : (s.sysMod f).ser = s.ser := rfl
@[simp] theorem State.sysMod_alm (s : State) (f : SysPart → SysPart) : (s.sysMod f).alm = s.alm := rfl
@[simp] theorem State.sysMod_obj (s : State) (f : SysPart → SysPart) : (s.sysMod f).obj = s.obj := rfl
@[simp] theorem State.sysMod_cor (s : State) (f : SysPart → SysPart) : (s.sysMod f).cor = s.cor := rfl
@[simp] theorem State.sysMod_mem (s : State) (f : SysPart → SysPart) : (s.sysMod f).mem = s.mem := rfl

@[simp] theorem State.markFirmware_pending (s : State) (bit : Nat) : (s.markFirmware bit).pending = s.pending := rfl
@[simp] theorem State.markFirmware_freeCtr (s : State) (bit : Nat) : (s.markFirmware bit).freeCtr = s.freeCtr := rfl
@[simp] theorem State.markFirmware_host (s : State) (bit : Nat) : (s.markFirmware bit).host = s.host := rfl
@[simp] theorem State.markFirmware_gpio (s : State) (bit : Nat) : (s.markFirmware bit).gpio = s.gpio := rfl
@[simp] theorem State.markFirmware_queues (s : State) (bit : Nat) : (s.markFirmware bit).queues = s.queues := rfl
@[simp] theorem State.markFirmware_trav (s : State) (bit : Nat) : (s.markFirmware bit).trav = s.trav := rfl
@[simp] theorem State.markFirmware_time (s : State) (bit : Nat) : (s.markFirmware bit).time = s.time := rfl
@[simp] theorem State.markFirmware_pair (s : State) (bit : Nat) : (s.markFirmware bit).pair = s.pair := rfl
@[simp] theorem State.markFirmware_sys (s : State) (bit : Nat) : (s.markFirmware bit).sys = s.sys := rfl
@[simp] theorem State.markFirmware_otp (s : State) (bit : Nat) : (s.markFirmware bit).otp = s.otp := rfl
@[simp] theorem State.markFirmware_fab (s : State) (bit : Nat) : (s.markFirmware bit).fab = s.fab := rfl
@[simp] theorem State.markFirmware_net (s : State) (bit : Nat) : (s.markFirmware bit).net = s.net := rfl
@[simp] theorem State.markFirmware_saf (s : State) (bit : Nat) : (s.markFirmware bit).saf = s.saf := rfl
@[simp] theorem State.markFirmware_dat (s : State) (bit : Nat) : (s.markFirmware bit).dat = s.dat := rfl
@[simp] theorem State.markFirmware_str (s : State) (bit : Nat) : (s.markFirmware bit).str = s.str := rfl
@[simp] theorem State.markFirmware_ser (s : State) (bit : Nat) : (s.markFirmware bit).ser = s.ser := rfl
@[simp] theorem State.markFirmware_alm (s : State) (bit : Nat) : (s.markFirmware bit).alm = s.alm := rfl
@[simp] theorem State.markFirmware_obj (s : State) (bit : Nat) : (s.markFirmware bit).obj = s.obj := rfl
@[simp] theorem State.markFirmware_cor (s : State) (bit : Nat) : (s.markFirmware bit).cor = s.cor := rfl
@[simp] theorem State.markFirmware_mem (s : State) (bit : Nat) : (s.markFirmware bit).mem = s.mem := rfl

@[simp] theorem State.datMod_dat (s : State) (f : DatPart → DatPart) : (s.datMod f).dat = f s.dat := rfl
@[simp] theorem State.datMod_pending (s : State) (f : DatPart → DatPart) : (s.datMod f).pending = s.pending := rfl
@[simp] theorem State.datMod_freeCtr (s : State) (f : DatPart → DatPart) : (s.datMod f).freeCtr = s.freeCtr := rfl
@[simp] theorem State.datMod_host (s : State) (f : DatPart → DatPart) : (s.datMod f).host = s.host := rfl
@[simp] theorem State.datMod_gpio (s : State) (f : DatPart → DatPart) : (s.datMod f).gpio = s.gpio := rfl
@[simp] theorem State.datMod_queues (s : State) (f : DatPart → DatPart) : (s.datMod f).queues = s.queues := rfl
@[simp] theorem State.datMod_trav (s : State) (f : DatPart → DatPart) : (s.datMod f).trav = s.trav := rfl
@[simp] theorem State.datMod_time (s : State) (f : DatPart → DatPart) : (s.datMod f).time = s.time := rfl
@[simp] theorem State.datMod_sticky (s : State) (f : DatPart → DatPart) : (s.datMod f).sticky = s.sticky := rfl
@[simp] theorem State.datMod_pair (s : State) (f : DatPart → DatPart) : (s.datMod f).pair = s.pair := rfl
@[simp] theorem State.datMod_sys (s : State) (f : DatPart → DatPart) : (s.datMod f).sys = s.sys := rfl
@[simp] theorem State.datMod_otp (s : State) (f : DatPart → DatPart) : (s.datMod f).otp = s.otp := rfl
@[simp] theorem State.datMod_fab (s : State) (f : DatPart → DatPart) : (s.datMod f).fab = s.fab := rfl
@[simp] theorem State.datMod_net (s : State) (f : DatPart → DatPart) : (s.datMod f).net = s.net := rfl
@[simp] theorem State.datMod_saf (s : State) (f : DatPart → DatPart) : (s.datMod f).saf = s.saf := rfl
@[simp] theorem State.datMod_str (s : State) (f : DatPart → DatPart) : (s.datMod f).str = s.str := rfl
@[simp] theorem State.datMod_ser (s : State) (f : DatPart → DatPart) : (s.datMod f).ser = s.ser := rfl
@[simp] theorem State.datMod_alm (s : State) (f : DatPart → DatPart) : (s.datMod f).alm = s.alm := rfl
@[simp] theorem State.datMod_obj (s : State) (f : DatPart → DatPart) : (s.datMod f).obj = s.obj := rfl
@[simp] theorem State.datMod_cor (s : State) (f : DatPart → DatPart) : (s.datMod f).cor = s.cor := rfl
@[simp] theorem State.datMod_mem (s : State) (f : DatPart → DatPart) : (s.datMod f).mem = s.mem := rfl

@[simp] theorem State.fabMod_fab (s : State) (f : FabPart → FabPart) : (s.fabMod f).fab = f s.fab := rfl
@[simp] theorem State.fabMod_pending (s : State) (f : FabPart → FabPart) : (s.fabMod f).pending = s.pending := rfl
@[simp] theorem State.fabMod_freeCtr (s : State) (f : FabPart → FabPart) : (s.fabMod f).freeCtr = s.freeCtr := rfl
@[simp] theorem State.fabMod_host (s : State) (f : FabPart → FabPart) : (s.fabMod f).host = s.host := rfl
@[simp] theorem State.fabMod_gpio (s : State) (f : FabPart → FabPart) : (s.fabMod f).gpio = s.gpio := rfl
@[simp] theorem State.fabMod_queues (s : State) (f : FabPart → FabPart) : (s.fabMod f).queues = s.queues := rfl
@[simp] theorem State.fabMod_trav (s : State) (f : FabPart → FabPart) : (s.fabMod f).trav = s.trav := rfl
@[simp] theorem State.fabMod_time (s : State) (f : FabPart → FabPart) : (s.fabMod f).time = s.time := rfl
@[simp] theorem State.fabMod_sticky (s : State) (f : FabPart → FabPart) : (s.fabMod f).sticky = s.sticky := rfl
@[simp] theorem State.fabMod_pair (s : State) (f : FabPart → FabPart) : (s.fabMod f).pair = s.pair := rfl
@[simp] theorem State.fabMod_sys (s : State) (f : FabPart → FabPart) : (s.fabMod f).sys = s.sys := rfl
@[simp] theorem State.fabMod_otp (s : State) (f : FabPart → FabPart) : (s.fabMod f).otp = s.otp := rfl
@[simp] theorem State.fabMod_net (s : State) (f : FabPart → FabPart) : (s.fabMod f).net = s.net := rfl
@[simp] theorem State.fabMod_saf (s : State) (f : FabPart → FabPart) : (s.fabMod f).saf = s.saf := rfl
@[simp] theorem State.fabMod_dat (s : State) (f : FabPart → FabPart) : (s.fabMod f).dat = s.dat := rfl
@[simp] theorem State.fabMod_str (s : State) (f : FabPart → FabPart) : (s.fabMod f).str = s.str := rfl
@[simp] theorem State.fabMod_ser (s : State) (f : FabPart → FabPart) : (s.fabMod f).ser = s.ser := rfl
@[simp] theorem State.fabMod_alm (s : State) (f : FabPart → FabPart) : (s.fabMod f).alm = s.alm := rfl
@[simp] theorem State.fabMod_obj (s : State) (f : FabPart → FabPart) : (s.fabMod f).obj = s.obj := rfl
@[simp] theorem State.fabMod_cor (s : State) (f : FabPart → FabPart) : (s.fabMod f).cor = s.cor := rfl
@[simp] theorem State.fabMod_mem (s : State) (f : FabPart → FabPart) : (s.fabMod f).mem = s.mem := rfl

@[simp] theorem State.setReady_pending (s : State) (bit : Nat) (on : Bool) :
    (s.setReady bit on).pending = s.pending := rfl
@[simp] theorem State.setReady_freeCtr (s : State) (bit : Nat) (on : Bool) :
    (s.setReady bit on).freeCtr = s.freeCtr := rfl
@[simp] theorem State.setReady_gpio (s : State) (bit : Nat) (on : Bool) : (s.setReady bit on).gpio = s.gpio := rfl
@[simp] theorem State.setReady_queues (s : State) (bit : Nat) (on : Bool) :
    (s.setReady bit on).queues = s.queues := rfl
@[simp] theorem State.setReady_trav (s : State) (bit : Nat) (on : Bool) : (s.setReady bit on).trav = s.trav := rfl
@[simp] theorem State.setReady_time (s : State) (bit : Nat) (on : Bool) : (s.setReady bit on).time = s.time := rfl
@[simp] theorem State.setReady_sticky (s : State) (bit : Nat) (on : Bool) :
    (s.setReady bit on).sticky = s.sticky := rfl
@[simp] theorem State.setReady_pair (s : State) (bit : Nat) (on : Bool) : (s.setReady bit on).pair = s.pair := rfl
@[simp] theorem State.setReady_sys (s : State) (bit : Nat) (on : Bool) : (s.setReady bit on).sys = s.sys := rfl
@[simp] theorem State.setReady_otp (s : State) (bit : Nat) (on : Bool) : (s.setReady bit on).otp = s.otp := rfl
@[simp] theorem State.setReady_fab (s : State) (bit : Nat) (on : Bool) : (s.setReady bit on).fab = s.fab := rfl
@[simp] theorem State.setReady_net (s : State) (bit : Nat) (on : Bool) : (s.setReady bit on).net = s.net := rfl
@[simp] theorem State.setReady_saf (s : State) (bit : Nat) (on : Bool) : (s.setReady bit on).saf = s.saf := rfl
@[simp] theorem State.setReady_dat (s : State) (bit : Nat) (on : Bool) : (s.setReady bit on).dat = s.dat := rfl
@[simp] theorem State.setReady_str (s : State) (bit : Nat) (on : Bool) : (s.setReady bit on).str = s.str := rfl
@[simp] theorem State.setReady_ser (s : State) (bit : Nat) (on : Bool) : (s.setReady bit on).ser = s.ser := rfl
@[simp] theorem State.setReady_alm (s : State) (bit : Nat) (on : Bool) : (s.setReady bit on).alm = s.alm := rfl
@[simp] theorem State.setReady_obj (s : State) (bit : Nat) (on : Bool) : (s.setReady bit on).obj = s.obj := rfl
@[simp] theorem State.setReady_cor (s : State) (bit : Nat) (on : Bool) : (s.setReady bit on).cor = s.cor := rfl
@[simp] theorem State.setReady_mem (s : State) (bit : Nat) (on : Bool) : (s.setReady bit on).mem = s.mem := rfl

@[simp] theorem State.markFabric_pending (s : State) (bit : Nat) : (s.markFabric bit).pending = s.pending := rfl
@[simp] theorem State.markFabric_freeCtr (s : State) (bit : Nat) : (s.markFabric bit).freeCtr = s.freeCtr := rfl
@[simp] theorem State.markFabric_host (s : State) (bit : Nat) : (s.markFabric bit).host = s.host := rfl
@[simp] theorem State.markFabric_gpio (s : State) (bit : Nat) : (s.markFabric bit).gpio = s.gpio := rfl
@[simp] theorem State.markFabric_queues (s : State) (bit : Nat) : (s.markFabric bit).queues = s.queues := rfl
@[simp] theorem State.markFabric_trav (s : State) (bit : Nat) : (s.markFabric bit).trav = s.trav := rfl
@[simp] theorem State.markFabric_time (s : State) (bit : Nat) : (s.markFabric bit).time = s.time := rfl
@[simp] theorem State.markFabric_pair (s : State) (bit : Nat) : (s.markFabric bit).pair = s.pair := rfl
@[simp] theorem State.markFabric_sys (s : State) (bit : Nat) : (s.markFabric bit).sys = s.sys := rfl
@[simp] theorem State.markFabric_otp (s : State) (bit : Nat) : (s.markFabric bit).otp = s.otp := rfl
@[simp] theorem State.markFabric_fab (s : State) (bit : Nat) : (s.markFabric bit).fab = s.fab := rfl
@[simp] theorem State.markFabric_net (s : State) (bit : Nat) : (s.markFabric bit).net = s.net := rfl
@[simp] theorem State.markFabric_saf (s : State) (bit : Nat) : (s.markFabric bit).saf = s.saf := rfl
@[simp] theorem State.markFabric_dat (s : State) (bit : Nat) : (s.markFabric bit).dat = s.dat := rfl
@[simp] theorem State.markFabric_str (s : State) (bit : Nat) : (s.markFabric bit).str = s.str := rfl
@[simp] theorem State.markFabric_ser (s : State) (bit : Nat) : (s.markFabric bit).ser = s.ser := rfl
@[simp] theorem State.markFabric_alm (s : State) (bit : Nat) : (s.markFabric bit).alm = s.alm := rfl
@[simp] theorem State.markFabric_obj (s : State) (bit : Nat) : (s.markFabric bit).obj = s.obj := rfl
@[simp] theorem State.markFabric_cor (s : State) (bit : Nat) : (s.markFabric bit).cor = s.cor := rfl
@[simp] theorem State.markFabric_mem (s : State) (bit : Nat) : (s.markFabric bit).mem = s.mem := rfl

@[simp] theorem State.writeBank_pending (s : State) (k : Nat) (b : List Byte) :
    (s.writeBank k b).pending = s.pending := rfl
@[simp] theorem State.writeBank_freeCtr (s : State) (k : Nat) (b : List Byte) :
    (s.writeBank k b).freeCtr = s.freeCtr := rfl
@[simp] theorem State.writeBank_host (s : State) (k : Nat) (b : List Byte) : (s.writeBank k b).host = s.host := rfl
@[simp] theorem State.writeBank_gpio (s : State) (k : Nat) (b : List Byte) : (s.writeBank k b).gpio = s.gpio := rfl
@[simp] theorem State.writeBank_queues (s : State) (k : Nat) (b : List Byte) :
    (s.writeBank k b).queues = s.queues := rfl
@[simp] theorem State.writeBank_trav (s : State) (k : Nat) (b : List Byte) : (s.writeBank k b).trav = s.trav := rfl
@[simp] theorem State.writeBank_time (s : State) (k : Nat) (b : List Byte) : (s.writeBank k b).time = s.time := rfl
@[simp] theorem State.writeBank_sticky (s : State) (k : Nat) (b : List Byte) :
    (s.writeBank k b).sticky = s.sticky := rfl
@[simp] theorem State.writeBank_pair (s : State) (k : Nat) (b : List Byte) : (s.writeBank k b).pair = s.pair := rfl
@[simp] theorem State.writeBank_sys (s : State) (k : Nat) (b : List Byte) : (s.writeBank k b).sys = s.sys := rfl
@[simp] theorem State.writeBank_otp (s : State) (k : Nat) (b : List Byte) : (s.writeBank k b).otp = s.otp := rfl
@[simp] theorem State.writeBank_fab (s : State) (k : Nat) (b : List Byte) : (s.writeBank k b).fab = s.fab := rfl
@[simp] theorem State.writeBank_net (s : State) (k : Nat) (b : List Byte) : (s.writeBank k b).net = s.net := rfl
@[simp] theorem State.writeBank_saf (s : State) (k : Nat) (b : List Byte) : (s.writeBank k b).saf = s.saf := rfl
@[simp] theorem State.writeBank_dat (s : State) (k : Nat) (b : List Byte) : (s.writeBank k b).dat = s.dat := rfl
@[simp] theorem State.writeBank_str (s : State) (k : Nat) (b : List Byte) : (s.writeBank k b).str = s.str := rfl
@[simp] theorem State.writeBank_ser (s : State) (k : Nat) (b : List Byte) : (s.writeBank k b).ser = s.ser := rfl
@[simp] theorem State.writeBank_alm (s : State) (k : Nat) (b : List Byte) : (s.writeBank k b).alm = s.alm := rfl
@[simp] theorem State.writeBank_obj (s : State) (k : Nat) (b : List Byte) : (s.writeBank k b).obj = s.obj := rfl
@[simp] theorem State.writeBank_cor (s : State) (k : Nat) (b : List Byte) : (s.writeBank k b).cor = s.cor := rfl

@[simp] theorem State.setRead_pending (s : State) (i : Nat) (d : List Byte) :
    (s.setRead i d).pending = s.pending := rfl
@[simp] theorem State.setRead_freeCtr (s : State) (i : Nat) (d : List Byte) :
    (s.setRead i d).freeCtr = s.freeCtr := rfl
@[simp] theorem State.setRead_gpio (s : State) (i : Nat) (d : List Byte) : (s.setRead i d).gpio = s.gpio := rfl
@[simp] theorem State.setRead_queues (s : State) (i : Nat) (d : List Byte) : (s.setRead i d).queues = s.queues := rfl
@[simp] theorem State.setRead_trav (s : State) (i : Nat) (d : List Byte) : (s.setRead i d).trav = s.trav := rfl
@[simp] theorem State.setRead_time (s : State) (i : Nat) (d : List Byte) : (s.setRead i d).time = s.time := rfl
@[simp] theorem State.setRead_sticky (s : State) (i : Nat) (d : List Byte) : (s.setRead i d).sticky = s.sticky := rfl
@[simp] theorem State.setRead_pair (s : State) (i : Nat) (d : List Byte) : (s.setRead i d).pair = s.pair := rfl
@[simp] theorem State.setRead_sys (s : State) (i : Nat) (d : List Byte) : (s.setRead i d).sys = s.sys := rfl
@[simp] theorem State.setRead_otp (s : State) (i : Nat) (d : List Byte) : (s.setRead i d).otp = s.otp := rfl
@[simp] theorem State.setRead_fab (s : State) (i : Nat) (d : List Byte) : (s.setRead i d).fab = s.fab := rfl
@[simp] theorem State.setRead_net (s : State) (i : Nat) (d : List Byte) : (s.setRead i d).net = s.net := rfl
@[simp] theorem State.setRead_saf (s : State) (i : Nat) (d : List Byte) : (s.setRead i d).saf = s.saf := rfl
@[simp] theorem State.setRead_dat (s : State) (i : Nat) (d : List Byte) : (s.setRead i d).dat = s.dat := rfl
@[simp] theorem State.setRead_str (s : State) (i : Nat) (d : List Byte) : (s.setRead i d).str = s.str := rfl
@[simp] theorem State.setRead_ser (s : State) (i : Nat) (d : List Byte) : (s.setRead i d).ser = s.ser := rfl
@[simp] theorem State.setRead_alm (s : State) (i : Nat) (d : List Byte) : (s.setRead i d).alm = s.alm := rfl
@[simp] theorem State.setRead_obj (s : State) (i : Nat) (d : List Byte) : (s.setRead i d).obj = s.obj := rfl
@[simp] theorem State.setRead_cor (s : State) (i : Nat) (d : List Byte) : (s.setRead i d).cor = s.cor := rfl
@[simp] theorem State.setRead_mem (s : State) (i : Nat) (d : List Byte) : (s.setRead i d).mem = s.mem := rfl

@[simp] theorem State.countPort_pending (s : State) (port ctr n : Nat) :
    (s.countPort port ctr n).pending = s.pending := rfl
@[simp] theorem State.countPort_freeCtr (s : State) (port ctr n : Nat) :
    (s.countPort port ctr n).freeCtr = s.freeCtr := rfl
@[simp] theorem State.countPort_host (s : State) (port ctr n : Nat) : (s.countPort port ctr n).host = s.host := rfl
@[simp] theorem State.countPort_gpio (s : State) (port ctr n : Nat) : (s.countPort port ctr n).gpio = s.gpio := rfl
@[simp] theorem State.countPort_queues (s : State) (port ctr n : Nat) :
    (s.countPort port ctr n).queues = s.queues := rfl
@[simp] theorem State.countPort_trav (s : State) (port ctr n : Nat) : (s.countPort port ctr n).trav = s.trav := rfl
@[simp] theorem State.countPort_time (s : State) (port ctr n : Nat) : (s.countPort port ctr n).time = s.time := rfl
@[simp] theorem State.countPort_sticky (s : State) (port ctr n : Nat) :
    (s.countPort port ctr n).sticky = s.sticky := rfl
@[simp] theorem State.countPort_pair (s : State) (port ctr n : Nat) : (s.countPort port ctr n).pair = s.pair := rfl
@[simp] theorem State.countPort_sys (s : State) (port ctr n : Nat) : (s.countPort port ctr n).sys = s.sys := rfl
@[simp] theorem State.countPort_otp (s : State) (port ctr n : Nat) : (s.countPort port ctr n).otp = s.otp := rfl
@[simp] theorem State.countPort_fab (s : State) (port ctr n : Nat) : (s.countPort port ctr n).fab = s.fab := rfl
@[simp] theorem State.countPort_saf (s : State) (port ctr n : Nat) : (s.countPort port ctr n).saf = s.saf := rfl
@[simp] theorem State.countPort_dat (s : State) (port ctr n : Nat) : (s.countPort port ctr n).dat = s.dat := rfl
@[simp] theorem State.countPort_str (s : State) (port ctr n : Nat) : (s.countPort port ctr n).str = s.str := rfl
@[simp] theorem State.countPort_ser (s : State) (port ctr n : Nat) : (s.countPort port ctr n).ser = s.ser := rfl
@[simp] theorem State.countPort_alm (s : State) (port ctr n : Nat) : (s.countPort port ctr n).alm = s.alm := rfl
@[simp] theorem State.countPort_obj (s : State) (port ctr n : Nat) : (s.countPort port ctr n).obj = s.obj := rfl
@[simp] theorem State.countPort_cor (s : State) (port ctr n : Nat) : (s.countPort port ctr n).cor = s.cor := rfl
@[simp] theorem State.countPort_mem (s : State) (port ctr n : Nat) : (s.countPort port ctr n).mem = s.mem := rfl

@[simp] theorem State.setCmdQueue_pending (s : State) (q : Nat) (c : CmdQueue) :
    (s.setCmdQueue q c).pending = s.pending := rfl
@[simp] theorem State.setCmdQueue_freeCtr (s : State) (q : Nat) (c : CmdQueue) :
    (s.setCmdQueue q c).freeCtr = s.freeCtr := rfl
@[simp] theorem State.setCmdQueue_gpio (s : State) (q : Nat) (c : CmdQueue) : (s.setCmdQueue q c).gpio = s.gpio := rfl
@[simp] theorem State.setCmdQueue_queues (s : State) (q : Nat) (c : CmdQueue) :
    (s.setCmdQueue q c).queues = s.queues := rfl
@[simp] theorem State.setCmdQueue_trav (s : State) (q : Nat) (c : CmdQueue) : (s.setCmdQueue q c).trav = s.trav := rfl
@[simp] theorem State.setCmdQueue_time (s : State) (q : Nat) (c : CmdQueue) : (s.setCmdQueue q c).time = s.time := rfl
@[simp] theorem State.setCmdQueue_sticky (s : State) (q : Nat) (c : CmdQueue) :
    (s.setCmdQueue q c).sticky = s.sticky := rfl
@[simp] theorem State.setCmdQueue_pair (s : State) (q : Nat) (c : CmdQueue) : (s.setCmdQueue q c).pair = s.pair := rfl
@[simp] theorem State.setCmdQueue_sys (s : State) (q : Nat) (c : CmdQueue) : (s.setCmdQueue q c).sys = s.sys := rfl
@[simp] theorem State.setCmdQueue_otp (s : State) (q : Nat) (c : CmdQueue) : (s.setCmdQueue q c).otp = s.otp := rfl
@[simp] theorem State.setCmdQueue_fab (s : State) (q : Nat) (c : CmdQueue) : (s.setCmdQueue q c).fab = s.fab := rfl
@[simp] theorem State.setCmdQueue_net (s : State) (q : Nat) (c : CmdQueue) : (s.setCmdQueue q c).net = s.net := rfl
@[simp] theorem State.setCmdQueue_saf (s : State) (q : Nat) (c : CmdQueue) : (s.setCmdQueue q c).saf = s.saf := rfl
@[simp] theorem State.setCmdQueue_dat (s : State) (q : Nat) (c : CmdQueue) : (s.setCmdQueue q c).dat = s.dat := rfl
@[simp] theorem State.setCmdQueue_str (s : State) (q : Nat) (c : CmdQueue) : (s.setCmdQueue q c).str = s.str := rfl
@[simp] theorem State.setCmdQueue_ser (s : State) (q : Nat) (c : CmdQueue) : (s.setCmdQueue q c).ser = s.ser := rfl
@[simp] theorem State.setCmdQueue_alm (s : State) (q : Nat) (c : CmdQueue) : (s.setCmdQueue q c).alm = s.alm := rfl
@[simp] theorem State.setCmdQueue_obj (s : State) (q : Nat) (c : CmdQueue) : (s.setCmdQueue q c).obj = s.obj := rfl
@[simp] theorem State.setCmdQueue_cor (s : State) (q : Nat) (c : CmdQueue) : (s.setCmdQueue q c).cor = s.cor := rfl
@[simp] theorem State.setCmdQueue_mem (s : State) (q : Nat) (c : CmdQueue) : (s.setCmdQueue q c).mem = s.mem := rfl

@[simp] theorem State.settled_pending (s : State) (r : Req) : (s.settled r).pending = s.pending := rfl
@[simp] theorem State.settled_freeCtr (s : State) (r : Req) : (s.settled r).freeCtr = s.freeCtr := rfl
@[simp] theorem State.settled_gpio (s : State) (r : Req) : (s.settled r).gpio = s.gpio := rfl
@[simp] theorem State.settled_queues (s : State) (r : Req) : (s.settled r).queues = s.queues := rfl
@[simp] theorem State.settled_trav (s : State) (r : Req) : (s.settled r).trav = s.trav := rfl
@[simp] theorem State.settled_time (s : State) (r : Req) : (s.settled r).time = s.time := rfl
@[simp] theorem State.settled_sticky (s : State) (r : Req) : (s.settled r).sticky = s.sticky := rfl
@[simp] theorem State.settled_pair (s : State) (r : Req) : (s.settled r).pair = s.pair := rfl
@[simp] theorem State.settled_sys (s : State) (r : Req) : (s.settled r).sys = s.sys := rfl
@[simp] theorem State.settled_otp (s : State) (r : Req) : (s.settled r).otp = s.otp := rfl
@[simp] theorem State.settled_fab (s : State) (r : Req) : (s.settled r).fab = s.fab := rfl
@[simp] theorem State.settled_net (s : State) (r : Req) : (s.settled r).net = s.net := rfl
@[simp] theorem State.settled_saf (s : State) (r : Req) : (s.settled r).saf = s.saf := rfl
@[simp] theorem State.settled_dat (s : State) (r : Req) : (s.settled r).dat = s.dat := rfl
@[simp] theorem State.settled_str (s : State) (r : Req) : (s.settled r).str = s.str := rfl
@[simp] theorem State.settled_ser (s : State) (r : Req) : (s.settled r).ser = s.ser := rfl
@[simp] theorem State.settled_alm (s : State) (r : Req) : (s.settled r).alm = s.alm := rfl
@[simp] theorem State.settled_obj (s : State) (r : Req) : (s.settled r).obj = s.obj := rfl
@[simp] theorem State.settled_cor (s : State) (r : Req) : (s.settled r).cor = s.cor := rfl
@[simp] theorem State.settled_mem (s : State) (r : Req) : (s.settled r).mem = s.mem := rfl

@[simp] theorem State.addPending_pending (s : State) (p : Pending) : (s.addPending p).pending = s.pending := rfl
@[simp] theorem State.addPending_freeCtr (s : State) (p : Pending) : (s.addPending p).freeCtr = s.freeCtr := rfl
@[simp] theorem State.addPending_gpio (s : State) (p : Pending) : (s.addPending p).gpio = s.gpio := rfl
@[simp] theorem State.addPending_queues (s : State) (p : Pending) : (s.addPending p).queues = s.queues := rfl
@[simp] theorem State.addPending_trav (s : State) (p : Pending) : (s.addPending p).trav = s.trav := rfl
@[simp] theorem State.addPending_time (s : State) (p : Pending) : (s.addPending p).time = s.time := rfl
@[simp] theorem State.addPending_sticky (s : State) (p : Pending) : (s.addPending p).sticky = s.sticky := rfl
@[simp] theorem State.addPending_pair (s : State) (p : Pending) : (s.addPending p).pair = s.pair := rfl
@[simp] theorem State.addPending_sys (s : State) (p : Pending) : (s.addPending p).sys = s.sys := rfl
@[simp] theorem State.addPending_otp (s : State) (p : Pending) : (s.addPending p).otp = s.otp := rfl
@[simp] theorem State.addPending_fab (s : State) (p : Pending) : (s.addPending p).fab = s.fab := rfl
@[simp] theorem State.addPending_net (s : State) (p : Pending) : (s.addPending p).net = s.net := rfl
@[simp] theorem State.addPending_saf (s : State) (p : Pending) : (s.addPending p).saf = s.saf := rfl
@[simp] theorem State.addPending_dat (s : State) (p : Pending) : (s.addPending p).dat = s.dat := rfl
@[simp] theorem State.addPending_str (s : State) (p : Pending) : (s.addPending p).str = s.str := rfl
@[simp] theorem State.addPending_ser (s : State) (p : Pending) : (s.addPending p).ser = s.ser := rfl
@[simp] theorem State.addPending_alm (s : State) (p : Pending) : (s.addPending p).alm = s.alm := rfl
@[simp] theorem State.addPending_obj (s : State) (p : Pending) : (s.addPending p).obj = s.obj := rfl
@[simp] theorem State.addPending_cor (s : State) (p : Pending) : (s.addPending p).cor = s.cor := rfl
@[simp] theorem State.addPending_mem (s : State) (p : Pending) : (s.addPending p).mem = s.mem := rfl

@[simp] theorem State.setOvl_pending (s : State) (n : Nat) (x : Ovl) : (s.setOvl n x).pending = s.pending := rfl
@[simp] theorem State.setOvl_freeCtr (s : State) (n : Nat) (x : Ovl) : (s.setOvl n x).freeCtr = s.freeCtr := rfl
@[simp] theorem State.setOvl_host (s : State) (n : Nat) (x : Ovl) : (s.setOvl n x).host = s.host := rfl
@[simp] theorem State.setOvl_gpio (s : State) (n : Nat) (x : Ovl) : (s.setOvl n x).gpio = s.gpio := rfl
@[simp] theorem State.setOvl_queues (s : State) (n : Nat) (x : Ovl) : (s.setOvl n x).queues = s.queues := rfl
@[simp] theorem State.setOvl_trav (s : State) (n : Nat) (x : Ovl) : (s.setOvl n x).trav = s.trav := rfl
@[simp] theorem State.setOvl_time (s : State) (n : Nat) (x : Ovl) : (s.setOvl n x).time = s.time := rfl
@[simp] theorem State.setOvl_sticky (s : State) (n : Nat) (x : Ovl) : (s.setOvl n x).sticky = s.sticky := rfl
@[simp] theorem State.setOvl_pair (s : State) (n : Nat) (x : Ovl) : (s.setOvl n x).pair = s.pair := rfl
@[simp] theorem State.setOvl_sys (s : State) (n : Nat) (x : Ovl) : (s.setOvl n x).sys = s.sys := rfl
@[simp] theorem State.setOvl_otp (s : State) (n : Nat) (x : Ovl) : (s.setOvl n x).otp = s.otp := rfl
@[simp] theorem State.setOvl_fab (s : State) (n : Nat) (x : Ovl) : (s.setOvl n x).fab = s.fab := rfl
@[simp] theorem State.setOvl_net (s : State) (n : Nat) (x : Ovl) : (s.setOvl n x).net = s.net := rfl
@[simp] theorem State.setOvl_saf (s : State) (n : Nat) (x : Ovl) : (s.setOvl n x).saf = s.saf := rfl
@[simp] theorem State.setOvl_str (s : State) (n : Nat) (x : Ovl) : (s.setOvl n x).str = s.str := rfl
@[simp] theorem State.setOvl_ser (s : State) (n : Nat) (x : Ovl) : (s.setOvl n x).ser = s.ser := rfl
@[simp] theorem State.setOvl_alm (s : State) (n : Nat) (x : Ovl) : (s.setOvl n x).alm = s.alm := rfl
@[simp] theorem State.setOvl_obj (s : State) (n : Nat) (x : Ovl) : (s.setOvl n x).obj = s.obj := rfl
@[simp] theorem State.setOvl_cor (s : State) (n : Nat) (x : Ovl) : (s.setOvl n x).cor = s.cor := rfl
@[simp] theorem State.setOvl_mem (s : State) (n : Nat) (x : Ovl) : (s.setOvl n x).mem = s.mem := rfl

@[simp] theorem State.setPin_pending (s : State) (p : Nat) (x : GpioPin) : (s.setPin p x).pending = s.pending := rfl
@[simp] theorem State.setPin_freeCtr (s : State) (p : Nat) (x : GpioPin) : (s.setPin p x).freeCtr = s.freeCtr := rfl
@[simp] theorem State.setPin_host (s : State) (p : Nat) (x : GpioPin) : (s.setPin p x).host = s.host := rfl
@[simp] theorem State.setPin_queues (s : State) (p : Nat) (x : GpioPin) : (s.setPin p x).queues = s.queues := rfl
@[simp] theorem State.setPin_trav (s : State) (p : Nat) (x : GpioPin) : (s.setPin p x).trav = s.trav := rfl
@[simp] theorem State.setPin_time (s : State) (p : Nat) (x : GpioPin) : (s.setPin p x).time = s.time := rfl
@[simp] theorem State.setPin_sticky (s : State) (p : Nat) (x : GpioPin) : (s.setPin p x).sticky = s.sticky := rfl
@[simp] theorem State.setPin_pair (s : State) (p : Nat) (x : GpioPin) : (s.setPin p x).pair = s.pair := rfl
@[simp] theorem State.setPin_sys (s : State) (p : Nat) (x : GpioPin) : (s.setPin p x).sys = s.sys := rfl
@[simp] theorem State.setPin_otp (s : State) (p : Nat) (x : GpioPin) : (s.setPin p x).otp = s.otp := rfl
@[simp] theorem State.setPin_fab (s : State) (p : Nat) (x : GpioPin) : (s.setPin p x).fab = s.fab := rfl
@[simp] theorem State.setPin_net (s : State) (p : Nat) (x : GpioPin) : (s.setPin p x).net = s.net := rfl
@[simp] theorem State.setPin_saf (s : State) (p : Nat) (x : GpioPin) : (s.setPin p x).saf = s.saf := rfl
@[simp] theorem State.setPin_dat (s : State) (p : Nat) (x : GpioPin) : (s.setPin p x).dat = s.dat := rfl
@[simp] theorem State.setPin_str (s : State) (p : Nat) (x : GpioPin) : (s.setPin p x).str = s.str := rfl
@[simp] theorem State.setPin_ser (s : State) (p : Nat) (x : GpioPin) : (s.setPin p x).ser = s.ser := rfl
@[simp] theorem State.setPin_alm (s : State) (p : Nat) (x : GpioPin) : (s.setPin p x).alm = s.alm := rfl
@[simp] theorem State.setPin_obj (s : State) (p : Nat) (x : GpioPin) : (s.setPin p x).obj = s.obj := rfl
@[simp] theorem State.setPin_cor (s : State) (p : Nat) (x : GpioPin) : (s.setPin p x).cor = s.cor := rfl
@[simp] theorem State.setPin_mem (s : State) (p : Nat) (x : GpioPin) : (s.setPin p x).mem = s.mem := rfl

@[simp] theorem State.countStale_pending (s : State) : (s.countStale).pending = s.pending := rfl
@[simp] theorem State.countStale_freeCtr (s : State) : (s.countStale).freeCtr = s.freeCtr := rfl
@[simp] theorem State.countStale_gpio (s : State) : (s.countStale).gpio = s.gpio := rfl
@[simp] theorem State.countStale_queues (s : State) : (s.countStale).queues = s.queues := rfl
@[simp] theorem State.countStale_trav (s : State) : (s.countStale).trav = s.trav := rfl
@[simp] theorem State.countStale_time (s : State) : (s.countStale).time = s.time := rfl
@[simp] theorem State.countStale_sticky (s : State) : (s.countStale).sticky = s.sticky := rfl
@[simp] theorem State.countStale_pair (s : State) : (s.countStale).pair = s.pair := rfl
@[simp] theorem State.countStale_sys (s : State) : (s.countStale).sys = s.sys := rfl
@[simp] theorem State.countStale_otp (s : State) : (s.countStale).otp = s.otp := rfl
@[simp] theorem State.countStale_fab (s : State) : (s.countStale).fab = s.fab := rfl
@[simp] theorem State.countStale_net (s : State) : (s.countStale).net = s.net := rfl
@[simp] theorem State.countStale_saf (s : State) : (s.countStale).saf = s.saf := rfl
@[simp] theorem State.countStale_dat (s : State) : (s.countStale).dat = s.dat := rfl
@[simp] theorem State.countStale_str (s : State) : (s.countStale).str = s.str := rfl
@[simp] theorem State.countStale_ser (s : State) : (s.countStale).ser = s.ser := rfl
@[simp] theorem State.countStale_alm (s : State) : (s.countStale).alm = s.alm := rfl
@[simp] theorem State.countStale_obj (s : State) : (s.countStale).obj = s.obj := rfl
@[simp] theorem State.countStale_cor (s : State) : (s.countStale).cor = s.cor := rfl
@[simp] theorem State.countStale_mem (s : State) : (s.countStale).mem = s.mem := rfl

@[simp] theorem State.sightMod_pending (s : State) (f : Sight → Sight) : (s.sightMod f).pending = s.pending := rfl
@[simp] theorem State.sightMod_freeCtr (s : State) (f : Sight → Sight) : (s.sightMod f).freeCtr = s.freeCtr := rfl
@[simp] theorem State.sightMod_host (s : State) (f : Sight → Sight) : (s.sightMod f).host = s.host := rfl
@[simp] theorem State.sightMod_gpio (s : State) (f : Sight → Sight) : (s.sightMod f).gpio = s.gpio := rfl
@[simp] theorem State.sightMod_queues (s : State) (f : Sight → Sight) : (s.sightMod f).queues = s.queues := rfl
@[simp] theorem State.sightMod_trav (s : State) (f : Sight → Sight) : (s.sightMod f).trav = s.trav := rfl
@[simp] theorem State.sightMod_time (s : State) (f : Sight → Sight) : (s.sightMod f).time = s.time := rfl
@[simp] theorem State.sightMod_sticky (s : State) (f : Sight → Sight) : (s.sightMod f).sticky = s.sticky := rfl
@[simp] theorem State.sightMod_pair (s : State) (f : Sight → Sight) : (s.sightMod f).pair = s.pair := rfl
@[simp] theorem State.sightMod_sys (s : State) (f : Sight → Sight) : (s.sightMod f).sys = s.sys := rfl
@[simp] theorem State.sightMod_otp (s : State) (f : Sight → Sight) : (s.sightMod f).otp = s.otp := rfl
@[simp] theorem State.sightMod_fab (s : State) (f : Sight → Sight) : (s.sightMod f).fab = s.fab := rfl
@[simp] theorem State.sightMod_saf (s : State) (f : Sight → Sight) : (s.sightMod f).saf = s.saf := rfl
@[simp] theorem State.sightMod_dat (s : State) (f : Sight → Sight) : (s.sightMod f).dat = s.dat := rfl
@[simp] theorem State.sightMod_str (s : State) (f : Sight → Sight) : (s.sightMod f).str = s.str := rfl
@[simp] theorem State.sightMod_ser (s : State) (f : Sight → Sight) : (s.sightMod f).ser = s.ser := rfl
@[simp] theorem State.sightMod_alm (s : State) (f : Sight → Sight) : (s.sightMod f).alm = s.alm := rfl
@[simp] theorem State.sightMod_obj (s : State) (f : Sight → Sight) : (s.sightMod f).obj = s.obj := rfl
@[simp] theorem State.sightMod_cor (s : State) (f : Sight → Sight) : (s.sightMod f).cor = s.cor := rfl
@[simp] theorem State.sightMod_mem (s : State) (f : Sight → Sight) : (s.sightMod f).mem = s.mem := rfl

@[simp] theorem State.safMod_saf (s : State) (f : SafPart → SafPart) : (s.safMod f).saf = f s.saf := rfl
@[simp] theorem State.safMod_pending (s : State) (f : SafPart → SafPart) : (s.safMod f).pending = s.pending := rfl
@[simp] theorem State.safMod_freeCtr (s : State) (f : SafPart → SafPart) : (s.safMod f).freeCtr = s.freeCtr := rfl
@[simp] theorem State.safMod_host (s : State) (f : SafPart → SafPart) : (s.safMod f).host = s.host := rfl
@[simp] theorem State.safMod_gpio (s : State) (f : SafPart → SafPart) : (s.safMod f).gpio = s.gpio := rfl
@[simp] theorem State.safMod_queues (s : State) (f : SafPart → SafPart) : (s.safMod f).queues = s.queues := rfl
@[simp] theorem State.safMod_trav (s : State) (f : SafPart → SafPart) : (s.safMod f).trav = s.trav := rfl
@[simp] theorem State.safMod_time (s : State) (f : SafPart → SafPart) : (s.safMod f).time = s.time := rfl
@[simp] theorem State.safMod_sticky (s : State) (f : SafPart → SafPart) : (s.safMod f).sticky = s.sticky := rfl
@[simp] theorem State.safMod_pair (s : State) (f : SafPart → SafPart) : (s.safMod f).pair = s.pair := rfl
@[simp] theorem State.safMod_sys (s : State) (f : SafPart → SafPart) : (s.safMod f).sys = s.sys := rfl
@[simp] theorem State.safMod_otp (s : State) (f : SafPart → SafPart) : (s.safMod f).otp = s.otp := rfl
@[simp] theorem State.safMod_fab (s : State) (f : SafPart → SafPart) : (s.safMod f).fab = s.fab := rfl
@[simp] theorem State.safMod_net (s : State) (f : SafPart → SafPart) : (s.safMod f).net = s.net := rfl
@[simp] theorem State.safMod_dat (s : State) (f : SafPart → SafPart) : (s.safMod f).dat = s.dat := rfl
@[simp] theorem State.safMod_str (s : State) (f : SafPart → SafPart) : (s.safMod f).str = s.str := rfl
@[simp] theorem State.safMod_ser (s : State) (f : SafPart → SafPart) : (s.safMod f).ser = s.ser := rfl
@[simp] theorem State.safMod_alm (s : State) (f : SafPart → SafPart) : (s.safMod f).alm = s.alm := rfl
@[simp] theorem State.safMod_obj (s : State) (f : SafPart → SafPart) : (s.safMod f).obj = s.obj := rfl
@[simp] theorem State.safMod_cor (s : State) (f : SafPart → SafPart) : (s.safMod f).cor = s.cor := rfl
@[simp] theorem State.safMod_mem (s : State) (f : SafPart → SafPart) : (s.safMod f).mem = s.mem := rfl

@[simp] theorem State.setChan_pending (s : State) (c : Nat) (x : Channel) : (s.setChan c x).pending = s.pending := rfl
@[simp] theorem State.setChan_freeCtr (s : State) (c : Nat) (x : Channel) : (s.setChan c x).freeCtr = s.freeCtr := rfl
@[simp] theorem State.setChan_host (s : State) (c : Nat) (x : Channel) : (s.setChan c x).host = s.host := rfl
@[simp] theorem State.setChan_gpio (s : State) (c : Nat) (x : Channel) : (s.setChan c x).gpio = s.gpio := rfl
@[simp] theorem State.setChan_queues (s : State) (c : Nat) (x : Channel) : (s.setChan c x).queues = s.queues := rfl
@[simp] theorem State.setChan_time (s : State) (c : Nat) (x : Channel) : (s.setChan c x).time = s.time := rfl
@[simp] theorem State.setChan_sticky (s : State) (c : Nat) (x : Channel) : (s.setChan c x).sticky = s.sticky := rfl
@[simp] theorem State.setChan_pair (s : State) (c : Nat) (x : Channel) : (s.setChan c x).pair = s.pair := rfl
@[simp] theorem State.setChan_sys (s : State) (c : Nat) (x : Channel) : (s.setChan c x).sys = s.sys := rfl
@[simp] theorem State.setChan_otp (s : State) (c : Nat) (x : Channel) : (s.setChan c x).otp = s.otp := rfl
@[simp] theorem State.setChan_fab (s : State) (c : Nat) (x : Channel) : (s.setChan c x).fab = s.fab := rfl
@[simp] theorem State.setChan_net (s : State) (c : Nat) (x : Channel) : (s.setChan c x).net = s.net := rfl
@[simp] theorem State.setChan_saf (s : State) (c : Nat) (x : Channel) : (s.setChan c x).saf = s.saf := rfl
@[simp] theorem State.setChan_dat (s : State) (c : Nat) (x : Channel) : (s.setChan c x).dat = s.dat := rfl
@[simp] theorem State.setChan_str (s : State) (c : Nat) (x : Channel) : (s.setChan c x).str = s.str := rfl
@[simp] theorem State.setChan_ser (s : State) (c : Nat) (x : Channel) : (s.setChan c x).ser = s.ser := rfl
@[simp] theorem State.setChan_alm (s : State) (c : Nat) (x : Channel) : (s.setChan c x).alm = s.alm := rfl
@[simp] theorem State.setChan_obj (s : State) (c : Nat) (x : Channel) : (s.setChan c x).obj = s.obj := rfl
@[simp] theorem State.setChan_cor (s : State) (c : Nat) (x : Channel) : (s.setChan c x).cor = s.cor := rfl
@[simp] theorem State.setChan_mem (s : State) (c : Nat) (x : Channel) : (s.setChan c x).mem = s.mem := rfl

@[simp] theorem State.releaseEngine_pending (s : State) (c : Nat) : (s.releaseEngine c).pending = s.pending := rfl
@[simp] theorem State.releaseEngine_freeCtr (s : State) (c : Nat) : (s.releaseEngine c).freeCtr = s.freeCtr := rfl
@[simp] theorem State.releaseEngine_host (s : State) (c : Nat) : (s.releaseEngine c).host = s.host := rfl
@[simp] theorem State.releaseEngine_gpio (s : State) (c : Nat) : (s.releaseEngine c).gpio = s.gpio := rfl
@[simp] theorem State.releaseEngine_queues (s : State) (c : Nat) : (s.releaseEngine c).queues = s.queues := rfl
@[simp] theorem State.releaseEngine_time (s : State) (c : Nat) : (s.releaseEngine c).time = s.time := rfl
@[simp] theorem State.releaseEngine_sticky (s : State) (c : Nat) : (s.releaseEngine c).sticky = s.sticky := rfl
@[simp] theorem State.releaseEngine_pair (s : State) (c : Nat) : (s.releaseEngine c).pair = s.pair := rfl
@[simp] theorem State.releaseEngine_sys (s : State) (c : Nat) : (s.releaseEngine c).sys = s.sys := rfl
@[simp] theorem State.releaseEngine_otp (s : State) (c : Nat) : (s.releaseEngine c).otp = s.otp := rfl
@[simp] theorem State.releaseEngine_fab (s : State) (c : Nat) : (s.releaseEngine c).fab = s.fab := rfl
@[simp] theorem State.releaseEngine_net (s : State) (c : Nat) : (s.releaseEngine c).net = s.net := rfl
@[simp] theorem State.releaseEngine_saf (s : State) (c : Nat) : (s.releaseEngine c).saf = s.saf := rfl
@[simp] theorem State.releaseEngine_dat (s : State) (c : Nat) : (s.releaseEngine c).dat = s.dat := rfl
@[simp] theorem State.releaseEngine_str (s : State) (c : Nat) : (s.releaseEngine c).str = s.str := rfl
@[simp] theorem State.releaseEngine_ser (s : State) (c : Nat) : (s.releaseEngine c).ser = s.ser := rfl
@[simp] theorem State.releaseEngine_alm (s : State) (c : Nat) : (s.releaseEngine c).alm = s.alm := rfl
@[simp] theorem State.releaseEngine_obj (s : State) (c : Nat) : (s.releaseEngine c).obj = s.obj := rfl
@[simp] theorem State.releaseEngine_cor (s : State) (c : Nat) : (s.releaseEngine c).cor = s.cor := rfl
@[simp] theorem State.releaseEngine_mem (s : State) (c : Nat) : (s.releaseEngine c).mem = s.mem := rfl

@[simp] theorem State.timeMod_time (s : State) (f : TimePart → TimePart) : (s.timeMod f).time = f s.time := rfl
@[simp] theorem State.timeMod_pending (s : State) (f : TimePart → TimePart) : (s.timeMod f).pending = s.pending := rfl
@[simp] theorem State.timeMod_freeCtr (s : State) (f : TimePart → TimePart) : (s.timeMod f).freeCtr = s.freeCtr := rfl
@[simp] theorem State.timeMod_host (s : State) (f : TimePart → TimePart) : (s.timeMod f).host = s.host := rfl
@[simp] theorem State.timeMod_gpio (s : State) (f : TimePart → TimePart) : (s.timeMod f).gpio = s.gpio := rfl
@[simp] theorem State.timeMod_queues (s : State) (f : TimePart → TimePart) : (s.timeMod f).queues = s.queues := rfl
@[simp] theorem State.timeMod_trav (s : State) (f : TimePart → TimePart) : (s.timeMod f).trav = s.trav := rfl
@[simp] theorem State.timeMod_sticky (s : State) (f : TimePart → TimePart) : (s.timeMod f).sticky = s.sticky := rfl
@[simp] theorem State.timeMod_pair (s : State) (f : TimePart → TimePart) : (s.timeMod f).pair = s.pair := rfl
@[simp] theorem State.timeMod_sys (s : State) (f : TimePart → TimePart) : (s.timeMod f).sys = s.sys := rfl
@[simp] theorem State.timeMod_otp (s : State) (f : TimePart → TimePart) : (s.timeMod f).otp = s.otp := rfl
@[simp] theorem State.timeMod_fab (s : State) (f : TimePart → TimePart) : (s.timeMod f).fab = s.fab := rfl
@[simp] theorem State.timeMod_net (s : State) (f : TimePart → TimePart) : (s.timeMod f).net = s.net := rfl
@[simp] theorem State.timeMod_saf (s : State) (f : TimePart → TimePart) : (s.timeMod f).saf = s.saf := rfl
@[simp] theorem State.timeMod_dat (s : State) (f : TimePart → TimePart) : (s.timeMod f).dat = s.dat := rfl
@[simp] theorem State.timeMod_str (s : State) (f : TimePart → TimePart) : (s.timeMod f).str = s.str := rfl
@[simp] theorem State.timeMod_ser (s : State) (f : TimePart → TimePart) : (s.timeMod f).ser = s.ser := rfl
@[simp] theorem State.timeMod_alm (s : State) (f : TimePart → TimePart) : (s.timeMod f).alm = s.alm := rfl
@[simp] theorem State.timeMod_obj (s : State) (f : TimePart → TimePart) : (s.timeMod f).obj = s.obj := rfl
@[simp] theorem State.timeMod_cor (s : State) (f : TimePart → TimePart) : (s.timeMod f).cor = s.cor := rfl
@[simp] theorem State.timeMod_mem (s : State) (f : TimePart → TimePart) : (s.timeMod f).mem = s.mem := rfl

@[simp] theorem State.crystalStop_pending (s : State) : (s.crystalStop).pending = s.pending := rfl
@[simp] theorem State.crystalStop_freeCtr (s : State) : (s.crystalStop).freeCtr = s.freeCtr := rfl
@[simp] theorem State.crystalStop_host (s : State) : (s.crystalStop).host = s.host := rfl
@[simp] theorem State.crystalStop_gpio (s : State) : (s.crystalStop).gpio = s.gpio := rfl
@[simp] theorem State.crystalStop_queues (s : State) : (s.crystalStop).queues = s.queues := rfl
@[simp] theorem State.crystalStop_trav (s : State) : (s.crystalStop).trav = s.trav := rfl
@[simp] theorem State.crystalStop_time (s : State) : (s.crystalStop).time = s.time := rfl
@[simp] theorem State.crystalStop_pair (s : State) : (s.crystalStop).pair = s.pair := rfl
@[simp] theorem State.crystalStop_sys (s : State) : (s.crystalStop).sys = s.sys := rfl
@[simp] theorem State.crystalStop_otp (s : State) : (s.crystalStop).otp = s.otp := rfl
@[simp] theorem State.crystalStop_fab (s : State) : (s.crystalStop).fab = s.fab := rfl
@[simp] theorem State.crystalStop_net (s : State) : (s.crystalStop).net = s.net := rfl
@[simp] theorem State.crystalStop_saf (s : State) : (s.crystalStop).saf = s.saf := rfl
@[simp] theorem State.crystalStop_dat (s : State) : (s.crystalStop).dat = s.dat := rfl
@[simp] theorem State.crystalStop_str (s : State) : (s.crystalStop).str = s.str := rfl
@[simp] theorem State.crystalStop_ser (s : State) : (s.crystalStop).ser = s.ser := rfl
@[simp] theorem State.crystalStop_alm (s : State) : (s.crystalStop).alm = s.alm := rfl
@[simp] theorem State.crystalStop_obj (s : State) : (s.crystalStop).obj = s.obj := rfl
@[simp] theorem State.crystalStop_cor (s : State) : (s.crystalStop).cor = s.cor := rfl
@[simp] theorem State.crystalStop_mem (s : State) : (s.crystalStop).mem = s.mem := rfl

@[simp] theorem State.netMod_net (s : State) (f : NetPart → NetPart) : (s.netMod f).net = f s.net := rfl
@[simp] theorem State.netMod_pending (s : State) (f : NetPart → NetPart) : (s.netMod f).pending = s.pending := rfl
@[simp] theorem State.netMod_freeCtr (s : State) (f : NetPart → NetPart) : (s.netMod f).freeCtr = s.freeCtr := rfl
@[simp] theorem State.netMod_host (s : State) (f : NetPart → NetPart) : (s.netMod f).host = s.host := rfl
@[simp] theorem State.netMod_gpio (s : State) (f : NetPart → NetPart) : (s.netMod f).gpio = s.gpio := rfl
@[simp] theorem State.netMod_queues (s : State) (f : NetPart → NetPart) : (s.netMod f).queues = s.queues := rfl
@[simp] theorem State.netMod_trav (s : State) (f : NetPart → NetPart) : (s.netMod f).trav = s.trav := rfl
@[simp] theorem State.netMod_time (s : State) (f : NetPart → NetPart) : (s.netMod f).time = s.time := rfl
@[simp] theorem State.netMod_sticky (s : State) (f : NetPart → NetPart) : (s.netMod f).sticky = s.sticky := rfl
@[simp] theorem State.netMod_pair (s : State) (f : NetPart → NetPart) : (s.netMod f).pair = s.pair := rfl
@[simp] theorem State.netMod_sys (s : State) (f : NetPart → NetPart) : (s.netMod f).sys = s.sys := rfl
@[simp] theorem State.netMod_otp (s : State) (f : NetPart → NetPart) : (s.netMod f).otp = s.otp := rfl
@[simp] theorem State.netMod_fab (s : State) (f : NetPart → NetPart) : (s.netMod f).fab = s.fab := rfl
@[simp] theorem State.netMod_saf (s : State) (f : NetPart → NetPart) : (s.netMod f).saf = s.saf := rfl
@[simp] theorem State.netMod_dat (s : State) (f : NetPart → NetPart) : (s.netMod f).dat = s.dat := rfl
@[simp] theorem State.netMod_str (s : State) (f : NetPart → NetPart) : (s.netMod f).str = s.str := rfl
@[simp] theorem State.netMod_ser (s : State) (f : NetPart → NetPart) : (s.netMod f).ser = s.ser := rfl
@[simp] theorem State.netMod_alm (s : State) (f : NetPart → NetPart) : (s.netMod f).alm = s.alm := rfl
@[simp] theorem State.netMod_obj (s : State) (f : NetPart → NetPart) : (s.netMod f).obj = s.obj := rfl
@[simp] theorem State.netMod_cor (s : State) (f : NetPart → NetPart) : (s.netMod f).cor = s.cor := rfl
@[simp] theorem State.netMod_mem (s : State) (f : NetPart → NetPart) : (s.netMod f).mem = s.mem := rfl

@[simp] theorem State.powerParts_pending (s : State) (mask : Word) : (s.powerParts mask).pending = s.pending := rfl
@[simp] theorem State.powerParts_freeCtr (s : State) (mask : Word) : (s.powerParts mask).freeCtr = s.freeCtr := rfl
@[simp] theorem State.powerParts_host (s : State) (mask : Word) : (s.powerParts mask).host = s.host := rfl
@[simp] theorem State.powerParts_gpio (s : State) (mask : Word) : (s.powerParts mask).gpio = s.gpio := rfl
@[simp] theorem State.powerParts_queues (s : State) (mask : Word) : (s.powerParts mask).queues = s.queues := rfl
@[simp] theorem State.powerParts_trav (s : State) (mask : Word) : (s.powerParts mask).trav = s.trav := rfl
@[simp] theorem State.powerParts_time (s : State) (mask : Word) : (s.powerParts mask).time = s.time := rfl
@[simp] theorem State.powerParts_sticky (s : State) (mask : Word) : (s.powerParts mask).sticky = s.sticky := rfl
@[simp] theorem State.powerParts_pair (s : State) (mask : Word) : (s.powerParts mask).pair = s.pair := rfl
@[simp] theorem State.powerParts_sys (s : State) (mask : Word) : (s.powerParts mask).sys = s.sys := rfl
@[simp] theorem State.powerParts_otp (s : State) (mask : Word) : (s.powerParts mask).otp = s.otp := rfl
@[simp] theorem State.powerParts_net (s : State) (mask : Word) : (s.powerParts mask).net = s.net := rfl
@[simp] theorem State.powerParts_saf (s : State) (mask : Word) : (s.powerParts mask).saf = s.saf := rfl
@[simp] theorem State.powerParts_dat (s : State) (mask : Word) : (s.powerParts mask).dat = s.dat := rfl
@[simp] theorem State.powerParts_str (s : State) (mask : Word) : (s.powerParts mask).str = s.str := rfl
@[simp] theorem State.powerParts_ser (s : State) (mask : Word) : (s.powerParts mask).ser = s.ser := rfl
@[simp] theorem State.powerParts_alm (s : State) (mask : Word) : (s.powerParts mask).alm = s.alm := rfl
@[simp] theorem State.powerParts_obj (s : State) (mask : Word) : (s.powerParts mask).obj = s.obj := rfl
@[simp] theorem State.powerParts_cor (s : State) (mask : Word) : (s.powerParts mask).cor = s.cor := rfl
@[simp] theorem State.powerParts_mem (s : State) (mask : Word) : (s.powerParts mask).mem = s.mem := rfl

@[simp] theorem State.bump_pending (s : State) : (s.bump).pending = s.pending := rfl
@[simp] theorem State.bump_host (s : State) : (s.bump).host = s.host := rfl
@[simp] theorem State.bump_gpio (s : State) : (s.bump).gpio = s.gpio := rfl
@[simp] theorem State.bump_queues (s : State) : (s.bump).queues = s.queues := rfl
@[simp] theorem State.bump_trav (s : State) : (s.bump).trav = s.trav := rfl
@[simp] theorem State.bump_time (s : State) : (s.bump).time = s.time := rfl
@[simp] theorem State.bump_sticky (s : State) : (s.bump).sticky = s.sticky := rfl
@[simp] theorem State.bump_pair (s : State) : (s.bump).pair = s.pair := rfl
@[simp] theorem State.bump_sys (s : State) : (s.bump).sys = s.sys := rfl
@[simp] theorem State.bump_otp (s : State) : (s.bump).otp = s.otp := rfl
@[simp] theorem State.bump_fab (s : State) : (s.bump).fab = s.fab := rfl
@[simp] theorem State.bump_net (s : State) : (s.bump).net = s.net := rfl
@[simp] theorem State.bump_saf (s : State) : (s.bump).saf = s.saf := rfl
@[simp] theorem State.bump_dat (s : State) : (s.bump).dat = s.dat := rfl
@[simp] theorem State.bump_str (s : State) : (s.bump).str = s.str := rfl
@[simp] theorem State.bump_ser (s : State) : (s.bump).ser = s.ser := rfl
@[simp] theorem State.bump_alm (s : State) : (s.bump).alm = s.alm := rfl
@[simp] theorem State.bump_obj (s : State) : (s.bump).obj = s.obj := rfl
@[simp] theorem State.bump_cor (s : State) : (s.bump).cor = s.cor := rfl
@[simp] theorem State.bump_mem (s : State) : (s.bump).mem = s.mem := rfl

@[simp] theorem State.bumpGen_pending (s : State) (u : Nat) : (s.bumpGen u).pending = s.pending := rfl
@[simp] theorem State.bumpGen_freeCtr (s : State) (u : Nat) : (s.bumpGen u).freeCtr = s.freeCtr := rfl
@[simp] theorem State.bumpGen_gpio (s : State) (u : Nat) : (s.bumpGen u).gpio = s.gpio := rfl
@[simp] theorem State.bumpGen_queues (s : State) (u : Nat) : (s.bumpGen u).queues = s.queues := rfl
@[simp] theorem State.bumpGen_trav (s : State) (u : Nat) : (s.bumpGen u).trav = s.trav := rfl
@[simp] theorem State.bumpGen_time (s : State) (u : Nat) : (s.bumpGen u).time = s.time := rfl
@[simp] theorem State.bumpGen_sticky (s : State) (u : Nat) : (s.bumpGen u).sticky = s.sticky := rfl
@[simp] theorem State.bumpGen_pair (s : State) (u : Nat) : (s.bumpGen u).pair = s.pair := rfl
@[simp] theorem State.bumpGen_sys (s : State) (u : Nat) : (s.bumpGen u).sys = s.sys := rfl
@[simp] theorem State.bumpGen_otp (s : State) (u : Nat) : (s.bumpGen u).otp = s.otp := rfl
@[simp] theorem State.bumpGen_fab (s : State) (u : Nat) : (s.bumpGen u).fab = s.fab := rfl
@[simp] theorem State.bumpGen_net (s : State) (u : Nat) : (s.bumpGen u).net = s.net := rfl
@[simp] theorem State.bumpGen_saf (s : State) (u : Nat) : (s.bumpGen u).saf = s.saf := rfl
@[simp] theorem State.bumpGen_dat (s : State) (u : Nat) : (s.bumpGen u).dat = s.dat := rfl
@[simp] theorem State.bumpGen_str (s : State) (u : Nat) : (s.bumpGen u).str = s.str := rfl
@[simp] theorem State.bumpGen_ser (s : State) (u : Nat) : (s.bumpGen u).ser = s.ser := rfl
@[simp] theorem State.bumpGen_alm (s : State) (u : Nat) : (s.bumpGen u).alm = s.alm := rfl
@[simp] theorem State.bumpGen_obj (s : State) (u : Nat) : (s.bumpGen u).obj = s.obj := rfl
@[simp] theorem State.bumpGen_cor (s : State) (u : Nat) : (s.bumpGen u).cor = s.cor := rfl
@[simp] theorem State.bumpGen_mem (s : State) (u : Nat) : (s.bumpGen u).mem = s.mem := rfl

@[simp] theorem State.setSlot_pending (s : State) (i : Nat) (v : Slot) : (s.setSlot i v).pending = s.pending := rfl
@[simp] theorem State.setSlot_freeCtr (s : State) (i : Nat) (v : Slot) : (s.setSlot i v).freeCtr = s.freeCtr := rfl
@[simp] theorem State.setSlot_gpio (s : State) (i : Nat) (v : Slot) : (s.setSlot i v).gpio = s.gpio := rfl
@[simp] theorem State.setSlot_queues (s : State) (i : Nat) (v : Slot) : (s.setSlot i v).queues = s.queues := rfl
@[simp] theorem State.setSlot_trav (s : State) (i : Nat) (v : Slot) : (s.setSlot i v).trav = s.trav := rfl
@[simp] theorem State.setSlot_time (s : State) (i : Nat) (v : Slot) : (s.setSlot i v).time = s.time := rfl
@[simp] theorem State.setSlot_sticky (s : State) (i : Nat) (v : Slot) : (s.setSlot i v).sticky = s.sticky := rfl
@[simp] theorem State.setSlot_pair (s : State) (i : Nat) (v : Slot) : (s.setSlot i v).pair = s.pair := rfl
@[simp] theorem State.setSlot_sys (s : State) (i : Nat) (v : Slot) : (s.setSlot i v).sys = s.sys := rfl
@[simp] theorem State.setSlot_otp (s : State) (i : Nat) (v : Slot) : (s.setSlot i v).otp = s.otp := rfl
@[simp] theorem State.setSlot_fab (s : State) (i : Nat) (v : Slot) : (s.setSlot i v).fab = s.fab := rfl
@[simp] theorem State.setSlot_net (s : State) (i : Nat) (v : Slot) : (s.setSlot i v).net = s.net := rfl
@[simp] theorem State.setSlot_saf (s : State) (i : Nat) (v : Slot) : (s.setSlot i v).saf = s.saf := rfl
@[simp] theorem State.setSlot_dat (s : State) (i : Nat) (v : Slot) : (s.setSlot i v).dat = s.dat := rfl
@[simp] theorem State.setSlot_str (s : State) (i : Nat) (v : Slot) : (s.setSlot i v).str = s.str := rfl
@[simp] theorem State.setSlot_ser (s : State) (i : Nat) (v : Slot) : (s.setSlot i v).ser = s.ser := rfl
@[simp] theorem State.setSlot_alm (s : State) (i : Nat) (v : Slot) : (s.setSlot i v).alm = s.alm := rfl
@[simp] theorem State.setSlot_obj (s : State) (i : Nat) (v : Slot) : (s.setSlot i v).obj = s.obj := rfl
@[simp] theorem State.setSlot_cor (s : State) (i : Nat) (v : Slot) : (s.setSlot i v).cor = s.cor := rfl
@[simp] theorem State.setSlot_mem (s : State) (i : Nat) (v : Slot) : (s.setSlot i v).mem = s.mem := rfl

@[simp] theorem State.setQueue_pending (s : State) (q : Nat) (v : Queue) : (s.setQueue q v).pending = s.pending := rfl
@[simp] theorem State.setQueue_freeCtr (s : State) (q : Nat) (v : Queue) : (s.setQueue q v).freeCtr = s.freeCtr := rfl
@[simp] theorem State.setQueue_host (s : State) (q : Nat) (v : Queue) : (s.setQueue q v).host = s.host := rfl
@[simp] theorem State.setQueue_gpio (s : State) (q : Nat) (v : Queue) : (s.setQueue q v).gpio = s.gpio := rfl
@[simp] theorem State.setQueue_trav (s : State) (q : Nat) (v : Queue) : (s.setQueue q v).trav = s.trav := rfl
@[simp] theorem State.setQueue_time (s : State) (q : Nat) (v : Queue) : (s.setQueue q v).time = s.time := rfl
@[simp] theorem State.setQueue_sticky (s : State) (q : Nat) (v : Queue) : (s.setQueue q v).sticky = s.sticky := rfl
@[simp] theorem State.setQueue_pair (s : State) (q : Nat) (v : Queue) : (s.setQueue q v).pair = s.pair := rfl
@[simp] theorem State.setQueue_sys (s : State) (q : Nat) (v : Queue) : (s.setQueue q v).sys = s.sys := rfl
@[simp] theorem State.setQueue_otp (s : State) (q : Nat) (v : Queue) : (s.setQueue q v).otp = s.otp := rfl
@[simp] theorem State.setQueue_fab (s : State) (q : Nat) (v : Queue) : (s.setQueue q v).fab = s.fab := rfl
@[simp] theorem State.setQueue_net (s : State) (q : Nat) (v : Queue) : (s.setQueue q v).net = s.net := rfl
@[simp] theorem State.setQueue_saf (s : State) (q : Nat) (v : Queue) : (s.setQueue q v).saf = s.saf := rfl
@[simp] theorem State.setQueue_dat (s : State) (q : Nat) (v : Queue) : (s.setQueue q v).dat = s.dat := rfl
@[simp] theorem State.setQueue_str (s : State) (q : Nat) (v : Queue) : (s.setQueue q v).str = s.str := rfl
@[simp] theorem State.setQueue_ser (s : State) (q : Nat) (v : Queue) : (s.setQueue q v).ser = s.ser := rfl
@[simp] theorem State.setQueue_alm (s : State) (q : Nat) (v : Queue) : (s.setQueue q v).alm = s.alm := rfl
@[simp] theorem State.setQueue_obj (s : State) (q : Nat) (v : Queue) : (s.setQueue q v).obj = s.obj := rfl
@[simp] theorem State.setQueue_cor (s : State) (q : Nat) (v : Queue) : (s.setQueue q v).cor = s.cor := rfl
@[simp] theorem State.setQueue_mem (s : State) (q : Nat) (v : Queue) : (s.setQueue q v).mem = s.mem := rfl

@[simp] theorem State.forgetSeq_pending (s : State) (q : Nat) : (s.forgetSeq q).pending = s.pending := rfl
@[simp] theorem State.forgetSeq_freeCtr (s : State) (q : Nat) : (s.forgetSeq q).freeCtr = s.freeCtr := rfl
@[simp] theorem State.forgetSeq_gpio (s : State) (q : Nat) : (s.forgetSeq q).gpio = s.gpio := rfl
@[simp] theorem State.forgetSeq_queues (s : State) (q : Nat) : (s.forgetSeq q).queues = s.queues := rfl
@[simp] theorem State.forgetSeq_trav (s : State) (q : Nat) : (s.forgetSeq q).trav = s.trav := rfl
@[simp] theorem State.forgetSeq_time (s : State) (q : Nat) : (s.forgetSeq q).time = s.time := rfl
@[simp] theorem State.forgetSeq_sticky (s : State) (q : Nat) : (s.forgetSeq q).sticky = s.sticky := rfl
@[simp] theorem State.forgetSeq_pair (s : State) (q : Nat) : (s.forgetSeq q).pair = s.pair := rfl
@[simp] theorem State.forgetSeq_sys (s : State) (q : Nat) : (s.forgetSeq q).sys = s.sys := rfl
@[simp] theorem State.forgetSeq_otp (s : State) (q : Nat) : (s.forgetSeq q).otp = s.otp := rfl
@[simp] theorem State.forgetSeq_fab (s : State) (q : Nat) : (s.forgetSeq q).fab = s.fab := rfl
@[simp] theorem State.forgetSeq_net (s : State) (q : Nat) : (s.forgetSeq q).net = s.net := rfl
@[simp] theorem State.forgetSeq_saf (s : State) (q : Nat) : (s.forgetSeq q).saf = s.saf := rfl
@[simp] theorem State.forgetSeq_dat (s : State) (q : Nat) : (s.forgetSeq q).dat = s.dat := rfl
@[simp] theorem State.forgetSeq_str (s : State) (q : Nat) : (s.forgetSeq q).str = s.str := rfl
@[simp] theorem State.forgetSeq_ser (s : State) (q : Nat) : (s.forgetSeq q).ser = s.ser := rfl
@[simp] theorem State.forgetSeq_alm (s : State) (q : Nat) : (s.forgetSeq q).alm = s.alm := rfl
@[simp] theorem State.forgetSeq_obj (s : State) (q : Nat) : (s.forgetSeq q).obj = s.obj := rfl
@[simp] theorem State.forgetSeq_cor (s : State) (q : Nat) : (s.forgetSeq q).cor = s.cor := rfl
@[simp] theorem State.forgetSeq_mem (s : State) (q : Nat) : (s.forgetSeq q).mem = s.mem := rfl

@[simp] theorem State.markQptr_pending (s : State) (q : Nat) : (s.markQptr q).pending = s.pending := rfl
@[simp] theorem State.markQptr_freeCtr (s : State) (q : Nat) : (s.markQptr q).freeCtr = s.freeCtr := rfl
@[simp] theorem State.markQptr_host (s : State) (q : Nat) : (s.markQptr q).host = s.host := rfl
@[simp] theorem State.markQptr_gpio (s : State) (q : Nat) : (s.markQptr q).gpio = s.gpio := rfl
@[simp] theorem State.markQptr_queues (s : State) (q : Nat) : (s.markQptr q).queues = s.queues := rfl
@[simp] theorem State.markQptr_trav (s : State) (q : Nat) : (s.markQptr q).trav = s.trav := rfl
@[simp] theorem State.markQptr_time (s : State) (q : Nat) : (s.markQptr q).time = s.time := rfl
@[simp] theorem State.markQptr_pair (s : State) (q : Nat) : (s.markQptr q).pair = s.pair := rfl
@[simp] theorem State.markQptr_sys (s : State) (q : Nat) : (s.markQptr q).sys = s.sys := rfl
@[simp] theorem State.markQptr_otp (s : State) (q : Nat) : (s.markQptr q).otp = s.otp := rfl
@[simp] theorem State.markQptr_fab (s : State) (q : Nat) : (s.markQptr q).fab = s.fab := rfl
@[simp] theorem State.markQptr_net (s : State) (q : Nat) : (s.markQptr q).net = s.net := rfl
@[simp] theorem State.markQptr_saf (s : State) (q : Nat) : (s.markQptr q).saf = s.saf := rfl
@[simp] theorem State.markQptr_dat (s : State) (q : Nat) : (s.markQptr q).dat = s.dat := rfl
@[simp] theorem State.markQptr_str (s : State) (q : Nat) : (s.markQptr q).str = s.str := rfl
@[simp] theorem State.markQptr_ser (s : State) (q : Nat) : (s.markQptr q).ser = s.ser := rfl
@[simp] theorem State.markQptr_alm (s : State) (q : Nat) : (s.markQptr q).alm = s.alm := rfl
@[simp] theorem State.markQptr_obj (s : State) (q : Nat) : (s.markQptr q).obj = s.obj := rfl
@[simp] theorem State.markQptr_cor (s : State) (q : Nat) : (s.markQptr q).cor = s.cor := rfl
@[simp] theorem State.markQptr_mem (s : State) (q : Nat) : (s.markQptr q).mem = s.mem := rfl

@[simp] theorem State.setGen_pending (s : State) (g : Nat) (x : OtpGen) : (s.setGen g x).pending = s.pending := rfl
@[simp] theorem State.setGen_freeCtr (s : State) (g : Nat) (x : OtpGen) : (s.setGen g x).freeCtr = s.freeCtr := rfl
@[simp] theorem State.setGen_host (s : State) (g : Nat) (x : OtpGen) : (s.setGen g x).host = s.host := rfl
@[simp] theorem State.setGen_gpio (s : State) (g : Nat) (x : OtpGen) : (s.setGen g x).gpio = s.gpio := rfl
@[simp] theorem State.setGen_queues (s : State) (g : Nat) (x : OtpGen) : (s.setGen g x).queues = s.queues := rfl
@[simp] theorem State.setGen_trav (s : State) (g : Nat) (x : OtpGen) : (s.setGen g x).trav = s.trav := rfl
@[simp] theorem State.setGen_time (s : State) (g : Nat) (x : OtpGen) : (s.setGen g x).time = s.time := rfl
@[simp] theorem State.setGen_sticky (s : State) (g : Nat) (x : OtpGen) : (s.setGen g x).sticky = s.sticky := rfl
@[simp] theorem State.setGen_pair (s : State) (g : Nat) (x : OtpGen) : (s.setGen g x).pair = s.pair := rfl
@[simp] theorem State.setGen_sys (s : State) (g : Nat) (x : OtpGen) : (s.setGen g x).sys = s.sys := rfl
@[simp] theorem State.setGen_fab (s : State) (g : Nat) (x : OtpGen) : (s.setGen g x).fab = s.fab := rfl
@[simp] theorem State.setGen_net (s : State) (g : Nat) (x : OtpGen) : (s.setGen g x).net = s.net := rfl
@[simp] theorem State.setGen_saf (s : State) (g : Nat) (x : OtpGen) : (s.setGen g x).saf = s.saf := rfl
@[simp] theorem State.setGen_dat (s : State) (g : Nat) (x : OtpGen) : (s.setGen g x).dat = s.dat := rfl
@[simp] theorem State.setGen_str (s : State) (g : Nat) (x : OtpGen) : (s.setGen g x).str = s.str := rfl
@[simp] theorem State.setGen_ser (s : State) (g : Nat) (x : OtpGen) : (s.setGen g x).ser = s.ser := rfl
@[simp] theorem State.setGen_alm (s : State) (g : Nat) (x : OtpGen) : (s.setGen g x).alm = s.alm := rfl
@[simp] theorem State.setGen_obj (s : State) (g : Nat) (x : OtpGen) : (s.setGen g x).obj = s.obj := rfl
@[simp] theorem State.setGen_cor (s : State) (g : Nat) (x : OtpGen) : (s.setGen g x).cor = s.cor := rfl
@[simp] theorem State.setGen_mem (s : State) (g : Nat) (x : OtpGen) : (s.setGen g x).mem = s.mem := rfl

@[simp] theorem State.dropPending_pending (s : State) (p : Pending) : (s.dropPending p).pending = s.pending := rfl
@[simp] theorem State.dropPending_freeCtr (s : State) (p : Pending) : (s.dropPending p).freeCtr = s.freeCtr := rfl
@[simp] theorem State.dropPending_gpio (s : State) (p : Pending) : (s.dropPending p).gpio = s.gpio := rfl
@[simp] theorem State.dropPending_queues (s : State) (p : Pending) : (s.dropPending p).queues = s.queues := rfl
@[simp] theorem State.dropPending_trav (s : State) (p : Pending) : (s.dropPending p).trav = s.trav := rfl
@[simp] theorem State.dropPending_time (s : State) (p : Pending) : (s.dropPending p).time = s.time := rfl
@[simp] theorem State.dropPending_sticky (s : State) (p : Pending) : (s.dropPending p).sticky = s.sticky := rfl
@[simp] theorem State.dropPending_pair (s : State) (p : Pending) : (s.dropPending p).pair = s.pair := rfl
@[simp] theorem State.dropPending_sys (s : State) (p : Pending) : (s.dropPending p).sys = s.sys := rfl
@[simp] theorem State.dropPending_otp (s : State) (p : Pending) : (s.dropPending p).otp = s.otp := rfl
@[simp] theorem State.dropPending_fab (s : State) (p : Pending) : (s.dropPending p).fab = s.fab := rfl
@[simp] theorem State.dropPending_net (s : State) (p : Pending) : (s.dropPending p).net = s.net := rfl
@[simp] theorem State.dropPending_saf (s : State) (p : Pending) : (s.dropPending p).saf = s.saf := rfl
@[simp] theorem State.dropPending_dat (s : State) (p : Pending) : (s.dropPending p).dat = s.dat := rfl
@[simp] theorem State.dropPending_str (s : State) (p : Pending) : (s.dropPending p).str = s.str := rfl
@[simp] theorem State.dropPending_ser (s : State) (p : Pending) : (s.dropPending p).ser = s.ser := rfl
@[simp] theorem State.dropPending_alm (s : State) (p : Pending) : (s.dropPending p).alm = s.alm := rfl
@[simp] theorem State.dropPending_obj (s : State) (p : Pending) : (s.dropPending p).obj = s.obj := rfl
@[simp] theorem State.dropPending_cor (s : State) (p : Pending) : (s.dropPending p).cor = s.cor := rfl
@[simp] theorem State.dropPending_mem (s : State) (p : Pending) : (s.dropPending p).mem = s.mem := rfl

@[simp] theorem State.setStage_pending (s : State) (i : Nat) (l : List (Nat × List Byte)) :
    (s.setStage i l).pending = s.pending := rfl
@[simp] theorem State.setStage_freeCtr (s : State) (i : Nat) (l : List (Nat × List Byte)) :
    (s.setStage i l).freeCtr = s.freeCtr := rfl
@[simp] theorem State.setStage_host (s : State) (i : Nat) (l : List (Nat × List Byte)) :
    (s.setStage i l).host = s.host := rfl
@[simp] theorem State.setStage_gpio (s : State) (i : Nat) (l : List (Nat × List Byte)) :
    (s.setStage i l).gpio = s.gpio := rfl
@[simp] theorem State.setStage_queues (s : State) (i : Nat) (l : List (Nat × List Byte)) :
    (s.setStage i l).queues = s.queues := rfl
@[simp] theorem State.setStage_trav (s : State) (i : Nat) (l : List (Nat × List Byte)) :
    (s.setStage i l).trav = s.trav := rfl
@[simp] theorem State.setStage_time (s : State) (i : Nat) (l : List (Nat × List Byte)) :
    (s.setStage i l).time = s.time := rfl
@[simp] theorem State.setStage_sticky (s : State) (i : Nat) (l : List (Nat × List Byte)) :
    (s.setStage i l).sticky = s.sticky := rfl
@[simp] theorem State.setStage_pair (s : State) (i : Nat) (l : List (Nat × List Byte)) :
    (s.setStage i l).pair = s.pair := rfl
@[simp] theorem State.setStage_sys (s : State) (i : Nat) (l : List (Nat × List Byte)) :
    (s.setStage i l).sys = s.sys := rfl
@[simp] theorem State.setStage_otp (s : State) (i : Nat) (l : List (Nat × List Byte)) :
    (s.setStage i l).otp = s.otp := rfl
@[simp] theorem State.setStage_fab (s : State) (i : Nat) (l : List (Nat × List Byte)) :
    (s.setStage i l).fab = s.fab := rfl
@[simp] theorem State.setStage_net (s : State) (i : Nat) (l : List (Nat × List Byte)) :
    (s.setStage i l).net = s.net := rfl
@[simp] theorem State.setStage_saf (s : State) (i : Nat) (l : List (Nat × List Byte)) :
    (s.setStage i l).saf = s.saf := rfl
@[simp] theorem State.setStage_str (s : State) (i : Nat) (l : List (Nat × List Byte)) :
    (s.setStage i l).str = s.str := rfl
@[simp] theorem State.setStage_ser (s : State) (i : Nat) (l : List (Nat × List Byte)) :
    (s.setStage i l).ser = s.ser := rfl
@[simp] theorem State.setStage_alm (s : State) (i : Nat) (l : List (Nat × List Byte)) :
    (s.setStage i l).alm = s.alm := rfl
@[simp] theorem State.setStage_obj (s : State) (i : Nat) (l : List (Nat × List Byte)) :
    (s.setStage i l).obj = s.obj := rfl
@[simp] theorem State.setStage_cor (s : State) (i : Nat) (l : List (Nat × List Byte)) :
    (s.setStage i l).cor = s.cor := rfl
@[simp] theorem State.setStage_mem (s : State) (i : Nat) (l : List (Nat × List Byte)) :
    (s.setStage i l).mem = s.mem := rfl

@[simp] theorem State.pairMod_pair (s : State) (f : PairPart → PairPart) : (s.pairMod f).pair = f s.pair := rfl
@[simp] theorem State.pairMod_pending (s : State) (f : PairPart → PairPart) : (s.pairMod f).pending = s.pending := rfl
@[simp] theorem State.pairMod_freeCtr (s : State) (f : PairPart → PairPart) : (s.pairMod f).freeCtr = s.freeCtr := rfl
@[simp] theorem State.pairMod_host (s : State) (f : PairPart → PairPart) : (s.pairMod f).host = s.host := rfl
@[simp] theorem State.pairMod_gpio (s : State) (f : PairPart → PairPart) : (s.pairMod f).gpio = s.gpio := rfl
@[simp] theorem State.pairMod_queues (s : State) (f : PairPart → PairPart) : (s.pairMod f).queues = s.queues := rfl
@[simp] theorem State.pairMod_trav (s : State) (f : PairPart → PairPart) : (s.pairMod f).trav = s.trav := rfl
@[simp] theorem State.pairMod_time (s : State) (f : PairPart → PairPart) : (s.pairMod f).time = s.time := rfl
@[simp] theorem State.pairMod_sticky (s : State) (f : PairPart → PairPart) : (s.pairMod f).sticky = s.sticky := rfl
@[simp] theorem State.pairMod_sys (s : State) (f : PairPart → PairPart) : (s.pairMod f).sys = s.sys := rfl
@[simp] theorem State.pairMod_otp (s : State) (f : PairPart → PairPart) : (s.pairMod f).otp = s.otp := rfl
@[simp] theorem State.pairMod_fab (s : State) (f : PairPart → PairPart) : (s.pairMod f).fab = s.fab := rfl
@[simp] theorem State.pairMod_net (s : State) (f : PairPart → PairPart) : (s.pairMod f).net = s.net := rfl
@[simp] theorem State.pairMod_saf (s : State) (f : PairPart → PairPart) : (s.pairMod f).saf = s.saf := rfl
@[simp] theorem State.pairMod_dat (s : State) (f : PairPart → PairPart) : (s.pairMod f).dat = s.dat := rfl
@[simp] theorem State.pairMod_str (s : State) (f : PairPart → PairPart) : (s.pairMod f).str = s.str := rfl
@[simp] theorem State.pairMod_ser (s : State) (f : PairPart → PairPart) : (s.pairMod f).ser = s.ser := rfl
@[simp] theorem State.pairMod_alm (s : State) (f : PairPart → PairPart) : (s.pairMod f).alm = s.alm := rfl
@[simp] theorem State.pairMod_obj (s : State) (f : PairPart → PairPart) : (s.pairMod f).obj = s.obj := rfl
@[simp] theorem State.pairMod_cor (s : State) (f : PairPart → PairPart) : (s.pairMod f).cor = s.cor := rfl
@[simp] theorem State.pairMod_mem (s : State) (f : PairPart → PairPart) : (s.pairMod f).mem = s.mem := rfl

@[simp] theorem State.corMod_cor (s : State) (f : CorPart → CorPart) : (s.corMod f).cor = f s.cor := rfl
@[simp] theorem State.corMod_pending (s : State) (f : CorPart → CorPart) : (s.corMod f).pending = s.pending := rfl
@[simp] theorem State.corMod_freeCtr (s : State) (f : CorPart → CorPart) : (s.corMod f).freeCtr = s.freeCtr := rfl
@[simp] theorem State.corMod_host (s : State) (f : CorPart → CorPart) : (s.corMod f).host = s.host := rfl
@[simp] theorem State.corMod_gpio (s : State) (f : CorPart → CorPart) : (s.corMod f).gpio = s.gpio := rfl
@[simp] theorem State.corMod_queues (s : State) (f : CorPart → CorPart) : (s.corMod f).queues = s.queues := rfl
@[simp] theorem State.corMod_trav (s : State) (f : CorPart → CorPart) : (s.corMod f).trav = s.trav := rfl
@[simp] theorem State.corMod_time (s : State) (f : CorPart → CorPart) : (s.corMod f).time = s.time := rfl
@[simp] theorem State.corMod_sticky (s : State) (f : CorPart → CorPart) : (s.corMod f).sticky = s.sticky := rfl
@[simp] theorem State.corMod_pair (s : State) (f : CorPart → CorPart) : (s.corMod f).pair = s.pair := rfl
@[simp] theorem State.corMod_sys (s : State) (f : CorPart → CorPart) : (s.corMod f).sys = s.sys := rfl
@[simp] theorem State.corMod_otp (s : State) (f : CorPart → CorPart) : (s.corMod f).otp = s.otp := rfl
@[simp] theorem State.corMod_fab (s : State) (f : CorPart → CorPart) : (s.corMod f).fab = s.fab := rfl
@[simp] theorem State.corMod_net (s : State) (f : CorPart → CorPart) : (s.corMod f).net = s.net := rfl
@[simp] theorem State.corMod_saf (s : State) (f : CorPart → CorPart) : (s.corMod f).saf = s.saf := rfl
@[simp] theorem State.corMod_dat (s : State) (f : CorPart → CorPart) : (s.corMod f).dat = s.dat := rfl
@[simp] theorem State.corMod_str (s : State) (f : CorPart → CorPart) : (s.corMod f).str = s.str := rfl
@[simp] theorem State.corMod_ser (s : State) (f : CorPart → CorPart) : (s.corMod f).ser = s.ser := rfl
@[simp] theorem State.corMod_alm (s : State) (f : CorPart → CorPart) : (s.corMod f).alm = s.alm := rfl
@[simp] theorem State.corMod_obj (s : State) (f : CorPart → CorPart) : (s.corMod f).obj = s.obj := rfl
@[simp] theorem State.corMod_mem (s : State) (f : CorPart → CorPart) : (s.corMod f).mem = s.mem := rfl

@[simp] theorem State.almMod_alm (s : State) (f : AlmPart → AlmPart) : (s.almMod f).alm = f s.alm := rfl
@[simp] theorem State.almMod_pending (s : State) (f : AlmPart → AlmPart) : (s.almMod f).pending = s.pending := rfl
@[simp] theorem State.almMod_freeCtr (s : State) (f : AlmPart → AlmPart) : (s.almMod f).freeCtr = s.freeCtr := rfl
@[simp] theorem State.almMod_host (s : State) (f : AlmPart → AlmPart) : (s.almMod f).host = s.host := rfl
@[simp] theorem State.almMod_gpio (s : State) (f : AlmPart → AlmPart) : (s.almMod f).gpio = s.gpio := rfl
@[simp] theorem State.almMod_queues (s : State) (f : AlmPart → AlmPart) : (s.almMod f).queues = s.queues := rfl
@[simp] theorem State.almMod_trav (s : State) (f : AlmPart → AlmPart) : (s.almMod f).trav = s.trav := rfl
@[simp] theorem State.almMod_time (s : State) (f : AlmPart → AlmPart) : (s.almMod f).time = s.time := rfl
@[simp] theorem State.almMod_sticky (s : State) (f : AlmPart → AlmPart) : (s.almMod f).sticky = s.sticky := rfl
@[simp] theorem State.almMod_pair (s : State) (f : AlmPart → AlmPart) : (s.almMod f).pair = s.pair := rfl
@[simp] theorem State.almMod_sys (s : State) (f : AlmPart → AlmPart) : (s.almMod f).sys = s.sys := rfl
@[simp] theorem State.almMod_otp (s : State) (f : AlmPart → AlmPart) : (s.almMod f).otp = s.otp := rfl
@[simp] theorem State.almMod_fab (s : State) (f : AlmPart → AlmPart) : (s.almMod f).fab = s.fab := rfl
@[simp] theorem State.almMod_net (s : State) (f : AlmPart → AlmPart) : (s.almMod f).net = s.net := rfl
@[simp] theorem State.almMod_saf (s : State) (f : AlmPart → AlmPart) : (s.almMod f).saf = s.saf := rfl
@[simp] theorem State.almMod_dat (s : State) (f : AlmPart → AlmPart) : (s.almMod f).dat = s.dat := rfl
@[simp] theorem State.almMod_str (s : State) (f : AlmPart → AlmPart) : (s.almMod f).str = s.str := rfl
@[simp] theorem State.almMod_ser (s : State) (f : AlmPart → AlmPart) : (s.almMod f).ser = s.ser := rfl
@[simp] theorem State.almMod_obj (s : State) (f : AlmPart → AlmPart) : (s.almMod f).obj = s.obj := rfl
@[simp] theorem State.almMod_cor (s : State) (f : AlmPart → AlmPart) : (s.almMod f).cor = s.cor := rfl
@[simp] theorem State.almMod_mem (s : State) (f : AlmPart → AlmPart) : (s.almMod f).mem = s.mem := rfl

@[simp] theorem State.strMod_str (s : State) (f : StrPart → StrPart) : (s.strMod f).str = f s.str := rfl
@[simp] theorem State.strMod_pending (s : State) (f : StrPart → StrPart) : (s.strMod f).pending = s.pending := rfl
@[simp] theorem State.strMod_freeCtr (s : State) (f : StrPart → StrPart) : (s.strMod f).freeCtr = s.freeCtr := rfl
@[simp] theorem State.strMod_host (s : State) (f : StrPart → StrPart) : (s.strMod f).host = s.host := rfl
@[simp] theorem State.strMod_gpio (s : State) (f : StrPart → StrPart) : (s.strMod f).gpio = s.gpio := rfl
@[simp] theorem State.strMod_queues (s : State) (f : StrPart → StrPart) : (s.strMod f).queues = s.queues := rfl
@[simp] theorem State.strMod_trav (s : State) (f : StrPart → StrPart) : (s.strMod f).trav = s.trav := rfl
@[simp] theorem State.strMod_time (s : State) (f : StrPart → StrPart) : (s.strMod f).time = s.time := rfl
@[simp] theorem State.strMod_sticky (s : State) (f : StrPart → StrPart) : (s.strMod f).sticky = s.sticky := rfl
@[simp] theorem State.strMod_pair (s : State) (f : StrPart → StrPart) : (s.strMod f).pair = s.pair := rfl
@[simp] theorem State.strMod_sys (s : State) (f : StrPart → StrPart) : (s.strMod f).sys = s.sys := rfl
@[simp] theorem State.strMod_otp (s : State) (f : StrPart → StrPart) : (s.strMod f).otp = s.otp := rfl
@[simp] theorem State.strMod_fab (s : State) (f : StrPart → StrPart) : (s.strMod f).fab = s.fab := rfl
@[simp] theorem State.strMod_net (s : State) (f : StrPart → StrPart) : (s.strMod f).net = s.net := rfl
@[simp] theorem State.strMod_saf (s : State) (f : StrPart → StrPart) : (s.strMod f).saf = s.saf := rfl
@[simp] theorem State.strMod_dat (s : State) (f : StrPart → StrPart) : (s.strMod f).dat = s.dat := rfl
@[simp] theorem State.strMod_ser (s : State) (f : StrPart → StrPart) : (s.strMod f).ser = s.ser := rfl
@[simp] theorem State.strMod_alm (s : State) (f : StrPart → StrPart) : (s.strMod f).alm = s.alm := rfl
@[simp] theorem State.strMod_obj (s : State) (f : StrPart → StrPart) : (s.strMod f).obj = s.obj := rfl
@[simp] theorem State.strMod_cor (s : State) (f : StrPart → StrPart) : (s.strMod f).cor = s.cor := rfl
@[simp] theorem State.strMod_mem (s : State) (f : StrPart → StrPart) : (s.strMod f).mem = s.mem := rfl

@[simp] theorem State.serMod_ser (s : State) (f : SerPart → SerPart) : (s.serMod f).ser = f s.ser := rfl
@[simp] theorem State.serMod_pending (s : State) (f : SerPart → SerPart) : (s.serMod f).pending = s.pending := rfl
@[simp] theorem State.serMod_freeCtr (s : State) (f : SerPart → SerPart) : (s.serMod f).freeCtr = s.freeCtr := rfl
@[simp] theorem State.serMod_host (s : State) (f : SerPart → SerPart) : (s.serMod f).host = s.host := rfl
@[simp] theorem State.serMod_gpio (s : State) (f : SerPart → SerPart) : (s.serMod f).gpio = s.gpio := rfl
@[simp] theorem State.serMod_queues (s : State) (f : SerPart → SerPart) : (s.serMod f).queues = s.queues := rfl
@[simp] theorem State.serMod_trav (s : State) (f : SerPart → SerPart) : (s.serMod f).trav = s.trav := rfl
@[simp] theorem State.serMod_time (s : State) (f : SerPart → SerPart) : (s.serMod f).time = s.time := rfl
@[simp] theorem State.serMod_sticky (s : State) (f : SerPart → SerPart) : (s.serMod f).sticky = s.sticky := rfl
@[simp] theorem State.serMod_pair (s : State) (f : SerPart → SerPart) : (s.serMod f).pair = s.pair := rfl
@[simp] theorem State.serMod_sys (s : State) (f : SerPart → SerPart) : (s.serMod f).sys = s.sys := rfl
@[simp] theorem State.serMod_otp (s : State) (f : SerPart → SerPart) : (s.serMod f).otp = s.otp := rfl
@[simp] theorem State.serMod_fab (s : State) (f : SerPart → SerPart) : (s.serMod f).fab = s.fab := rfl
@[simp] theorem State.serMod_net (s : State) (f : SerPart → SerPart) : (s.serMod f).net = s.net := rfl
@[simp] theorem State.serMod_saf (s : State) (f : SerPart → SerPart) : (s.serMod f).saf = s.saf := rfl
@[simp] theorem State.serMod_dat (s : State) (f : SerPart → SerPart) : (s.serMod f).dat = s.dat := rfl
@[simp] theorem State.serMod_str (s : State) (f : SerPart → SerPart) : (s.serMod f).str = s.str := rfl
@[simp] theorem State.serMod_alm (s : State) (f : SerPart → SerPart) : (s.serMod f).alm = s.alm := rfl
@[simp] theorem State.serMod_obj (s : State) (f : SerPart → SerPart) : (s.serMod f).obj = s.obj := rfl
@[simp] theorem State.serMod_cor (s : State) (f : SerPart → SerPart) : (s.serMod f).cor = s.cor := rfl
@[simp] theorem State.serMod_mem (s : State) (f : SerPart → SerPart) : (s.serMod f).mem = s.mem := rfl

@[simp] theorem State.objMod_obj (s : State) (f : ObjPart → ObjPart) : (s.objMod f).obj = f s.obj := rfl
@[simp] theorem State.objMod_pending (s : State) (f : ObjPart → ObjPart) : (s.objMod f).pending = s.pending := rfl
@[simp] theorem State.objMod_freeCtr (s : State) (f : ObjPart → ObjPart) : (s.objMod f).freeCtr = s.freeCtr := rfl
@[simp] theorem State.objMod_host (s : State) (f : ObjPart → ObjPart) : (s.objMod f).host = s.host := rfl
@[simp] theorem State.objMod_gpio (s : State) (f : ObjPart → ObjPart) : (s.objMod f).gpio = s.gpio := rfl
@[simp] theorem State.objMod_queues (s : State) (f : ObjPart → ObjPart) : (s.objMod f).queues = s.queues := rfl
@[simp] theorem State.objMod_trav (s : State) (f : ObjPart → ObjPart) : (s.objMod f).trav = s.trav := rfl
@[simp] theorem State.objMod_time (s : State) (f : ObjPart → ObjPart) : (s.objMod f).time = s.time := rfl
@[simp] theorem State.objMod_sticky (s : State) (f : ObjPart → ObjPart) : (s.objMod f).sticky = s.sticky := rfl
@[simp] theorem State.objMod_pair (s : State) (f : ObjPart → ObjPart) : (s.objMod f).pair = s.pair := rfl
@[simp] theorem State.objMod_sys (s : State) (f : ObjPart → ObjPart) : (s.objMod f).sys = s.sys := rfl
@[simp] theorem State.objMod_otp (s : State) (f : ObjPart → ObjPart) : (s.objMod f).otp = s.otp := rfl
@[simp] theorem State.objMod_fab (s : State) (f : ObjPart → ObjPart) : (s.objMod f).fab = s.fab := rfl
@[simp] theorem State.objMod_net (s : State) (f : ObjPart → ObjPart) : (s.objMod f).net = s.net := rfl
@[simp] theorem State.objMod_saf (s : State) (f : ObjPart → ObjPart) : (s.objMod f).saf = s.saf := rfl
@[simp] theorem State.objMod_dat (s : State) (f : ObjPart → ObjPart) : (s.objMod f).dat = s.dat := rfl
@[simp] theorem State.objMod_str (s : State) (f : ObjPart → ObjPart) : (s.objMod f).str = s.str := rfl
@[simp] theorem State.objMod_ser (s : State) (f : ObjPart → ObjPart) : (s.objMod f).ser = s.ser := rfl
@[simp] theorem State.objMod_alm (s : State) (f : ObjPart → ObjPart) : (s.objMod f).alm = s.alm := rfl
@[simp] theorem State.objMod_cor (s : State) (f : ObjPart → ObjPart) : (s.objMod f).cor = s.cor := rfl
@[simp] theorem State.objMod_mem (s : State) (f : ObjPart → ObjPart) : (s.objMod f).mem = s.mem := rfl

@[simp] theorem State.toPeriph_pending (s : State) (p : Nat) (d : List Byte) :
    (s.toPeriph p d).pending = s.pending := rfl
@[simp] theorem State.toPeriph_freeCtr (s : State) (p : Nat) (d : List Byte) :
    (s.toPeriph p d).freeCtr = s.freeCtr := rfl
@[simp] theorem State.toPeriph_host (s : State) (p : Nat) (d : List Byte) : (s.toPeriph p d).host = s.host := rfl
@[simp] theorem State.toPeriph_gpio (s : State) (p : Nat) (d : List Byte) : (s.toPeriph p d).gpio = s.gpio := rfl
@[simp] theorem State.toPeriph_queues (s : State) (p : Nat) (d : List Byte) :
    (s.toPeriph p d).queues = s.queues := rfl
@[simp] theorem State.toPeriph_time (s : State) (p : Nat) (d : List Byte) : (s.toPeriph p d).time = s.time := rfl
@[simp] theorem State.toPeriph_sticky (s : State) (p : Nat) (d : List Byte) :
    (s.toPeriph p d).sticky = s.sticky := rfl
@[simp] theorem State.toPeriph_pair (s : State) (p : Nat) (d : List Byte) : (s.toPeriph p d).pair = s.pair := rfl
@[simp] theorem State.toPeriph_sys (s : State) (p : Nat) (d : List Byte) : (s.toPeriph p d).sys = s.sys := rfl
@[simp] theorem State.toPeriph_otp (s : State) (p : Nat) (d : List Byte) : (s.toPeriph p d).otp = s.otp := rfl
@[simp] theorem State.toPeriph_fab (s : State) (p : Nat) (d : List Byte) : (s.toPeriph p d).fab = s.fab := rfl
@[simp] theorem State.toPeriph_net (s : State) (p : Nat) (d : List Byte) : (s.toPeriph p d).net = s.net := rfl
@[simp] theorem State.toPeriph_saf (s : State) (p : Nat) (d : List Byte) : (s.toPeriph p d).saf = s.saf := rfl
@[simp] theorem State.toPeriph_dat (s : State) (p : Nat) (d : List Byte) : (s.toPeriph p d).dat = s.dat := rfl
@[simp] theorem State.toPeriph_str (s : State) (p : Nat) (d : List Byte) : (s.toPeriph p d).str = s.str := rfl
@[simp] theorem State.toPeriph_ser (s : State) (p : Nat) (d : List Byte) : (s.toPeriph p d).ser = s.ser := rfl
@[simp] theorem State.toPeriph_alm (s : State) (p : Nat) (d : List Byte) : (s.toPeriph p d).alm = s.alm := rfl
@[simp] theorem State.toPeriph_obj (s : State) (p : Nat) (d : List Byte) : (s.toPeriph p d).obj = s.obj := rfl
@[simp] theorem State.toPeriph_cor (s : State) (p : Nat) (d : List Byte) : (s.toPeriph p d).cor = s.cor := rfl
@[simp] theorem State.toPeriph_mem (s : State) (p : Nat) (d : List Byte) : (s.toPeriph p d).mem = s.mem := rfl

@[simp] theorem State.goesTo_freeCtr (s t : State) : (s.goesTo t).freeCtr = t.freeCtr := rfl
@[simp] theorem State.goesTo_host (s t : State) : (s.goesTo t).host = t.host := rfl
@[simp] theorem State.goesTo_gpio (s t : State) : (s.goesTo t).gpio = t.gpio := rfl
@[simp] theorem State.goesTo_queues (s t : State) : (s.goesTo t).queues = t.queues := rfl
@[simp] theorem State.goesTo_trav (s t : State) : (s.goesTo t).trav = t.trav := rfl
@[simp] theorem State.goesTo_time (s t : State) : (s.goesTo t).time = t.time := rfl
@[simp] theorem State.goesTo_sticky (s t : State) : (s.goesTo t).sticky = t.sticky := rfl
@[simp] theorem State.goesTo_pair (s t : State) : (s.goesTo t).pair = t.pair := rfl
@[simp] theorem State.goesTo_sys (s t : State) : (s.goesTo t).sys = t.sys := rfl
@[simp] theorem State.goesTo_otp (s t : State) : (s.goesTo t).otp = t.otp := rfl
@[simp] theorem State.goesTo_fab (s t : State) : (s.goesTo t).fab = t.fab := rfl
@[simp] theorem State.goesTo_net (s t : State) : (s.goesTo t).net = t.net := rfl
@[simp] theorem State.goesTo_saf (s t : State) : (s.goesTo t).saf = t.saf := rfl
@[simp] theorem State.goesTo_dat (s t : State) : (s.goesTo t).dat = t.dat := rfl
@[simp] theorem State.goesTo_str (s t : State) : (s.goesTo t).str = t.str := rfl
@[simp] theorem State.goesTo_ser (s t : State) : (s.goesTo t).ser = t.ser := rfl
@[simp] theorem State.goesTo_alm (s t : State) : (s.goesTo t).alm = t.alm := rfl
@[simp] theorem State.goesTo_obj (s t : State) : (s.goesTo t).obj = t.obj := rfl
@[simp] theorem State.goesTo_cor (s t : State) : (s.goesTo t).cor = t.cor := rfl
@[simp] theorem State.goesTo_mem (s t : State) : (s.goesTo t).mem = t.mem := rfl
@[simp] theorem State.goesTo_pending (s t : State) : (s.goesTo t).pending = s.pending := rfl

end Sys2Proof.Machine
end

