-- ==== Sys2Proof/Laws/Commands.lean ====
section
/-!
SUPPORT. Sys2Proof/Laws/Commands.lean: what a row does, once for all rows: a row that completes leaves the queue of
waiting commands alone, and a command packet that passes the shared checks is carried out.
-/
namespace Sys2Proof.Machine



theorem goOn_next (s t : State) : goOn s t = .next (s.goesTo t) := rfl

theorem ran_next {wf : Bool} (name : String) (s t : State) (h : wf = true) :
    ran wf name s t = .next (s.goesTo t) := by subst h; rfl

theorem ran_refused (name : String) (s t : State) : ran false name s t = .refused (.illFormed name) := rfl

theorem goOn_completes (s t : State) : ∃ u, goOn s t = .next u ∧ u.pending = s.pending := ⟨_, rfl, rfl⟩

theorem ran_completes {wf : Bool} (name : String) (s t : State) (h : wf = true) :
    ∃ u, ran wf name s t = .next u ∧ u.pending = s.pending := by subst h; exact ⟨_, rfl, rfl⟩

theorem ran_illFormed {wf : Bool} (name : String) (s t : State) (h : wf = false) :
    ∃ n, ran wf name s t = .refused (.illFormed n) := by subst h; exact ⟨_, rfl⟩

theorem State.judge_of_checks {s : State} {body : Body} {r : Req} {p : List Byte} {i : OpInfo}
    (hi : opInfo r.op = some i) (h : s.sharedChecks r p i = true) :
    s.judge body r p = s.carryOut i r (body false r s) := by
  simp only [State.sharedChecks, State.seqFollows, Bool.and_eq_true, decide_eq_true_eq, Bool.not_eq_true',
    Bool.or_eq_true, Option.isNone_iff_eq_none] at h
  obtain ⟨⟨⟨⟨⟨⟨⟨h0, h1⟩, h2⟩, h3⟩, hseq⟩, hf⟩, hr⟩, hc⟩ := h
  have hj : s.judgeOpcode body r p = s.carryOut i r (body false r s) := by
    have : (s.sys.recovery && !recoveryServes r.op) = false := by
      rcases hr with hr | hr <;> simp [hr]
    simp [State.judgeOpcode, hf, hi, this, hc]
  have h3' : ¬ 16 ≤ r.flags := by omega
  simp only [State.judge, h0, h1, h2, h3', ne_eq, not_true_eq_false, if_false, or_self]
  split
  · exact hj
  · rename_i l hl
    simp only [hl, Bool.and_eq_true, decide_eq_true_eq, decide_not, Bool.not_eq_true', decide_eq_false_iff_not] at hseq
    rw [if_neg hseq.1, if_pos hseq.2]; exact hj

/-- A packet that passes the shared checks is carried out as its opcode's body says. -/
theorem commandRow_offer {s t : State} {q op : Nat} {i : OpInfo} {r : Req} (name : String) (body : Body)
    (h : s.offer q op = some (t, i, r)) :
    commandRow name op body q s = .next (s.goesTo (t.carryOut i r (body false r t))) := by
  simp only [State.offer] at h
  split at h
  · cases h
  · rename_i j hj
    split at h
    · rename_i hc
      obtain ⟨hq, htk, hcells, hheld, hop, hpk, hsh⟩ := hc
      simp only [Option.some.injEq, Prod.mk.injEq] at h
      obtain ⟨ht, hi, hr⟩ := h
      subst ht hi hr
      rw [commandRow, ran_next _ _ _ (by simpa using hq)]
      congr 2
      simp only [State.takeCommand, htk, Bool.true_eq_false, if_false, hcells, hop, ne_eq, not_true_eq_false, false_and]
      rw [if_neg, if_neg]
      · simp only [State.popAndJudge, hpk]
        exact State.judge_of_checks (by rw [show (parseReq _ _ _).op = op from hop]; exact hj) hsh
      · cases hw : (s.dropMarkers q 2).waitingOrder q <;> simp_all
      · cases hw : (s.dropMarkers q 2).waitingOrder q <;> simp_all
    · cases h

/-- What a packet on offer is: its row's opcode, from a host. -/
theorem offer_facts {s t : State} {q op : Nat} {i : OpInfo} {r : Req} (h : s.offer q op = some (t, i, r)) :
    opInfo op = some i ∧ r.op = op ∧ r.origin = .host ∧ r.atRi = r.at?.isSome := by
  simp only [State.offer] at h
  split at h
  · cases h
  · rename_i j hj
    split at h
    · rename_i hc
      simp only [Option.some.injEq, Prod.mk.injEq] at h
      obtain ⟨ht, hi, hr⟩ := h
      subst ht hi hr
      refine ⟨hj, hc.2.2.2.2.1, rfl, ?_⟩
      simp only [Req.atRi, parseReq]
      split <;> simp_all
    · cases h

theorem carryOut_done {t : State} {i : OpInfo} {r : Req} (u : State) (d : List Byte)
    (h : t.mirrors i r = false) :
    t.carryOut i r (.done u d) = (u.accept r).finish r Status.ok d := by
  simp [State.carryOut, h]

theorem carryOut_deferred {t : State} {i : OpInfo} {r : Req} (u : State) (h : t.mirrors i r = false) :
    t.carryOut i r (.deferred u) = (u.accept r).reply r Status.accepted [] false := by
  simp [State.carryOut, h]

theorem carryOut_hold {t : State} {i : OpInfo} {r : Req} (u : State) (h : t.mirrors i r = false) :
    t.carryOut i r (.hold true u) = (u.accept r).reply r Status.accepted [] false := by
  simp [State.carryOut, h]

theorem carryOut_only {t : State} {i : OpInfo} {r : Req} (f : State → State) (h : t.mirrors i r = false) :
    t.carryOut i r (.only f) = f ((t.accept r).finish r Status.accepted []) := by
  simp [State.carryOut, h]

theorem carryOut_boundary {t : State} {i : OpInfo} {r : Req} (h : t.mirrors i r = false)
    (hat : r.atRi = r.at?.isSome) : t.carryOut i r .boundary = t.keepWaiting r := by
  cases ha : r.at? <;> simp [State.carryOut, State.keepWaiting, h, ha, hat]

theorem answers_of {c : Nat → Instr} {op : Nat} {data : Req → State → List Byte} {name : String}
    (he : ∀ q s, exec (c q) s = commandRow name op (query data) q s)
    (hm : ((opInfo op).any fun i => i.mirrored) = false) : Answers c op data := by
  intro q s t i r h
  have hi := (offer_facts h).1
  rw [he, commandRow_offer name _ h]
  rw [hi] at hm
  simp only [Option.any_some] at hm
  simp only [query]
  rw [carryOut_done _ _ (by simp [State.mirrors, hm])]

theorem finishes_of {c : Nat → Instr} {op : Nat} {ok : Req → State → Prop} {effect : Req → State → State}
    {data : Req → State → List Byte} {name : String} {body : Body}
    (he : ∀ q s, exec (c q) s = commandRow name op body q s)
    (hb : ∀ r t, r.origin = .host → ok r t → body false r t = .done (effect r t) (data r t)) :
    Finishes c op ok effect data := by
  intro q s t i r h hok hm
  rw [he, commandRow_offer name _ h, hb r t (offer_facts h).2.2.1 hok, carryOut_done _ _ hm]

theorem defers_of {c : Nat → Instr} {op : Nat} {ok : Req → State → Prop} {effect : Req → State → State}
    {name : String} {body : Body} (he : ∀ q s, exec (c q) s = commandRow name op body q s)
    (hb : ∀ r t, r.origin = .host → ok r t →
      body false r t = .deferred (effect r t) ∨ body false r t = .hold true (effect r t)) :
    Defers c op ok effect := by
  intro q s t i r h hok hm
  rw [he, commandRow_offer name _ h]
  rcases hb r t (offer_facts h).2.2.1 hok with hb | hb <;> rw [hb]
  · rw [carryOut_deferred _ hm]
  · rw [carryOut_hold _ hm]

theorem acceptsOnly_of {c : Nat → Instr} {op : Nat} {ok : Req → State → Prop} {effect : Req → State → State}
    {name : String} {body : Body} (he : ∀ q s, exec (c q) s = commandRow name op body q s)
    (hb : ∀ r t, r.origin = .host → ok r t → body false r t = .only (effect r)) :
    AcceptsOnly c op ok effect := by
  intro q s t i r h hok hm
  rw [he, commandRow_offer name _ h, hb r t (offer_facts h).2.2.1 hok, carryOut_only _ hm]

theorem waits_of {c : Nat → Instr} {op : Nat} {ok : Req → State → Prop} {name : String} {body : Body}
    (he : ∀ q s, exec (c q) s = commandRow name op body q s)
    (hb : ∀ r t, r.origin = .host → ok r t → body false r t = .boundary) : Waits c op ok := by
  intro q s t i r h hok hm
  rw [he, commandRow_offer name _ h, hb r t (offer_facts h).2.2.1 hok, carryOut_boundary hm (offer_facts h).2.2.2]

theorem applies_of {op : Nat} {ok : Req → State → Prop} {effect : Req → State → State} {body : Body}
    (hop : bodyOf op = some body) (ho : (op == 0x0211 || op == 0x0212) = false)
    (hb : ∀ r s, ok r s → body true r s = .done (effect r s) []) : AppliesAtBoundary op ok effect := by
  intro s p hrun hdue hpo hgen hok
  have hov : p.isOverlay = false := by simpa [Pending.isOverlay, hpo] using ho
  show goOn s (if s.sys.running then s.applyEach s.dueCommands else s) = _
  rw [goOn_next, if_pos hrun, hdue]
  congr 2
  simp only [State.applyEach, hov, Bool.false_eq_true, if_false, State.applyPending]
  rw [if_neg (by rcases hgen with h | h <;> simp [h]), hpo, hop]
  simp [State.settle, hb _ _ hok]

theorem boundaryCommand_of {c : Nat → Instr} {op : Nat} {check : Req → State → Option Nat}
    {effect : Req → State → State} {name : String}
    (he : ∀ q s, exec (c q) s = commandRow name op (atBoundary check effect) q s)
    (hop : bodyOf op = some (atBoundary check effect)) (ho : (op == 0x0211 || op == 0x0212) = false) :
    BoundaryCommand c op (passes check) effect :=
  ⟨waits_of he fun r t _ h => by simp only [passes] at h; simp [atBoundary, h],
    applies_of hop ho fun r s h => by simp only [passes] at h; simp [atBoundary, h]⟩

theorem finishes_atOnce {c : Nat → Instr} {op : Nat} {check : Req → State → Option Nat}
    {effect : Req → State → State} {name : String}
    (he : ∀ q s, exec (c q) s = commandRow name op (atOnce check effect) q s) :
    Finishes c op (passes check) effect noData :=
  finishes_of he fun r t _ h => by simp only [passes] at h; simp [atOnce, h, noData]

end Sys2Proof.Machine
end

