-- ==== Sys2Proof/Laws/Frames.lean ====
section
/-!
SUPPORT. Sys2Proof/Laws/Frames.lean: what packets, replies, events and queue operations leave as it was.
-/
namespace Sys2Proof.Machine

theorem State.sameAudio.refl (s : State) : s.sameAudio s := ⟨rfl, rfl, rfl, rfl, rfl, rfl, rfl, rfl, rfl⟩

theorem State.sameWork.refl (s : State) : s.sameWork s := ⟨State.sameAudio.refl s, rfl, rfl, rfl⟩

theorem State.sameAudio.trans {s t u : State} (h : s.sameAudio t) (k : t.sameAudio u) : s.sameAudio u := by
  obtain ⟨h1, h2, h3, h4, h5, h6, h7, h8, h9⟩ := h
  obtain ⟨k1, k2, k3, k4, k5, k6, k7, k8, k9⟩ := k
  exact ⟨k1.trans h1, k2.trans h2, k3.trans h3, k4.trans h4, k5.trans h5, k6.trans h6, k7.trans h7, k8.trans h8,
    k9.trans h9⟩

theorem State.sameWork.trans {s t u : State} (h : s.sameWork t) (k : t.sameWork u) : s.sameWork u :=
  ⟨h.1.trans k.1, k.2.1.trans h.2.1, k.2.2.1.trans h.2.2.1, k.2.2.2.trans h.2.2.2⟩

theorem safMod_frame (s : State) (f : SafPart → SafPart) : s.sameWork (s.safMod f) :=
  ⟨⟨rfl, rfl, rfl, rfl, rfl, rfl, rfl, rfl, rfl⟩, rfl, rfl, rfl⟩

theorem pair_frame (s : State) (x : PairPart) : s.sameWork { s with pair := x } :=
  ⟨⟨rfl, rfl, rfl, rfl, rfl, rfl, rfl, rfl, rfl⟩, rfl, rfl, rfl⟩

theorem sticky_frame (s : State) (x : Sticky) : s.sameWork { s with sticky := x } :=
  ⟨⟨rfl, rfl, rfl, rfl, rfl, rfl, rfl, rfl, rfl⟩, rfl, rfl, rfl⟩

theorem host_frame (s : State) (x : HostPart) : s.sameWork { s with host := x } :=
  ⟨⟨rfl, rfl, rfl, rfl, rfl, rfl, rfl, rfl, rfl⟩, rfl, rfl, rfl⟩

theorem setCmdQueue_frame (s : State) (q : Nat) (c : CmdQueue) : s.sameWork (s.setCmdQueue q c) := host_frame s _

theorem rawQ_frame (s : State) (q : Nat) (p : Option PushOp) (b : Bool) : s.sameWork (s.rawQ q p b).1 := by
  unfold State.rawQ
  dsimp only
  split <;> split <;> exact ⟨⟨rfl, rfl, rfl, rfl, rfl, rfl, rfl, rfl, rfl⟩, rfl, rfl, rfl⟩

theorem rawPushCells_frame (s : State) (q : Nat) (l : List (List Byte)) : s.sameWork (s.rawPushCells q l) := by
  induction l generalizing s with
  | nil => exact State.sameWork.refl s
  | cons c cs ih =>
    cases cs with
    | nil => exact rawQ_frame s q _ _
    | cons d ds => exact (rawQ_frame s q _ _).trans (ih _)

theorem popCells_frame (s : State) (q n : Nat) (acc : List QCell) : s.sameWork (s.popCells q n acc).1 := by
  induction n generalizing s acc with
  | zero => exact State.sameWork.refl s
  | succ n ih =>
    unfold State.popCells
    have h := rawQ_frame s q none true
    split
    · rename_i s' c heq
      rw [heq] at h
      split
      · exact h
      · exact h.trans (ih _ _)
    · rename_i s' heq
      rw [heq] at h
      exact h

theorem popPacket_frame (s : State) (q : Nat) : s.sameWork (s.popPacket q).1 := popCells_frame s q _ _

theorem modSlot_frame (s : State) (i : Nat) (f : Slot → Slot) : s.sameWork (s.modSlot i f) :=
  ⟨⟨rfl, rfl, rfl, rfl, rfl, rfl, rfl, rfl, rfl⟩, rfl, rfl, rfl⟩

theorem sendDatagram_frame (s : State) (i : Nat) (e : Bool) (k : Nat) (p : List Byte) :
    s.sameWork (s.sendDatagram i e k p) := ⟨⟨rfl, rfl, rfl, rfl, rfl, rfl, rfl, rfl, rfl⟩, rfl, rfl, rfl⟩

theorem flushQueue_frame (s : State) (i : Nat) (e : Bool) (k q n : Nat) : s.sameWork (s.flushQueue i e k q n) := by
  induction n generalizing s with
  | zero => exact State.sameWork.refl s
  | succ n ih =>
    unfold State.flushQueue
    have h := popPacket_frame s q
    split
    · rename_i s' heq
      rw [heq] at h
      exact h
    · rename_i s' p _ heq
      rw [heq] at h
      refine h.trans (State.sameWork.trans ?_ (ih _))
      split
      · exact State.sameWork.refl _
      · split <;> exact sendDatagram_frame _ _ _ _ _

theorem offerTo_frame (s : State) (e : Event) (i : Nat) : s.sameWork (s.offerTo e i) := by
  unfold State.offerTo
  dsimp only
  refine State.sameWork.trans (t := s.modSlot i fun x => { x with eseq := ((s.slot i).eseq + 1) % 65536 })
    (modSlot_frame _ _ _) ?_
  split
  · split
    · exact State.sameWork.trans (rawPushCells_frame _ _ _) (flushQueue_frame _ _ _ _ _ _)
    · exact rawPushCells_frame _ _ _
  · exact State.sameWork.refl _

theorem offerAll_frame (s : State) (e : Event) (l : List Nat) : s.sameWork (s.offerAll e l) := by
  induction l generalizing s with
  | nil => exact State.sameWork.refl s
  | cons i l ih => exact (offerTo_frame s e i).trans (ih _)

theorem deliver_frame (s : State) (e : Event) : s.sameWork (s.deliver e) := by
  have k : s.sameWork (s.addHistory e) := by
    unfold State.addHistory
    split
    · exact ⟨⟨rfl, rfl, rfl, rfl, rfl, rfl, rfl, rfl, rfl⟩, rfl, rfl, rfl⟩
    · exact State.sameWork.refl _
  unfold State.deliver
  split
  · exact k.trans (offerAll_frame _ _ _)
  · exact k.trans (offerTo_frame _ _ _)

theorem raise_frame (s : State) (e : Event) : s.sameWork (s.raise e) := by
  have k : s.sameWork (if e.sev = 4 then { s with sticky := { s.sticky with lastCrit := e.code } } else s) := by
    split
    · exact ⟨⟨rfl, rfl, rfl, rfl, rfl, rfl, rfl, rfl, rfl⟩, rfl, rfl, rfl⟩
    · exact State.sameWork.refl _
  unfold State.raise
  revert k
  generalize (if e.sev = 4 then { s with sticky := { s.sticky with lastCrit := e.code } } else s) = t
  intro k
  refine k.trans ?_
  dsimp only
  split
  · exact deliver_frame _ _
  · split <;> exact ⟨⟨rfl, rfl, rfl, rfl, rfl, rfl, rfl, rfl, rfl⟩, rfl, rfl, rfl⟩

/-- An event reaches the slots and the history, and nothing else. -/
theorem event_frame (s : State) (code sev eclass unit : Nat) (d : List Byte) (w : Audience) :
    s.sameWork (s.event code sev eclass unit d w) := raise_frame s _

theorem queueOp_frame (s : State) (q : Nat) (p : Option PushOp) (b : Bool) : s.sameWork (s.queueOp q p b).1 := by
  unfold State.queueOp
  dsimp only
  split
  · exact (rawQ_frame s q p b).trans (event_frame _ _ _ _ _ _ _)
  · exact rawQ_frame s q p b

theorem qop_frame (s : State) (q : Nat) (p : Option PushOp) (b : Bool) : s.sameWork (s.qop q p b).1 := by
  unfold State.qop
  dsimp only
  split
  · exact (queueOp_frame s q p b).trans (safMod_frame _ _)
  · exact queueOp_frame s q p b

theorem pushCells_frame (s : State) (q : Nat) (l : List (List Byte)) : s.sameWork (s.pushCells q l) := by
  induction l generalizing s with
  | nil => exact State.sameWork.refl s
  | cons c cs ih =>
    cases cs with
    | nil => exact queueOp_frame s q _ _
    | cons d ds => exact (queueOp_frame s q _ _).trans (ih _)

theorem dropMarkers_frame (s : State) (q n : Nat) : s.sameWork (s.dropMarkers q n) := by
  induction n generalizing s with
  | zero => exact State.sameWork.refl s
  | succ n ih =>
    unfold State.dropMarkers
    dsimp only
    split
    · exact (queueOp_frame s q _ _).trans (ih _)
    · exact State.sameWork.refl _

theorem sendReply_frame (s : State) (i k : Nat) (p : List Byte) : s.sameWork (s.sendReply i k p) := by
  unfold State.sendReply
  dsimp only
  split
  · exact State.sameWork.trans (pushCells_frame s _ _) (flushQueue_frame _ _ _ _ _ _)
  · exact pushCells_frame s _ _

theorem sightSend_frame (s : State) (a b c d : Nat) (p : List Byte) : s.sameWork (s.sightSend a b c d p) := by
  unfold State.sightSend
  split
  · exact ⟨⟨rfl, rfl, rfl, rfl, rfl, rfl, rfl, rfl, rfl⟩, rfl, rfl, rfl⟩
  · exact State.sameWork.refl _

theorem settled_frame (s : State) (r : Req) (st : Nat) : s.sameWork ((s.settled r).noteResult r st) := by
  unfold State.noteResult
  split
  · exact State.sameWork.trans (host_frame s _) (pair_frame _ _)
  · exact host_frame s _

/-- A reply reaches its slot, its peer or the service link, and changes nothing else. -/
theorem reply_frame (s : State) (r : Req) (st : Nat) (d : List Byte) (f : Bool) : s.sameWork (s.reply r st d f) := by
  have send : ∀ (t : State) (p : List Byte), t.sameWork
      (let u := if f then (t.settled r).noteResult r st else t
       if r.noReply && decide (st ≤ Status.accepted) then u else u.sendReply r.slot r.k p) := by
    intro t p
    cases f
    · dsimp only
      split
      · exact State.sameWork.refl t
      · exact sendReply_frame t _ _ _
    · dsimp only
      split
      · exact settled_frame t r st
      · exact (settled_frame t r st).trans (sendReply_frame _ _ _ _)
  unfold State.reply
  split
  · have kept : s.sameWork (if (s.cmdQueue r.queue).order = r.order ∧ (s.cmdQueue r.queue).lastSeq.isSome then
        s.setCmdQueue r.queue { s.cmdQueue r.queue with
          stored := some (st, replyPacket r.slot r.seq r.op st r.target (s.genField r.target) d) } else s) := by
      split
      · exact setCmdQueue_frame s _ _
      · exact State.sameWork.refl s
    exact kept.trans (send _ _)
  · split
    · unfold State.sightResult
      exact (pair_frame s _).trans (sightSend_frame _ _ _ _ _ _)
    · exact State.sameWork.refl s
  · exact State.sameWork.refl s
  · exact safMod_frame s _

theorem finish_frame (s : State) (r : Req) (st : Nat) (d : List Byte) : s.sameWork (s.finish r st d) :=
  reply_frame s r st d true

theorem accept_frame (s : State) (r : Req) : s.sameWork (s.accept r) := ⟨⟨rfl, rfl, rfl, rfl, rfl, rfl, rfl, rfl, rfl⟩, rfl, rfl, rfl⟩

theorem resend_frame (s : State) (r : Req) : s.sameWork (s.resend r) := by
  unfold State.resend
  split
  · split
    · exact State.sameWork.refl _
    · exact sendReply_frame _ _ _ _
  · exact State.sameWork.refl _

theorem countDenied_frame (s : State) (i : Nat) : s.sameWork (s.countDenied i) := modSlot_frame s i _

theorem afterPacket_frame (s : State) (q n : Nat) : s.sameWork (s.afterPacket q n) :=
  (popPacket_frame s q).trans ⟨⟨rfl, rfl, rfl, rfl, rfl, rfl, rfl, rfl, rfl⟩, rfl, rfl, rfl⟩

theorem goesTo_frame (s t : State) : t.sameWork (s.goesTo t) := ⟨⟨rfl, rfl, rfl, rfl, rfl, rfl, rfl, rfl, rfl⟩, rfl, rfl, rfl⟩

/-- A slot that freezes holds its channels; its audio goes on. -/
theorem freezeSlot_frame (s : State) (i cause info : Nat) : s.sameAudio (s.freezeSlot i cause info) := by
  have held : ∀ (l : List Nat) (t : State) (f : Channel → Channel), t.sameAudio (t.ownedChans i f l) := by
    intro l
    induction l with
    | nil => exact fun t _ => State.sameAudio.refl t
    | cons c cs ih =>
      intro t f
      unfold State.ownedChans
      refine State.sameAudio.trans ?_ (ih _ f)
      split
      · exact ⟨rfl, rfl, rfl, rfl, rfl, rfl, rfl, rfl, rfl⟩
      · exact State.sameAudio.refl t
  unfold State.freezeSlot
  dsimp only
  split
  · exact State.sameAudio.refl s
  · refine State.sameAudio.trans ?_ (event_frame _ _ _ _ _ _ _).1
    refine State.sameAudio.trans ?_ (sticky_frame _ _).1
    exact State.sameAudio.trans (host_frame s _).1 (held _ _ _)

end Sys2Proof.Machine
end

