-- ==== Sys2Proof/Laws/Tables.lean ====
section
/-!
SUPPORT. Sys2Proof/Laws/Tables.lean: sparse tables: what a read gives after a write, and that every operation
keeps the canonical form.
-/
namespace Sys2Proof.Machine

variable {α : Type}

theorem tabove_trans {i j : Nat} {t : Tab α} (h : tabove j t = true) (hij : i < j) : tabove i t = true := by
  induction t with
  | nil => rfl
  | cons x t ih =>
    simp only [tabove, Bool.and_eq_true, decide_eq_true_eq] at h ⊢
    exact ⟨by omega, ih h.2⟩

theorem tget_of_tabove {d : α} {t : Tab α} {i j : Nat} (h : tabove j t = true) (hij : i ≤ j) : tget d t i = d := by
  cases t with
  | nil => rfl
  | cons x t =>
    simp only [tabove, Bool.and_eq_true, decide_eq_true_eq] at h
    simp only [tget]
    rw [if_neg (by omega), if_pos (by omega)]

theorem tskip_of_tabove {t : Tab α} {i : Nat} (h : tabove i t = true) : tskip i t = t := by
  cases t with
  | nil => rfl
  | cons x t =>
    simp only [tabove, Bool.and_eq_true, decide_eq_true_eq] at h
    simp only [tskip]
    rw [if_neg (by omega)]

theorem tabove_tskip {t : Tab α} {i j : Nat} (h : tabove j t = true) : tabove j (tskip i t) = true := by
  induction t with
  | nil => rfl
  | cons x t ih =>
    simp only [tskip]
    split
    · simp only [tabove, Bool.and_eq_true] at h
      exact ih h.2
    · exact h

theorem tget_tskip {d : α} (t : Tab α) (i : Nat) : tget d (tskip i t) i = d := by
  induction t with
  | nil => rfl
  | cons x t ih =>
    simp only [tskip]
    split
    · exact ih
    · simp only [tget]
      rw [if_neg (by omega), if_pos (by omega)]

variable [DecidableEq α]

theorem tabove_tput {d : α} {t : Tab α} {i j : Nat} {v : α} (h : tabove j t = true) (hij : j < i) :
    tabove j (tput d t i v) = true := by
  induction t with
  | nil => simp only [tput]; split <;> simp [tabove, hij]
  | cons x t ih =>
    simp only [tabove, Bool.and_eq_true, decide_eq_true_eq] at h
    simp only [tput]
    split
    · split <;> simp [tabove, h.1, h.2, hij]
    · split
      · split
        · exact tabove_tskip h.2
        · simp [tabove, h.2, hij]
      · simp [tabove, h.1, ih h.2]

/-- A write keeps the canonical form. -/
theorem twf_tput {d : α} {t : Tab α} (h : twf d t = true) (i : Nat) (v : α) : twf d (tput d t i v) = true := by
  induction t with
  | nil => simp only [tput]; split <;> simp_all [twf, tabove]
  | cons x t ih =>
    obtain ⟨k, w⟩ := x
    simp only [twf, Bool.and_eq_true, Bool.not_eq_true', decide_eq_false_iff_not] at h
    obtain ⟨⟨ha, hw⟩, ht⟩ := h
    simp only [tput]
    split
    · rename_i hik
      split
      · simp [twf, ha, hw, ht]
      · rename_i hv
        simp [twf, tabove, ha, hw, ht, hv, hik, tabove_trans ha hik]
    · split
      · rename_i hik
        split
        · subst hik
          rw [tskip_of_tabove ha]
          exact ht
        · rename_i hv
          subst hik
          simp [twf, ha, ht, hv]
      · have : k < i := by omega
        simp [twf, hw, ih ht, tabove_tput ha this]

/-- A read at the key written gives the value written. -/
@[simp] theorem tget_tput_same {d : α} (t : Tab α) (i : Nat) (v : α) : tget d (tput d t i v) i = v := by
  induction t with
  | nil => simp only [tput]; split <;> simp_all [tget]
  | cons x t ih =>
    obtain ⟨k, w⟩ := x
    simp only [tput]
    split
    · rename_i hik
      split
      · rename_i hv; simp [tget, hv, hik, Nat.ne_of_lt hik]
      · simp [tget]
    · split
      · split
        · rename_i hv
          rw [hv]; exact tget_tskip t i
        · simp [tget]
      · rename_i h1 h2
        simp only [tget]
        rw [if_neg h2, if_neg h1, ih]

/-- A read at another key gives what it gave. -/
@[simp] theorem tget_tput_other {d : α} (t : Tab α) (h : twf d t = true) (i j : Nat) (v : α) (hij : j ≠ i) :
    tget d (tput d t i v) j = tget d t j := by
  induction t with
  | nil => simp only [tput]; split <;> simp [tget, hij]
  | cons x t ih =>
    obtain ⟨k, w⟩ := x
    simp only [twf, Bool.and_eq_true] at h
    simp only [tput]
    split
    · split
      · rfl
      · rename_i hik _
        simp only [tget]
        rw [if_neg hij]
        split
        · rw [if_neg (by omega), if_pos (by omega)]
        · rfl
    · split
      · rename_i hik
        have hjk : j ≠ k := by omega
        split
        · rw [hik, tskip_of_tabove h.1.1]
          simp only [tget, if_neg hjk]
          split
          · exact tget_of_tabove h.1.1 (by omega)
          · rfl
        · simp [tget, hij, hik ▸ hij]
          split <;> (split <;> first | rfl | omega)
      · simp only [tget]
        rw [ih h.2]

omit [DecidableEq α] in
theorem tabove_filter {j : Nat} {t : Tab α} (p : Nat × α → Bool) (h : tabove j t = true) :
    tabove j (t.filter p) = true := by
  induction t with
  | nil => rfl
  | cons x t ih =>
    simp only [tabove, Bool.and_eq_true, decide_eq_true_eq] at h
    simp only [List.filter]
    split
    · simp [tabove, h.1, ih h.2]
    · exact ih h.2

/-- Leaving entries out keeps the canonical form. -/
theorem twf_filter {d : α} {t : Tab α} (p : Nat × α → Bool) (h : twf d t = true) : twf d (t.filter p) = true := by
  induction t with
  | nil => rfl
  | cons x t ih =>
    simp only [twf, Bool.and_eq_true] at h
    simp only [List.filter]
    split
    · simp only [twf, Bool.and_eq_true]
      exact ⟨⟨tabove_filter p h.1.1, h.1.2⟩, ih h.2⟩
    · exact ih h.2

/-- A change of one entry keeps the canonical form. -/
theorem twf_tmod {d : α} {t : Tab α} (h : twf d t = true) (i : Nat) (f : α → α) : twf d (tmod d t i f) = true :=
  twf_tput h i _

end Sys2Proof.Machine
end

