-- ==== Sys2Proof/Laws/Memory.lean ====
section
/-!
SUPPORT. Sys2Proof/Laws/Memory.lean: memory: every operation keeps its canonical form, a read after a write gives the
byte written, and a write leaves every other byte alone.
-/
namespace Sys2Proof.Machine

theorem wf_writeByte {m : Tab Byte} (h : Memory.wf m = true) (a : Nat) (b : Byte) :
    Memory.wf (writeByte m a b) = true := twf_tput h a b

theorem wf_writeBytes {m : Tab Byte} (h : Memory.wf m = true) (a : Nat) (bs : List Byte) :
    Memory.wf (writeBytes m a bs) = true := by
  induction bs generalizing m a with
  | nil => exact h
  | cons b bs ih => exact ih (wf_writeByte h a b) (a + 1)

theorem wf_clearSlots {m : Tab Byte} (h : Memory.wf m = true) (base n : Nat) :
    Memory.wf (clearSlots m base n) = true := twf_filter _ h

theorem wf_foldl_writeByte {β : Type} (l : List β) (a : β → Nat) (b : β → Byte) {m : Tab Byte}
    (h : Memory.wf m = true) : Memory.wf (l.foldl (fun t x => writeByte t (a x) (b x)) m) = true := by
  induction l generalizing m with
  | nil => exact h
  | cons x l ih => exact ih (wf_writeByte h _ _)

theorem wf_copySlots {m : Tab Byte} (h : Memory.wf m = true) (src dst n : Nat) :
    Memory.wf (copySlots m src dst n) = true := by
  unfold copySlots
  exact wf_foldl_writeByte _ _ _ (wf_clearSlots h dst n)

/-- Reset memory has the canonical form. -/
theorem wf_reset : Memory.wf State.reset.mem = true := rfl

theorem readByte_writeByte_same (m : Tab Byte) (a : Nat) (b : Byte) : readByte (writeByte m a b) a = b :=
  tget_tput_same m a b

theorem readByte_writeByte_other {m : Tab Byte} (h : Memory.wf m = true) {a c : Nat} (b : Byte) (hc : c ≠ a) :
    readByte (writeByte m a b) c = readByte m c := tget_tput_other m h a c b hc

/-- A byte outside the bytes written stands. -/
theorem readByte_writeBytes_outside {m : Tab Byte} (h : Memory.wf m = true) (a : Nat) (bs : List Byte) {c : Nat}
    (hc : c < a ∨ a + bs.length ≤ c) : readByte (writeBytes m a bs) c = readByte m c := by
  induction bs generalizing m a with
  | nil => rfl
  | cons b bs ih =>
    simp only [List.length_cons] at hc
    simp only [writeBytes]
    rw [ih (wf_writeByte h a b) (a + 1) (by omega), readByte_writeByte_other h b (by omega)]

/-- A byte of those written reads as written. -/
theorem readByte_writeBytes_inside {m : Tab Byte} (h : Memory.wf m = true) (a : Nat) (bs : List Byte) {j : Nat}
    (hj : j < bs.length) : readByte (writeBytes m a bs) (a + j) = bs[j] := by
  induction bs generalizing m a j with
  | nil => simp at hj
  | cons b bs ih =>
    simp only [writeBytes]
    cases j with
    | zero =>
      rw [readByte_writeBytes_outside (wf_writeByte h a b) (a + 1) bs (by omega)]
      exact readByte_writeByte_same m a b
    | succ j =>
      have := ih (wf_writeByte h a b) (a + 1) (j := j) (by simpa using hj)
      simpa [Nat.add_assoc, Nat.add_comm 1 j] using this

end Sys2Proof.Machine
end

