-- ==== Sys2Proof/Tests/Slice0.lean ====
section
/-!
SUPPORT. Sys2Proof/Tests/Slice0.lean: the modeller's own tests: ill-formed commands that the checks refuse, for every
statement with hypotheses a state and operands that meet them, and small tests of single commands.
-/
namespace Sys2Proof.Tests
open Sys2Proof.Machine

set_option Elab.async false

/-! ## A device at work -/

/-- The main die has started, every unit is powered, and the island is ready. -/
def up : State :=
  let s := State.reset
  { s with
    host := { s.host with ready := 0xFFFFFFFF }
    time := { s.time with running := true, servo := false }
    sys := { s.sys with inReset := false, running := true, booted := true }
    fab := { s.fab with powered := 0xFFFF, usable := 0xFFFF }
    saf := { s.saf with present := true, ready := true } }

/-- The same device as the Foresight of a pair. -/
def fore : State := up.pairMod fun p => { p with state := .foresight, settled := true }

/-- A well-formed packet of the privileged slot, with its trailer. -/
def packetOf (flags slot op target : Nat) (params : List Byte) : List Byte :=
  let b := [3] ++ le 1 slot ++ le 2 1 ++ le 2 op ++ le 2 flags ++ le 2 target ++ zeros 2 ++ le 2 params.length ++
    zeros 2 ++ params
  b ++ le 4 (crc32c b)

/-- A committed packet in queue `q`, and no other. -/
def holds (s : State) (q : Nat) (packet : List Byte) : State :=
  let cells := (toCells packet).map fun c => ({ data := c, first := false, last := false } : QCell)
  s.setQueue q { s.queue q with
    bank0 := { Bank.empty with cells := markLast cells, commit := cells.length }, fill1 := true }

/-- The packet of an opcode, waiting in the privileged slot's first queue. -/
def asks (s : State) (flags op target : Nat) (params : List Byte) : State :=
  holds s (4 * s.host.privSlot) (packetOf flags s.host.privSlot op target params)

/-- A boot record in the first of its places. -/
def bootRec : State :=
  let b := le 4 0x52544F42 ++ zeros 56
  { up with mem := writeBytes up.mem 0x20000000 (b ++ le 4 (crc32c b)) }

/-- An overlay of one entry, of form 5. -/
def ovl2 : List Byte :=
  [0x4F, 0x56, 0x4C, 0x59, 1, 0, 0x20, 0, 5] ++ zeros 15 ++
    [0x30, 0, 0x0A, 0, 1, 0, 0, 0, 0x41, 2, 0, 0xF0, 4, 0, 0, 0, 1, 0, 0, 0, 0xB4, 0xDD, 0xF4, 0x3E]

/-- The device late in its life: every deadline that counts from the start has passed. -/
def aged : State := up.timeMod fun t => { t with
  elapsed := 1000 * second, ri := 1048576, riLoaded := true, now := { t.now with sec := 100 } }

/-- Its main die held in reset. -/
def held : State := { up with
  host := { up.host with ready := 0 }
  time := { up.time with running := false, elapsed := 1000 * second }
  sys := { up.sys with inReset := true, running := false, booted := false } }

/-- Its main die released, its firmware not started. -/
def released : State := held.sysMod fun x => { x with inReset := false }

def aReq : Req := parseReq 0 1 (packetOf 0 0 0x0100 0 [])

def waits (op target : Nat) : Pending :=
  { req := parseReq 0 1 (packetOf 0 0 op target []), due := 0, atRi := false, acked := true }

def withPending (s : State) (p : Pending) : State := { s with host := { s.host with pending := [p] } }

def aChannel (s : State) (f : Channel → Channel) : State := s.modChan 3 fun x => f { x with owner := 0 }

def aStation (mode : Nat) : Station :=
  { offset := 0, control := BitVec.ofNat 32 (65536 * mode), src := 0x8000000000000000,
    dst := 0x16C00000, length := 64, next := 0, start := 0, result := none }

/-- A frame of the field bus. -/
def busFrame (atype : Nat) (payload : List Byte) : List Byte :=
  let app := [1] ++ le 1 atype ++ zeros 4 ++ le 2 payload.length ++ payload
  zeros 12 ++ [0x88, 0xB6] ++ app ++ le 2 (crc16 app) ++ zeros 4

/-- The next frame of the pair link. -/
def linkFrame (kind : Nat) (payload : List Byte) : List Byte :=
  [1] ++ le 1 kind ++ zeros 2 ++ le 4 1 ++ zeros 12 ++ le 2 payload.length ++ zeros 10 ++ payload

def aFrame : TxFrame :=
  { bytes := zeros 64, launch := none, stamp := false, oneStep := false, tag := 0, slot := none, lastRi := none,
    held := false, replay := false }

/-- A stream entry: enabled, with flags, a format and its channels. -/
def anEntry (flags format : Nat) : List Byte :=
  le 1 (3 + flags) ++ le 1 format ++ [2, 0] ++ le 2 48 ++ le 2 0 ++ [1, 0] ++ le 2 4 ++ zeros 116

/-- A warning with its header, one sample and its checksums. -/
def aMessage : List Byte :=
  let data : List Byte := [1, 2]
  let h := le 4 0x4753534D ++ le 2 5 ++ [0, 16] ++ le 4 1 ++ zeros 4 ++ le 4 (crc32c data) ++ zeros 8
  h ++ le 4 (crc32c h) ++ data

def theMsgLoad (persist : Bool) : MsgLoad :=
  { msg := 5, persist := persist, flash := true, src := 0, len := 34, offset := 0, req := aReq }

/-- A service packet that sets a key, before any key is set. -/
def aServicePacket : List Byte :=
  [2, 0, 0, 0] ++ le 4 1 ++ le 4 0 ++ packetOf 0 8 0x0A10 0xF000 (zeros 32) ++ zeros 32

/-- A program of few instructions that passes every check. -/
def aProgram : List Byte :=
  [65, 76, 77, 65, 1, 0, 64, 0, 34] ++ zeros 7 ++ [88, 0, 0, 0, 2, 0, 0, 0, 1] ++ zeros 7 ++ [64, 0, 0, 0, 80] ++ zeros 30 ++ [255, 255, 1, 8, 4, 0, 128] ++ zeros 5 ++ [12, 0, 0, 2, 0, 225, 148, 134, 106]

/-- A datum that passes every check. -/
def aDatum : List Byte :=
  [68, 84, 85, 77, 1, 0, 64, 0, 9] ++ zeros 7 ++ [80, 0, 0, 0, 1, 0, 0, 0, 64, 0, 0, 0, 12] ++ zeros 35 ++ [65, 2, 0, 240, 4] ++ zeros 4 ++ [1, 0, 0, 81, 162, 66, 96]

/-- A mesh of one triangle with two feeds and a phantom vertex. -/
def aMesh : List Byte :=
  let b := le 4 0x4853454D ++ le 2 1 ++ le 2 64 ++ le 8 9 ++ le 4 132 ++ le 2 1 ++ zeros 42 ++
    le 2 0 ++ le 2 1 ++ le 2 0xFFFF ++ le 2 0xFFFF ++ le 2 0xFFFF ++ le 2 0xFFFF ++ zeros 52
  b ++ le 4 (crc32c b)

def theFetch : Fetch := { req := aReq, addr := 0x17000000, len := aProgram.length, bank := 1 }

def placedAt (a : Nat) (b : List Byte) : State := { aged with mem := writeBytes aged.mem a b }

def placed : State := placedAt 0x17000000 aProgram

def liveFeed : Feed := { Feed.reset with record := [1] ++ zeros 35 }

def meshPlaced : State := (placedAt 0x17000000 aMesh).objMod fun o =>
  { o with feed := tput Feed.reset (tput Feed.reset o.feed 0 liveFeed) 1 liveFeed,
           load := some { theFetch with len := 132 } }

/-- One section of the island's configuration. -/
def cfgd (sid : Nat) (body : List Byte) : State := aged.safMod fun x => { x with cfg := [(sid * 65536, body)] }

/-- A TDM port that takes its clocks from outside. -/
def tdmSlave : List Byte := [8, 2, 16, 2, 0, 0, 0, 0] ++ zeros 8

def clocks : State := up.safMod fun x => { x with compared := none }
def clocksApart : State := clocks.timeMod fun t => { t with now := { t.now with sec := 5 } }

/-- A datagram slot bound to a host, with a key of zeros. -/
def bound : State := up.modSlot 6 fun x => { x with udp := { x.udp with
  bound := true, ipver := 4, addr := [10, 0, 0, 2] ++ zeros 12, sport := 0, key := zeros 32 } }

def aDatagram : List Byte :=
  let b := [1, 0, 0, 0] ++ le 4 1 ++ le 4 bound.host.bootCount ++ packetOf 0 6 0x0100 0 []
  b ++ hmacSha256 (zeros 32) b

def theTick : TickIn :=
  { slack := [], missed := [], early := [], units := [], inputs := [], ecc := [], offset := 0 }

def theJob : LoadJob := { req := none, source := 0, addr := 0x16C00000, len := aDatum.length, since := 0 }

def badVersion : List Byte :=
  let b := [2] ++ (packetOf 0 0 0x0100 0 []).drop 1
  b.take 16 ++ le 4 (crc32c (b.take 16))

/-! ## Ill-formed commands: one for each check -/

theorem test_unit_checks_1 : ([.sysNop 32, .rcCounterRead 6 0, .rcCounterRead 0 65536, .queueCommit 6 0,
    .queueCommit 0 256, .snapshotTake 6, .functionLevelReset 4, .channelStart 10 0, .channelStart 0 36,
    .stationFetch 36, .loopLock 6, .gpioPulseEnd 32, .launchSlotFire 64] : List Instr).all (fun c => !c.wf) = true := by
  decide

theorem test_unit_checks_2 : ([.frameReceive 5 [] true, .txFrameAtHead 5 0, .txFrameAtHead 0 7, .lpiEnter 3,
    .wakeHoldExpire 8, .streamPacketForm 512, .streamAbsent 512, .pathAbsent 512 0, .pathAbsent 0 2, .asrcLock 128 0,
    .sdpSessionExpire 1024, .acmpConnect true 512 true [] [] 0, .acmpConnect true 0 true [] [] 4096] : List Instr).all
      (fun c => !c.wf) = true := by
  decide

theorem test_unit_checks_3 : ([.serialSlip 36 true, .bitcountError 16 true, .aesSubframeError 4 0,
    .aesSubframeError 0 3, .nonAudioHoldEnd 532 0, .nonAudioHoldEnd 0 32, .partitionUsable 16, .gainStep 16384 0,
    .playerDone 64, .directLaneFadeEnd 64, .directSourceChange 0 8, .tapFadeEnd 65536] : List Instr).all
      (fun c => !c.wf) = true := by
  decide

theorem test_unit_checks_4 : ([.correctionSwap 1024, .biquadFadeEnd 0x4FFF 0, .biquadFadeEnd 0x5000 16,
    .biquadFadeEnd 0x6000 8, .overlayResume 64, .inputStateChange 8, .delegationApply 64, .reportSilent 128,
    .resetNRelease 8 true, .fabricSelftestDone 65536, .otpProgramDone 1] : List Instr).all (fun c => !c.wf) = true := by
  decide

theorem test_ill_formed_refused : exec (.sysNop 32) up = .refused (.illFormed "SYS_NOP") := by rfl

theorem test_well_formed : ([.sysNop 31, .rcCounterRead 5 65535, .queueReset 5 255, .functionLevelReset 3,
    .pathAbsent 511 1, .biquadFadeEnd 0x60FF 7, .blockTick theTick] : List Instr).all (fun c => c.wf) = true := by
  decide

/-! ## The packets of the statements about opcodes -/

/-- Some queue offers a packet that meets a statement's conditions. -/
def Meets (op : Nat) (ok : Req → State → Prop) : Prop :=
  ∃ (q : Nat) (s t : State) (i : OpInfo) (r : Req),
    s.offer q op = some (t, i, r) ∧ ok r t ∧ t.mirrors i r = false

/-- Some due command meets a statement's conditions at its boundary. -/
def MeetsDue (op : Nat) (ok : Req → State → Prop) : Prop :=
  ∃ (s : State) (p : Pending), s.sys.running = true ∧ s.dueCommands = [p] ∧ p.req.op = op ∧
    (p.req.gen = 0 ∨ p.req.gen = (s.dropPending p).genOf p.req.target) ∧ ok p.req (s.dropPending p)

/-- Some queue offers a packet that a Foresight passes on. -/
def MeetsMirrored (op : Nat) (ok : Req → State → Prop) : Prop :=
  ∃ (q : Nat) (s t : State) (i : OpInfo) (r : Req),
    s.offer q op = some (t, i, r) ∧ ok r t ∧ t.mirrors i r = true ∧ r.atRi = false

section
variable (s : State) (flags op target : Nat) (params : List Byte) (ok : Req → State → Prop)
  [∀ r t, Decidable (ok r t)]

def meets (ok : Req → State → Prop) [∀ r t, Decidable (ok r t)] : Bool :=
  match (asks s flags op target params).offer (4 * s.host.privSlot) op with
  | some (t, i, r) => decide (ok r t) && !t.mirrors i r
  | none => false

def meetsMirrored (ok : Req → State → Prop) [∀ r t, Decidable (ok r t)] : Bool :=
  match (asks s flags op target params).offer (4 * s.host.privSlot) op with
  | some (t, i, r) => decide (ok r t) && t.mirrors i r && !r.atRi
  | none => false

/-- The command of the packet, accepted earlier and now due. -/
def due (t : State) (r : Req) : State × Pending :=
  let p : Pending := { req := { r with gen := 0 }, due := 0, atRi := false, acked := false }
  ({ t with host := { t.host with pending := [p] } }, p)

def meetsDue (ok : Req → State → Prop) [∀ r t, Decidable (ok r t)] : Bool :=
  match (asks s flags op target params).offer (4 * s.host.privSlot) op with
  | some (t, _, r) =>
    let u := due t r
    u.1.sys.running && decide (u.1.dueCommands = [u.2]) && decide (u.2.req.op = op) &&
      decide (ok u.2.req (u.1.dropPending u.2))
  | none => false

variable {ok}

theorem meets_of (h : meets s flags op target params ok = true) : Meets op ok := by
  unfold meets at h
  split at h
  · rename_i t i r e
    simp only [Bool.and_eq_true, decide_eq_true_eq, Bool.not_eq_true'] at h
    exact ⟨_, _, t, i, r, e, h.1, h.2⟩
  · exact absurd h (by decide)

theorem meetsMirrored_of (h : meetsMirrored s flags op target params ok = true) : MeetsMirrored op ok := by
  unfold meetsMirrored at h
  split at h
  · rename_i t i r e
    simp only [Bool.and_eq_true, decide_eq_true_eq, Bool.not_eq_true'] at h
    exact ⟨_, _, t, i, r, e, h.1.1, h.1.2, h.2⟩
  · exact absurd h (by decide)

theorem meetsDue_of (h : meetsDue s flags op target params ok = true) : MeetsDue op ok := by
  unfold meetsDue at h
  split at h
  · rename_i t i r e
    simp only [Bool.and_eq_true, decide_eq_true_eq] at h
    exact ⟨_, _, h.1.1.1, h.1.1.2, h.1.2, .inl rfl, h.2⟩
  · exact absurd h (by decide)
end

theorem witness_SystemQueriesAnswer :
    Meets 0x0100 anyway ∧
    Meets 0x0101 anyway ∧
    Meets 0x0102 anyway ∧
    Meets 0x0104 anyway ∧
    Meets 0x0140 anyway ∧
    Meets 0x0700 anyway ∧
    Meets 0x0911 anyway ∧
    Meets 0x0B00 anyway ∧
    Meets 0x0C00 anyway ∧
    Meets 0x0D00 anyway :=
  ⟨meets_of up 0 0x0100 0 [1, 2, 3, 4] (by decide +kernel),
   meets_of up 0 0x0101 0 [] (by decide +kernel),
   meets_of up 0 0x0102 0 [] (by decide +kernel),
   meets_of up 0 0x0104 40961 [] (by decide +kernel),
   meets_of up 0 0x0140 0 [] (by decide +kernel),
   meets_of up 0 0x0700 0 [] (by decide +kernel),
   meets_of up 0 0x0911 61440 [] (by decide +kernel),
   meets_of up 0 0x0B00 61440 [] (by decide +kernel),
   meets_of up 0 0x0C00 61440 [] (by decide +kernel),
   meets_of up 0 0x0D00 0 [] (by decide +kernel)⟩

theorem witness_AudioQueriesAnswer :
    Meets 0x0200 anyway ∧
    Meets 0x0213 anyway ∧
    Meets 0x0300 anyway ∧
    Meets 0x0306 anyway ∧
    Meets 0x0400 anyway ∧
    Meets 0x0500 anyway ∧
    Meets 0x0506 anyway ∧
    Meets 0x0507 anyway ∧
    Meets 0x0511 anyway ∧
    Meets 0x0600 anyway :=
  ⟨meets_of up 0 0x0200 61440 [] (by decide +kernel),
   meets_of up 0 0x0213 53253 [] (by decide +kernel),
   meets_of up 0 0x0300 4096 [] (by decide +kernel),
   meets_of up 0 0x0306 8192 [] (by decide +kernel),
   meets_of up 0 0x0400 16684 [] (by decide +kernel),
   meets_of up 0 0x0500 20480 [] (by decide +kernel),
   meets_of up 0 0x0506 20480 [] (by decide +kernel),
   meets_of up 0 0x0507 61440 [] (by decide +kernel),
   meets_of up 0 0x0511 20480 [] (by decide +kernel),
   meets_of up 0 0x0600 61440 [] (by decide +kernel)⟩

theorem witness_ParameterReadsAnswer_1 :
    Meets 0x0103 (fun r _ => r.params.length % 2 = 0) ∧
    Meets 0x0142 (fun r _ => u8 r.params 0 ≤ 4 ∧ zeroAt r.params 1 3 = true) ∧
    Meets 0x0171 (fun r _ => u8 r.params 0 = 0 ∧ zeroAt r.params 1 3 = true) ∧
    Meets 0x0171 (fun r s => u8 r.params 0 = 1 ∧ zeroAt r.params 1 3 = true ∧ r.hasLevel s 2 = true) ∧
    Meets 0x0711 (fun r _ => u8 r.params 0 ≤ 5) ∧
    Meets 0x0901 (fun r _ => u8 r.params 0 ≤ 4) ∧
    Meets 0x0902 (fun r _ => u8 r.params 0 ≤ 4 ∧ u8 r.params 1 = 0 ∧ zeroAt r.params 2 2 = true) ∧
    Meets 0x0902 (fun r s => u8 r.params 0 ≤ 4 ∧ u8 r.params 1 = 1 ∧ zeroAt r.params 2 2 = true ∧ r.hasLevel
      s 2 = true) ∧
    Meets 0x0D01 (fun r _ => 1 ≤ u16 r.params 2 ∧ u16 r.params 2 ≤ 64) ∧
    Meets 0x0604 (fun r _ => 1 ≤ u16 r.params 2 ∧ u16 r.params 2 ≤ 1000 ∧ u16 r.params 0 + u16 r.params 2 ≤
      16384) ∧
    Meets 0x0411 (fun r _ => u8 r.params 0 = 0 ∧ zeroAt r.params 1 3 = true) ∧
    Meets 0x0414 (fun r _ => zeroAt r.params 2 2 = true) :=
  ⟨meets_of up 0 0x0103 0 [4, 224] (by decide +kernel),
   meets_of up 0 0x0142 0 [4, 0, 0, 0] (by decide +kernel),
   meets_of up 0 0x0171 61440 (zeros 4) (by decide +kernel),
   meets_of up 0 0x0171 61440 [1, 0, 0, 0] (by decide +kernel),
   meets_of up 0 0x0711 61440 [0] (by decide +kernel),
   meets_of up 0 0x0901 61440 [0] (by decide +kernel),
   meets_of up 0 0x0902 61440 (zeros 4) (by decide +kernel),
   meets_of up 0 0x0902 61440 [0, 1, 0, 0] (by decide +kernel),
   meets_of up 0 0x0D01 0 [0, 0, 1, 0] (by decide +kernel),
   meets_of up 0 0x0604 61440 [100, 0, 3, 0] (by decide +kernel),
   meets_of up 0 0x0411 61440 (zeros 4) (by decide +kernel),
   meets_of up 0 0x0414 16384 (zeros 4) (by decide +kernel)⟩

theorem witness_ParameterReadsAnswer_2 :
    Meets 0x0523 (fun r _ => u8 r.params 0 = 0 ∧ zeroAt r.params 1 3 = true) ∧
    Meets 0x0304 (fun r _ => u8 r.params 0 = 0 ∧ zeroAt r.params 1 3 = true) ∧
    Meets 0x0304 (fun r s => u8 r.params 0 = 1 ∧ zeroAt r.params 1 3 = true ∧ r.hasLevel s 2 = true) ∧
    Meets 0x0307 (fun r _ => zeroAt r.params 2 2 = true) ∧
    Meets 0x0324 (fun r _ => u8 r.params 1 = 0 ∧ zeroAt r.params 2 2 = true ∧ unitClass r.target = 3 ∧ u8
      r.params 0 = 0) :=
  ⟨meets_of up 0 0x0523 28672 (zeros 4) (by decide +kernel),
   meets_of up 0 0x0304 4096 (zeros 4) (by decide +kernel),
   meets_of up 0 0x0304 4096 [1, 0, 0, 0] (by decide +kernel),
   meets_of up 0 0x0307 61440 (zeros 4) (by decide +kernel),
   meets_of up 0 0x0324 12288 (zeros 4) (by decide +kernel)⟩

theorem witness_SystemCommandsComplete_1 :
    Meets 0x0105 (passes windowCheck) ∧
    Meets 0x0106 (fun r s => r.index < 32 ∧ zeroAt r.params 1 3 = true ∧ (u8 r.params 0 < 8 ∨ u8 r.params 0
      = 0xFF) ∧ (s.chan r.index).state = .idle) ∧
    Meets 0x0107 (passes bindCheck) ∧
    Meets 0x0108 (fun r s => unitClass r.target = 10 ∧ r.index ≠ s.host.privSlot) ∧
    Meets 0x0108 (fun r _ => unitClass r.target = 8 ∧ r.index < 32) ∧
    Meets 0x0108 (fun r _ => unitClass r.target ≠ 10 ∧ unitClass r.target ≠ 8) ∧
    Meets 0x0109 (fun r s => unitClass r.target = 10 ∧ (s.slot r.index).frozen = true ∧ (s.slot
      r.index).serial = u16 r.params 0 ∧ (r.index ≠ s.host.privSlot ∨ 4 ≤ r.index)) ∧
    Meets 0x0109 (fun r s => unitClass r.target = 8 ∧ r.index < 32 ∧ (s.chan r.index).frozen = true ∧
      (s.chan r.index).serial = u16 r.params 0) ∧
    Meets 0x0109 (fun r s => unitClass r.target ≠ 10 ∧ unitClass r.target ≠ 8 ∧ s.net.sight.frozen = true ∧
      s.net.sight.serial = u16 r.params 0) ∧
    Meets 0x010A anyway ∧
    Meets 0x0170 (passes gpioCheck) ∧
    Meets 0x0D02 (fun r _ => zeroAt r.params 1 3 = true ∧ isW1c (0x4000 + u8 r.params 0) = true) :=
  ⟨meets_of up 0 0x0105 40961 [2, 0, 0, 0] (by decide +kernel),
   meets_of up 0 0x0106 32773 [1, 0, 0, 0] (by decide +kernel),
   meets_of up 0 0x0107 40966 ([4, 0, 160, 15, 10, 0, 0, 1] ++ zeros 44) (by decide +kernel),
   meets_of up 0 0x0108 40961 [] (by decide +kernel),
   meets_of up 0 0x0108 32777 [] (by decide +kernel),
   meets_of up 0 0x0108 61440 [] (by decide +kernel),
   meets_of (up.modSlot 1 fun x => { x with frozen := true }) 0 0x0109 40961 [0, 0] (by decide +kernel),
   meets_of (up.modChan 3 fun x => { x with frozen := true }) 0 0x0109 32771 [0, 0] (by decide +kernel),
   meets_of (up.sightMod fun x => { x with frozen := true }) 0 0x0109 61440 [0, 0] (by decide +kernel),
   meets_of up 0 0x010A 0 (zeros 16) (by decide +kernel),
   meets_of up 0 0x0170 61440 ([5, 0, 0, 0, 3, 7, 0, 0, 64, 13, 3] ++ zeros 5) (by decide +kernel),
   meets_of up 0 0x0D02 61440 ([8] ++ zeros 7) (by decide +kernel)⟩

theorem witness_SystemCommandsComplete_2 :
    Meets 0x0D02 (fun r _ => zeroAt r.params 1 3 = true ∧ isW1c (0x4000 + u8 r.params 0) = false ∧ isRcWord
      (0x4000 + u8 r.params 0) = true) :=
  meets_of up 0 0x0D02 61440 ([68] ++ zeros 7) (by decide +kernel)

theorem witness_ResetCommandsComplete :
    Meets 0x010B (fun r _ => u32 r.params 0 = 0x9624) ∧
    Meets 0x0160 (fun r _ => u32 r.params 0 = 0x9624) ∧
    Meets 0x0A11 (fun r s => s.saf.ready = true ∧ u32 r.params 0 = 0x9624 ∧ s.saf.activeReqs = [] ∧
      s.safetyLocked r = false) :=
  ⟨meets_of up 0 0x010B 61440 [36, 150, 0, 0] (by decide +kernel),
   meets_of up 0 0x0160 61440 [36, 150, 0, 0] (by decide +kernel),
   meets_of up 0 0x0A11 61440 [36, 150, 0, 0] (by decide +kernel)⟩

theorem witness_FirmwareCommandsComplete_1 :
    Meets 0x0150 (fun _ s => s.bootRecord.isSome = true) ∧
    Meets 0x0151 (passes fwChunkCheck) ∧
    Meets 0x0152 (fun r s => u8 r.params 0 ≤ 1 ∧ zeroAt r.params 1 3 = true ∧ zeroAt r.params 16 4 = true ∧
      s.sys.stage = none ∧ s.sys.trial = none ∧ s.isReady Rdy.longStore = true) ∧
    Meets 0x0154 (fun _ s => s.sys.trial.isSome = true) :=
  ⟨meets_of bootRec 0 0x0150 0 [] (by decide +kernel),
   meets_of up 0 0x0151 61440 (zeros 9) (by decide +kernel),
   meets_of up 0 0x0152 61440 (zeros 20) (by decide +kernel),
   meets_of ({ up with sys := { up.sys with trial := some { from_ := 0, auto := false } } }) 0 0x0154 61440
     [] (by decide +kernel)⟩

set_option maxRecDepth 20000 in
theorem witness_FirmwareCommandsComplete_2 :
    Meets 0x0C01 (fun r s => s.otp.job = none ∧ s.otp.blank.isSome = true ∧ baseRecordOk (slice r.params 4
      512) = true ∧ u32 r.params 0 = u32 s.otp.ident 0 ∧ s.fab.tjMax ≤ 340) :=
  meets_of up 0 0x0C01 61440 (zeros 4 ++ [66, 67, 82, 68, 1] ++ zeros 6 ++ [2] ++ zeros 500)
    (by decide +kernel)

theorem witness_ClockCommandsComplete_1 :
    Meets 0x0701 (passes incrementCheck) ∧
    Meets 0x0702 (passes slewCheck) ∧
    Meets 0x0703 (passes stepCheck) ∧
    Meets 0x0704 (passes setTimeCheck) ∧
    Meets 0x0705 (passes servoCheck) ∧
    Meets 0x0708 (passes launchCheck) ∧
    Meets 0x0709 anyway ∧
    Meets 0x070A (passes toleranceCheck) ∧
    Meets 0x070B (passes portDelayCheck) ∧
    Meets 0x0710 (passes loopConfigCheck) ∧
    MeetsDue 0x0710 (passes loopConfigCheck) ∧
    Meets 0x0712 (fun r s => (u8 r.params 0 = 1 ∨ u8 r.params 0 = 2) ∧ u8 r.params 1 ≤ 3 ∧ u8 r.params 2 ≠ 0
      ∧ referenceOk (u8 r.params 2) (u8 r.params 3) 0 (u32 r.params 4) = true ∧ u16 r.params 8 ≠ 0 ∧ u16
      r.params 10 ≠ 0 ∧ (s.loop (u8 r.params 0)).state ≠ .search ∧ (s.loop (u8 r.params 0)).learn =
      none) :=
  ⟨meets_of up 0 0x0701 61440 (zeros 4 ++ [2, 0, 0, 0]) (by decide +kernel),
   meets_of up 0 0x0702 61440 (zeros 4 ++ [2, 0, 0, 0, 1, 0, 0, 0]) (by decide +kernel),
   meets_of up 0 0x0703 61440 (zeros 12) (by decide +kernel),
   meets_of up 0 0x0704 61440 ([5] ++ zeros 11) (by decide +kernel),
   meets_of up 0 0x0705 61440 [0, 3, 0, 0, 64, 66, 15, 0, 160, 134, 1, 0] (by decide +kernel),
   meets_of up 0 0x0708 57347 (zeros 6 ++ [128, 74, 93, 5, 7, 0, 64, 66, 15, 0, 5, 0, 0, 0])
     (by decide +kernel),
   meets_of up 0 0x0709 57347 [] (by decide +kernel),
   meets_of up 0 0x070A 61440 [4, 0, 0, 0, 64, 66, 15, 0] (by decide +kernel),
   meets_of up 0 0x070B 61440 ([0, 1, 0, 0, 160, 134, 1] ++ zeros 5 ++ [160, 134, 1, 0])
     (by decide +kernel),
   meets_of up 0 0x0710 61440 ([1] ++ zeros 7 ++ [1, 0, 1, 0, 0, 0, 100, 0, 10] ++ zeros 7 ++ [232, 3, 0,
     0]) (by decide +kernel),
   meetsDue_of up 0 0x0710 61440 ([1] ++ zeros 7 ++ [1, 0, 1, 0, 0, 0, 100, 0, 10] ++ zeros 7 ++ [232, 3,
     0, 0]) (by decide +kernel),
   meets_of up 0 0x0712 61440 [1, 0, 2, 0, 128, 187, 0, 0, 1, 0, 1, 0] (by decide +kernel)⟩

theorem witness_ClockCommandsComplete_2 :
    Meets 0x0713 (fun r s => (u8 r.params 0 = 1 ∨ u8 r.params 0 = 2) ∧ zeroAt r.params 1 3 = true ∧ ((s.loop
      (u8 r.params 0)).state = .locked ∨ (s.loop (u8 r.params 0)).state = .coast ∨ (s.loop (u8 r.params
      0)).state = .holdover)) :=
  meets_of (up.modLoop 1 fun x => { x with state := .locked }) 0 0x0713 61440 [1, 0, 0, 0]
    (by decide +kernel)

theorem witness_NetworkCommandsComplete :
    Meets 0x0900 (fun r _ => portConfigBad r.params = false) ∧
    Meets 0x0903 (passes ruleCheck) ∧
    Meets 0x0904 (passes mcastCheck) ∧
    Meets 0x0905 (passes wakeCheck) ∧
    Meets 0x0906 (fun r s => (u8 r.params 0 ≤ 2 ∨ u8 r.params 0 = 4) ∧ u8 r.params 1 < 8 ∧ zeroAt r.params
      14 2 = true ∧ (bitOf (u8 r.params 1) 2 = true → u32 r.params 10 < second) ∧ slice (r.params.drop
      16) 6 6 = s.macOf (u8 r.params 0) ∧ wireLen (r.params.drop 16) ≤ s.maxFrame (u8 r.params 0)) ∧
    Meets 0x0910 (passes fbCheck) ∧
    Meets 0x0912 (fun r s => (s.node r.index).present = false ∧ (s.node r.index).known = true) :=
  ⟨meets_of up 0 0x0900 61440 ([0, 0, 0, 1, 242, 5, 100, 0, 1] ++ zeros 31) (by decide +kernel),
   meets_of up 0 0x0903 61440 (zeros 36) (by decide +kernel),
   meets_of up 0 0x0904 61440 (zeros 12) (by decide +kernel),
   meets_of up 0 0x0905 61440 (zeros 12 ++ [1] ++ zeros 15 ++ [5] ++ zeros 7) (by decide +kernel),
   meets_of up 0 0x0906 61440 (zeros 16 ++ [2] ++ zeros 4 ++ [9] ++ zeros 6 ++ [8] ++ zeros 47)
     (by decide +kernel),
   meets_of up 0 0x0910 61440 [0, 0, 8, 20, 0, 1, 232, 3, 2, 0, 0, 0] (by decide +kernel),
   meets_of (up.netMod fun n => { n with fb := { n.fb with node := tput FbNode.reset n.fb.node 3 { FbNode.reset with known := true } } })
     0 0x0912 45059 [] (by decide +kernel)⟩

theorem witness_AlmanacCommandsComplete_1 :
    Meets 0x0601 (fun r s => zeroAt r.params 12 4 = true ∧ s.unmirrored r (u64 r.params 0) (u32 r.params 8)
      = false ∧ (s.almBank s.idleBank).state ≠ 1 ∧ s.alm.swap = none ∧ s.programCovered = false ∧
      (isLong (u64 r.params 0) = false ∨ s.isReady Rdy.longStore = true)) ∧
    Meets 0x0602 (fun r s => zeroAt r.params 2 2 = true ∧ (u16 r.params 0 = 0 ∨ 16 ≤ u16 r.params 0 ∧ u16
      r.params 0 ≤ 256) ∧ s.locked r = false ∧ s.islandOverlay = false ∧ s.swapFail (u16 r.params 0)
      (u64 r.params 4) = none ∧ s.programCovered = false) ∧
    Meets 0x0603 (fun r s => 1 ≤ u16 r.params 0 ∧ u16 r.params 0 ≤ 512 ∧ zeroAt r.params 2 2 = true ∧
      r.params.length = 4 + 4 * u16 r.params 0 ∧ (∀ x ∈ gainItems r.params, x.1 ≤ 16383 ∧ gainOk x.2 =
      true ∧ (∀ u ∈ s.gainOwners x.1, u = 0 ∨ r.mayWrite s u = true)) ∧ s.locked r = false ∧
      s.islandOverlay = false) ∧
    MeetsDue 0x0603 (fun r s => 1 ≤ u16 r.params 0 ∧ u16 r.params 0 ≤ 512 ∧ zeroAt r.params 2 2 = true ∧
      r.params.length = 4 + 4 * u16 r.params 0 ∧ (∀ x ∈ gainItems r.params, x.1 ≤ 16383 ∧ gainOk x.2 =
      true ∧ (∀ u ∈ s.gainOwners x.1, u = 0 ∨ r.mayWrite s u = true)) ∧ s.locked r = false ∧
      s.islandOverlay = false) ∧
    Meets 0x0605 (passes almConfigCheck) ∧
    MeetsDue 0x0605 (passes almConfigCheck) ∧
    Meets 0x0606 (fun r s => 1 ≤ u16 r.params 0 ∧ u16 r.params 0 ≤ 512 ∧ 16 ≤ u16 r.params 2 ∧ u16 r.params
      2 ≤ 4096 ∧ u8 r.params 4 ≤ 1 ∧ zeroAt r.params 5 3 = true ∧ r.params.length = 8 + 2 * u16 r.params
      0 ∧ (∀ a ∈ fadeSinks r.params, Node.sink a = true ∧ (Node.objectIn a = true → inCapacity
      s.fab.active (0x4000 + (a - 0x9000)) = true) ∧ (∀ u ∈ s.sinkUnits a, r.mayWrite s u = true)) ∧
      s.locked r = false ∧ s.islandOverlay = false) ∧
    MeetsDue 0x0606 (fun r s => 1 ≤ u16 r.params 0 ∧ u16 r.params 0 ≤ 512 ∧ 16 ≤ u16 r.params 2 ∧ u16
      r.params 2 ≤ 4096 ∧ u8 r.params 4 ≤ 1 ∧ zeroAt r.params 5 3 = true ∧ r.params.length = 8 + 2 * u16
      r.params 0 ∧ (∀ a ∈ fadeSinks r.params, Node.sink a = true ∧ (Node.objectIn a = true → inCapacity
      s.fab.active (0x4000 + (a - 0x9000)) = true) ∧ (∀ u ∈ s.sinkUnits a, r.mayWrite s u = true)) ∧
      s.locked r = false ∧ s.islandOverlay = false) ∧
    Meets 0x0607 (passes busScaleCheck) ∧
    MeetsDue 0x0607 (passes busScaleCheck) ∧
    Meets 0x0608 (passes directSetCheck) ∧
    MeetsDue 0x0608 (passes directSetCheck) :=
  ⟨meets_of up 0 0x0601 61440 ([0, 0, 0, 230, 3, 0, 0, 0, 100] ++ zeros 7) (by decide +kernel),
   meets_of (up.setAlmBank 1 { state := 2, image := [] }) 0 0x0602 61440 (zeros 12) (by decide +kernel),
   meets_of up 0 0x0603 61440 [1, 0, 0, 0, 7, 0, 0, 0] (by decide +kernel),
   meetsDue_of up 0 0x0603 61440 [1, 0, 0, 0, 7, 0, 0, 0] (by decide +kernel),
   meets_of up 0 0x0605 61440 [5, 0, 16, 0] (by decide +kernel),
   meetsDue_of up 0 0x0605 61440 [5, 0, 16, 0] (by decide +kernel),
   meets_of up 0 0x0606 61440 ([1, 0, 16, 0, 1] ++ zeros 4 ++ [128]) (by decide +kernel),
   meetsDue_of up 0 0x0606 61440 ([1, 0, 16, 0, 1] ++ zeros 4 ++ [128]) (by decide +kernel),
   meets_of up 0 0x0607 24640 [1, 0, 0, 0] (by decide +kernel),
   meetsDue_of up 0 0x0607 24640 [1, 0, 0, 0] (by decide +kernel),
   meets_of up 0 0x0608 61440 (zeros 44) (by decide +kernel),
   meetsDue_of up 0 0x0608 61440 (zeros 44) (by decide +kernel)⟩

theorem witness_AlmanacCommandsComplete_2 :
    Meets 0x0609 (passes directEnableCheck) ∧
    MeetsDue 0x0609 (passes directEnableCheck) ∧
    Meets 0x060A (passes almPlayCheck) ∧
    MeetsDue 0x060A (passes almPlayCheck) ∧
    Meets 0x060B (passes playStopCheck) ∧
    MeetsDue 0x060B (passes playStopCheck) ∧
    Meets 0x060C (passes testgenCheck) ∧
    MeetsDue 0x060C (passes testgenCheck) :=
  ⟨meets_of up 0 0x0609 61440 (zeros 4) (by decide +kernel),
   meetsDue_of up 0 0x0609 61440 (zeros 4) (by decide +kernel),
   meets_of ({ up with mem := writeBytes up.mem (libraryBase + 16 * 1) ([0, 1] ++ zeros 6 ++ [48]) }) 0
     0x060A 61440 ([0, 0, 1] ++ zeros 5) (by decide +kernel),
   meetsDue_of ({ up with mem := writeBytes up.mem (libraryBase + 16 * 1) ([0, 1] ++ zeros 6 ++ [48]) }) 0
     0x060A 61440 ([0, 0, 1] ++ zeros 5) (by decide +kernel),
   meets_of up 0 0x060B 61440 (zeros 4) (by decide +kernel),
   meetsDue_of up 0 0x060B 61440 (zeros 4) (by decide +kernel),
   meets_of up 0 0x060C 61440 (zeros 8) (by decide +kernel),
   meetsDue_of up 0 0x060C 61440 (zeros 8) (by decide +kernel)⟩

theorem witness_PlanisphereCommandsComplete_1 :
    Meets 0x0401 (passes objSetCheck) ∧
    MeetsDue 0x0401 (passes objSetCheck) ∧
    Meets 0x0402 (passes moveCheck) ∧
    MeetsDue 0x0402 (passes moveCheck) ∧
    Meets 0x0403 (passes objEnableCheck) ∧
    MeetsDue 0x0403 (passes objEnableCheck) ∧
    Meets 0x0404 (passes objSetGainCheck) ∧
    MeetsDue 0x0404 (passes objSetGainCheck) ∧
    Meets 0x0405 (passes objSetSourceCheck) ∧
    MeetsDue 0x0405 (passes objSetSourceCheck) ∧
    Meets 0x0410 (passes renderConfigCheck) ∧
    MeetsDue 0x0410 (passes renderConfigCheck) :=
  ⟨meets_of up 0 0x0401 16385 ([1, 0, 1, 144] ++ zeros 18 ++ [8, 0, 255, 0, 50, 0, 232, 3, 0, 0, 232, 3] ++
     zeros 6 ++ [16, 39] ++ zeros 6) (by decide +kernel),
   meetsDue_of up 0 0x0401 16385 ([1, 0, 1, 144] ++ zeros 18 ++ [8, 0, 255, 0, 50, 0, 232, 3, 0, 0, 232, 3]
     ++ zeros 6 ++ [16, 39] ++ zeros 6) (by decide +kernel),
   meets_of up 0 0x0402 16384 (zeros 24) (by decide +kernel),
   meetsDue_of up 0 0x0402 16384 (zeros 24) (by decide +kernel),
   meets_of up 0 0x0403 16384 (zeros 4) (by decide +kernel),
   meetsDue_of up 0 0x0403 16384 (zeros 4) (by decide +kernel),
   meets_of up 0 0x0404 16384 (zeros 4) (by decide +kernel),
   meetsDue_of up 0 0x0404 16384 (zeros 4) (by decide +kernel),
   meets_of up 0 0x0405 16384 (zeros 4) (by decide +kernel),
   meetsDue_of up 0 0x0405 16384 (zeros 4) (by decide +kernel),
   meets_of up 0 0x0410 61440 ([216, 59, 5] ++ zeros 13 ++ [16, 39, 0, 0, 64, 0, 0, 0]) (by decide +kernel),
   meetsDue_of up 0 0x0410 61440 ([216, 59, 5] ++ zeros 13 ++ [16, 39, 0, 0, 64, 0, 0, 0])
     (by decide +kernel)⟩

set_option maxRecDepth 20000 in
theorem witness_PlanisphereCommandsComplete_2 :
    Meets 0x0412 (fun r s => zeroAt r.params 1 3 = true ∧ zoneBad (slice r.params 4 256) = false ∧ (∀ f ∈
      Zn.feeds (slice r.params 4 256) ++ Zn.feeds (zoneBytes s (u8 r.params 0)), r.mayWrite s (0x5000 +
      f) = true) ∧ s.locked r = false) :=
  meets_of up 0 0x0412 61440 (zeros 4 ++ [1, 0, 0, 0, 5] ++ zeros 251) (by decide +kernel)

set_option maxRecDepth 20000 in
theorem witness_PlanisphereCommandsComplete_3 :
    MeetsDue 0x0412 (fun r s => zeroAt r.params 1 3 = true ∧ zoneBad (slice r.params 4 256) = false ∧ (∀ f ∈
      Zn.feeds (slice r.params 4 256) ++ Zn.feeds (zoneBytes s (u8 r.params 0)), r.mayWrite s (0x5000 +
      f) = true) ∧ s.locked r = false) :=
  meetsDue_of up 0 0x0412 61440 (zeros 4 ++ [1, 0, 0, 0, 5] ++ zeros 251) (by decide +kernel)

theorem witness_PlanisphereCommandsComplete_4 :
    Meets 0x0413 (fun r s => zeroAt r.params 12 4 = true ∧ (u32 r.params 8 = 0 ∨ s.unmirrored r (u64
      r.params 0) (u32 r.params 8) = false) ∧ s.obj.load = none) ∧
    Meets 0x0501 (passes feedSetCheck) ∧
    MeetsDue 0x0501 (passes feedSetCheck) ∧
    Meets 0x0502 (passes feedTrimCheck) ∧
    MeetsDue 0x0502 (passes feedTrimCheck) :=
  ⟨meets_of up 0 0x0413 61440 (zeros 16) (by decide +kernel),
   meets_of up 0 0x0501 20481 ([1] ++ zeros 23 ++ [144, 95, 1] ++ zeros 9) (by decide +kernel),
   meetsDue_of up 0 0x0501 20481 ([1] ++ zeros 23 ++ [144, 95, 1] ++ zeros 9) (by decide +kernel),
   meets_of up 0 0x0502 20480 (zeros 8) (by decide +kernel),
   meetsDue_of up 0 0x0502 20480 (zeros 8) (by decide +kernel)⟩

theorem witness_CorrectionCommandsComplete :
    Meets 0x0503 (fun r s => allocBad r s = false ∧ s.corBusy r = false ∧ u32 r.params 4 / 32 = 0) ∧
    Meets 0x0508 (fun _ s => s.cor.compact = none) ∧
    Meets 0x0505 (fun r s => zeroAt r.params 1 3 = true ∧ u8 r.params 0 ≤ 63 ∧ (s.corFeed r.index).busy =
      false) ∧
    Meets 0x0505 (fun r _ => zeroAt r.params 1 3 = true ∧ u8 r.params 0 = 0xFF) ∧
    Meets 0x0510 (passes biquadCheck) ∧
    MeetsDue 0x0510 (passes biquadCheck) ∧
    Meets 0x0520 (passes limiterCheck) ∧
    MeetsDue 0x0520 (passes limiterCheck) ∧
    Meets 0x0521 (passes compressorCheck) ∧
    MeetsDue 0x0521 (passes compressorCheck) ∧
    Meets 0x0522 (passes limitDelayCheck) ∧
    MeetsDue 0x0522 (passes limitDelayCheck) :=
  ⟨meets_of up 0 0x0503 20480 ([1] ++ zeros 7) (by decide +kernel),
   meets_of up 0 0x0508 61440 [] (by decide +kernel),
   meets_of up 0 0x0505 20480 (zeros 4) (by decide +kernel),
   meets_of up 0 0x0505 20481 [255, 0, 0, 0] (by decide +kernel),
   meets_of up 0 0x0510 20481 ([0, 1] ++ zeros 22) (by decide +kernel),
   meetsDue_of up 0 0x0510 20481 ([0, 1] ++ zeros 22) (by decide +kernel),
   meets_of up 0 0x0520 28673 [1, 0, 0, 255, 100, 0, 0, 0] (by decide +kernel),
   meetsDue_of up 0 0x0520 28673 [1, 0, 0, 255, 100, 0, 0, 0] (by decide +kernel),
   meets_of up 0 0x0521 29696 ([1, 4, 0, 254, 32, 0, 100, 0, 100, 0, 100] ++ zeros 5) (by decide +kernel),
   meetsDue_of up 0 0x0521 29696 ([1, 4, 0, 254, 32, 0, 100, 0, 100, 0, 100] ++ zeros 5)
     (by decide +kernel),
   meets_of up 0 0x0522 61440 (zeros 4) (by decide +kernel),
   meetsDue_of up 0 0x0522 61440 (zeros 4) (by decide +kernel)⟩

theorem witness_StreamCommandsComplete_1 :
    Meets 0x0301 (passes bindStreamCheck) ∧
    MeetsDue 0x0301 (passes bindStreamCheck) ∧
    Meets 0x0302 (passes enableStreamCheck) ∧
    MeetsDue 0x0302 (passes enableStreamCheck) ∧
    Meets 0x0303 (passes setMapCheck) ∧
    MeetsDue 0x0303 (passes setMapCheck) ∧
    Meets 0x0305 (passes asrcCheck) ∧
    MeetsDue 0x0305 (passes asrcCheck) ∧
    Meets 0x0320 (passes tdmConfigCheck) ∧
    MeetsDue 0x0320 (passes tdmConfigCheck) ∧
    Meets 0x0321 (passes tdmMaskCheck) ∧
    MeetsDue 0x0321 (passes tdmMaskCheck) :=
  ⟨meets_of up 0 0x0301 4096 (zeros 128) (by decide +kernel),
   meetsDue_of up 0 0x0301 4096 (zeros 128) (by decide +kernel),
   meets_of up 0 0x0302 4096 (zeros 4) (by decide +kernel),
   meetsDue_of up 0 0x0302 4096 (zeros 4) (by decide +kernel),
   meets_of up 0 0x0303 61440 (zeros 4 ++ [1, 0, 0, 0, 5, 0]) (by decide +kernel),
   meetsDue_of up 0 0x0303 61440 (zeros 4 ++ [1, 0, 0, 0, 5, 0]) (by decide +kernel),
   meets_of up 0 0x0305 61440 (zeros 4) (by decide +kernel),
   meetsDue_of up 0 0x0305 61440 (zeros 4) (by decide +kernel),
   meets_of up 0 0x0320 12289 ([10, 8, 32] ++ zeros 13) (by decide +kernel),
   meetsDue_of up 0 0x0320 12289 ([10, 8, 32] ++ zeros 13) (by decide +kernel),
   meets_of up 0 0x0321 12288 (zeros 8) (by decide +kernel),
   meetsDue_of up 0 0x0321 12288 (zeros 8) (by decide +kernel)⟩

theorem witness_StreamCommandsComplete_2 :
    Meets 0x0322 (passes aesCheck) ∧
    MeetsDue 0x0322 (passes aesCheck) ∧
    Meets 0x0323 (passes wclkCheck) ∧
    MeetsDue 0x0323 (passes wclkCheck) ∧
    Meets 0x0141 (passes marginCheck) ∧
    MeetsDue 0x0141 (passes marginCheck) :=
  ⟨meets_of up 0 0x0322 61440 ([16] ++ zeros 27) (by decide +kernel),
   meetsDue_of up 0 0x0322 61440 ([16] ++ zeros 27) (by decide +kernel),
   meets_of up 0 0x0323 61440 (zeros 4) (by decide +kernel),
   meetsDue_of up 0 0x0323 61440 (zeros 4) (by decide +kernel),
   meets_of up 0 0x0141 61440 ([150, 0, 100] ++ zeros 5) (by decide +kernel),
   meetsDue_of up 0 0x0141 61440 ([150, 0, 100] ++ zeros 5) (by decide +kernel)⟩

theorem witness_DatumCommandsComplete :
    Meets 0x0201 (fun r s => u8 r.params 0 ≤ 1 ∧ zeroAt r.params 1 3 = true ∧ s.isReady Rdy.longStore = true
      ∧ s.isReady Rdy.fieldStore = true ∧ s.dat.phase = 0) ∧
    Meets 0x0202 (fun _ s => s.dat.phase = 0 ∧ s.dat.store = none ∧ s.dat.id ≠ 0 ∧ leNat (readBytes s.mem
      (datumSlotBase s.dat.running + 16) 4) ≤ flashDatumSize) ∧
    Meets 0x0211 (fun r s => s.applyFail r.index = none) ∧
    Meets 0x0212 (fun r s => s.removeFail r.index = none) ∧
    Meets 0x0220 (fun r s => fieldInvalid s r.target r.params = false ∧ (s.stage r.slot).length < 256) ∧
    Meets 0x0221 (fun r s => zeroAt r.params 2 2 = true ∧ u16 r.params 0 = (s.stage r.slot).length ∧
      s.islandCovers (s.stagePatches r.slot) = false ∧ (∀ w ∈ s.stage r.slot, unitClass w.1 = 4 →
      (s.object (unitIndex w.1)).safe = false) ∧ (∀ p ∈ s.stagePatches r.slot, (s.commitStage
      r.slot).keyPending p.key = false)) ∧
    MeetsDue 0x0221 (fun r s => zeroAt r.params 2 2 = true ∧ u16 r.params 0 = (s.stage r.slot).length ∧
      s.islandCovers (s.stagePatches r.slot) = false ∧ (∀ w ∈ s.stage r.slot, unitClass w.1 = 4 →
      (s.object (unitIndex w.1)).safe = false) ∧ (∀ p ∈ s.stagePatches r.slot, (s.commitStage
      r.slot).keyPending p.key = false)) ∧
    Meets 0x0222 anyway ∧
    Meets 0x0210 (fun r s => zeroAt r.params 12 4 = true ∧ 1 ≤ u32 r.params 8 ∧ u32 r.params 8 ≤ 16384 ∧
      oneRegion (u64 r.params 0) (u32 r.params 8) = true ∧ r.mayRead s (u64 r.params 0) (u32 r.params 8)
      = true ∧ (28 ≤ u32 r.params 8 → Ov.island (s.sourceRead r (u64 r.params 0) (min (u32 r.params 8)
      16384)) = false) ∧ s.unmirrored r (u64 r.params 0) (u32 r.params 8) = false ∧ s.isReady
      Rdy.longStore = true ∧ (s.ovl r.index).active = false ∧ (s.ovl r.index).waiting = false) :=
  ⟨meets_of up 0 0x0201 61440 ([1] ++ zeros 15) (by decide +kernel),
   meets_of (up.datMod fun d => { d with id := 5 }) 0 0x0202 61440 [] (by decide +kernel),
   meets_of (up.setOvl 2 { Ovl.reset with stored := true, record := ovl2 }) 0 0x0211 53250 []
     (by decide +kernel),
   meets_of up 0 0x0212 53252 [] (by decide +kernel),
   meets_of up 0 0x0220 20481 [0, 4, 0, 0, 7, 0, 0, 0] (by decide +kernel),
   meets_of up 0 0x0221 61440 (zeros 4) (by decide +kernel),
   meetsDue_of up 0 0x0221 61440 (zeros 4) (by decide +kernel),
   meets_of up 0 0x0222 61440 [] (by decide +kernel),
   meets_of up 0 0x0210 53248 ([0, 48, 0, 230, 3, 0, 0, 0, 48] ++ zeros 7) (by decide +kernel)⟩

theorem witness_PairCommandsComplete :
    Meets 0x0B01 (passes pairConfigCheck) ∧
    Meets 0x0B02 (fun _ s => s.pair.state = .foresight ∧ s.peerTakes = true ∧ s.pair.handover = none) ∧
    Meets 0x0B03 (fun r s => s.pair.state = .foresight ∧ zeroAt r.params 12 4 = true ∧ u32 r.params 8 ≠ 0 ∧
      oneRegion (u64 r.params 0) (u32 r.params 8) = true ∧ (inHostMemory (u64 r.params 0) (u32 r.params
      8) = true ∨ mirroredAddr (u64 r.params 0) = true ∧ mirroredAddr (u64 r.params 0 + u32 r.params 8 -
      1) = true) ∧ r.mayRead s (u64 r.params 0) (u32 r.params 8) = true ∧ s.pair.settled = true ∧
      s.pair.peerLoad = false ∧ s.dat.phase = 0) ∧
    Meets 0x0B04 anyway ∧
    Meets 0x0B05 (fun _ s => s.pair.state = .seeking ∨ s.pair.state = .isolated) :=
  ⟨meets_of up 0 0x0B01 61440 ([0, 1, 2, 4, 232, 3, 0, 0, 5] ++ zeros 55) (by decide +kernel),
   meets_of (fore.pairMod fun p => { p with settled := true, peer := { p.peer with pstate := 5, mseqDone := p.mseq } })
     0 0x0B02 61440 [] (by decide +kernel),
   meets_of (fore.pairMod fun p => { p with settled := true }) 0 0x0B03 61440 ([0, 0, 192, 22] ++ zeros 4
     ++ [64] ++ zeros 7) (by decide +kernel),
   meets_of up 0 0x0B04 61440 [] (by decide +kernel),
   meets_of (up.pairMod fun p => { p with state := .seeking }) 8 0x0B05 61440 [] (by decide +kernel)⟩

theorem witness_IslandQueriesComplete :
    Meets 0x0A00 (fun _ s => s.saf.ready = true) ∧
    Meets 0x0A01 (fun _ s => s.saf.ready = true) ∧
    Meets 0x0A0A (fun _ s => s.saf.ready = true) ∧
    Meets 0x0A05 (fun r s => s.saf.ready = true ∧ 1 ≤ u16 r.params 0 ∧ u16 r.params 0 ≤ 9 ∧ u8 r.params 2 ≤
      1 ∧ u8 r.params 3 = 0) ∧
    Meets 0x0A0B (fun r s => s.saf.ready = true ∧ u8 r.params 0 ≤ 1 ∧ u8 r.params 1 = 0 ∧ 1 ≤ u16 r.params 2
      ∧ u16 r.params 2 ≤ 64 ∧ u32 r.params 4 ≤ 65535) ∧
    Meets 0x0A0C (fun r s => s.saf.ready = true ∧ u16 r.params 0 ≤ 127 ∧ u16 r.params 2 = 0) :=
  ⟨meets_of up 0 0x0A00 61440 [] (by decide +kernel),
   meets_of up 0 0x0A01 61440 [] (by decide +kernel),
   meets_of up 0 0x0A0A 61440 [] (by decide +kernel),
   meets_of up 0 0x0A05 61440 [3, 0, 0, 0] (by decide +kernel),
   meets_of up 0 0x0A0B 61440 ([0, 0, 1] ++ zeros 5) (by decide +kernel),
   meets_of up 0 0x0A0C 61440 (zeros 4) (by decide +kernel)⟩

theorem witness_IslandCommandsComplete :
    Meets 0x0A02 (fun r s => s.saf.ready = true ∧ r.origin = .host ∧ u8 r.params 0 ≤ 63 ∧ u8 r.params 1 ≤ 1
      ∧ u16 r.params 2 = 0 ∧ SafCfg.reqUsed (s.saf.reqEntry (u8 r.params 0)) = true) ∧
    Meets 0x0A03 (fun r s => s.saf.ready = true ∧ r.origin = .host ∧ (u8 r.params 0 ≤ 63 ∨ u8 r.params 0 =
      0xFF) ∧ zeroAt r.params 1 3 = true) ∧
    Meets 0x0A04 (fun r s => s.saf.ready = true ∧ r.slot = SafCfg.supSlot s.saf.general) ∧
    Meets 0x0A06 (fun r s => s.saf.ready = true ∧ r.params.length = 4 + u16 r.params 2 ∧ s.safetyLocked r =
      false ∧ 1 ≤ u16 r.params 0 ∧ u16 r.params 0 ≤ 9) ∧
    Meets 0x0A09 (fun r s => s.saf.ready = true ∧ s.safetyLocked r = false ∧ u8 r.params 0 ≤ 63 ∧ u8
      r.params 1 = 0 ∧ u16 r.params 2 = 0 ∧ s.saf.playing (u8 r.params 0) = false ∧ s.saf.load = none) :=
  ⟨meets_of (up.safMod fun x => { x with cfg := [(0x20000, [1])] }) 0 0x0A02 61440 (zeros 4)
     (by decide +kernel),
   meets_of up 0 0x0A03 61440 [5, 0, 0, 0] (by decide +kernel),
   meets_of (up.safMod fun x => { x with cfg := [(0x80000, [0, 3] ++ zeros 14)] }) 0 0x0A04 0 []
     (by decide +kernel),
   meets_of up 0 0x0A06 61440 [1, 0, 4, 0, 1, 2, 3, 4] (by decide +kernel),
   meets_of up 0 0x0A09 61440 (zeros 4) (by decide +kernel)⟩

theorem witness_CommandsMirrored_1 :
    MeetsMirrored 0x0401 (passes objSetCheck) ∧
    MeetsMirrored 0x0402 (passes moveCheck) ∧
    MeetsMirrored 0x0403 (passes objEnableCheck) ∧
    MeetsMirrored 0x0404 (passes objSetGainCheck) ∧
    MeetsMirrored 0x0405 (passes objSetSourceCheck) ∧
    MeetsMirrored 0x0501 (passes feedSetCheck) ∧
    MeetsMirrored 0x0502 (passes feedTrimCheck) ∧
    MeetsMirrored 0x0510 (passes biquadCheck) ∧
    MeetsMirrored 0x0520 (passes limiterCheck) ∧
    MeetsMirrored 0x0521 (passes compressorCheck) ∧
    MeetsMirrored 0x0301 (passes bindStreamCheck) ∧
    MeetsMirrored 0x0302 (passes enableStreamCheck) :=
  ⟨meetsMirrored_of fore 0 0x0401 16385 ([1, 0, 1, 144] ++ zeros 18 ++ [8, 0, 255, 0, 50, 0, 232, 3, 0, 0,
     232, 3] ++ zeros 6 ++ [16, 39] ++ zeros 6) (by decide +kernel),
   meetsMirrored_of fore 0 0x0402 16384 (zeros 24) (by decide +kernel),
   meetsMirrored_of fore 0 0x0403 16384 (zeros 4) (by decide +kernel),
   meetsMirrored_of fore 0 0x0404 16384 (zeros 4) (by decide +kernel),
   meetsMirrored_of fore 0 0x0405 16384 (zeros 4) (by decide +kernel),
   meetsMirrored_of fore 0 0x0501 20481 ([1] ++ zeros 23 ++ [144, 95, 1] ++ zeros 9) (by decide +kernel),
   meetsMirrored_of fore 0 0x0502 20480 (zeros 8) (by decide +kernel),
   meetsMirrored_of fore 0 0x0510 20481 ([0, 1] ++ zeros 22) (by decide +kernel),
   meetsMirrored_of fore 0 0x0520 28673 [1, 0, 0, 255, 100, 0, 0, 0] (by decide +kernel),
   meetsMirrored_of fore 0 0x0521 29696 ([1, 4, 0, 254, 32, 0, 100, 0, 100, 0, 100] ++ zeros 5)
     (by decide +kernel),
   meetsMirrored_of fore 0 0x0301 4096 (zeros 128) (by decide +kernel),
   meetsMirrored_of fore 0 0x0302 4096 (zeros 4) (by decide +kernel)⟩

theorem witness_CommandsMirrored_2 :
    MeetsMirrored 0x0303 (passes setMapCheck) ∧
    MeetsMirrored 0x0605 (passes almConfigCheck) :=
  ⟨meetsMirrored_of fore 0 0x0303 61440 (zeros 4 ++ [1, 0, 0, 0, 5, 0]) (by decide +kernel),
   meetsMirrored_of fore 0 0x0605 61440 [5, 0, 16, 0] (by decide +kernel)⟩

/-! ## The events of the statements about events -/

theorem witness_ResetCommandsComplete_events :
    Meets 0x0153 (fun r t => u8 r.params 0 ≤ 1 ∧ zeroAt r.params 1 3 = true ∧ t.sys.staged = some 1 ∧ (u32
      r.params 4 = 0 ∨ u32 r.params 4 = Fw.version (t.bankImage 1)) ∧ t.sys.trial = none ∧ t.sys.stage =
      none ∧ t.loadBeforeB = false ∧ t.otp.job = none) :=
  meets_of (up.sysMod fun x => { x with staged := some 1 }) 0 0x0153 0xF000 (zeros 8) (by decide +kernel)

theorem witness_CorrectionCommandsComplete_events :
    Meets 0x0504 (fun r t => zeroAt r.params 1 3 = true ∧ u8 r.params 0 = 0xFF ∧ t.dat.building = false ∧
      (t.corFeed r.index).busy = false ∧ t.swapBarred r.index (t.numbered r).2 = false ∧ r.at? = none) :=
  meets_of up 0 0x0504 0x5001 [0xFF, 0, 0, 0] (by decide +kernel)

theorem witness_IslandCommandsComplete_events :
    Meets 0x0A07 (fun r t => t.saf.ready = true ∧ t.safetyLocked r = false ∧ u8 r.params 0 = 0 ∧ zeroAt
      r.params 1 3 = true ∧ t.recordGood t.saf.merged = true ∧ t.saf.activeReqs = []) ∧
    Meets 0x0A08 (fun r t => t.saf.ready = true ∧ t.safetyLocked r = false ∧ u8 r.params 0 ≤ 63 ∧ u8
      r.params 1 ≤ 3 ∧ u16 r.params 2 = 0 ∧ u32 r.params 12 ≠ 0 ∧ (bitOf (u8 r.params 1) 0 = true ∨
      r.mayRead t (u64 r.params 4) (u32 r.params 12) = true ∧ t.unmirrored r (u64 r.params 4) (u32
      r.params 12) = false) ∧ t.saf.load = none ∧ t.saf.playing (u8 r.params 0) = false ∧ ((libraryRuns
      0 (t.heldRuns (u8 r.params 0))).find? fun x => decide (u32 r.params 12 ≤ x.2)).isSome = true) :=
  ⟨meets_of up 0 0x0A07 0xF000 (zeros 4) (by decide +kernel),
   meets_of up 0 0x0A08 0xF000 ([5, 1] ++ zeros 10 ++ [34, 0, 0, 0]) (by decide +kernel)⟩

theorem witness_ServiceKeyCompletes :
    (∃ (q : Nat) (s : State),
      let u := s.dropMarkers q 2
      let o := (u.waitingOrder q).getD (u.host.takeCount + 1)
      let p := u.headBytes q
      let r := parseReq q o p
      let t := u.afterPacket q o
      q < 32 ∧ s.takesCommands (q / 4) = true ∧ (u.headPacket q).length ≠ 0 ∧ u16 (u.headBytes q) 4 = 0x0A10 ∧
      bitOf (u16 (u.headBytes q) 6) 1 = false ∧ packetCheck p (u.headPacket q).length = none ∧ u8 p 0 =
      3 ∧ u8 p 1 = r.slot ∧ u16 p 14 = 0 ∧ r.flags < 16 ∧ t.seqFollows r = true ∧ (t.slot r.slot).frozen
      = false) ∧
    (∃ (d : List Byte) (s : State) (i : OpInfo),
      let t := s.safMod fun x => { x with svcFloor := u32 d 4 }
      let p := (d.take (d.length - 32)).drop 12
      s.saf.ready = true ∧ 64 ≤ d.length ∧ s.saf.tagOk d = true ∧ u8 d 0 = 2 ∧ u8 d 1 < 4 ∧ u16 d 2 = 0 ∧ u32
      d 8 = s.saf.bootCount ∧ s.saf.svcFloor < u32 d 4 ∧ packetCheck p ((20 + u16 p 12 + 63) / 64) =
      none ∧ p.length = 20 + u16 p 12 ∧ (serviceReq p).op = 0x0A10 ∧ serviceInfo 0x0A10 = some i ∧
      serviceFail t i (serviceReq p) p = none) :=
  ⟨⟨0, (asks up 0 0x0A10 0 (zeros 32)), by decide +kernel⟩,
   ⟨aServicePacket, up, ⟨0x0A10, 0, false, false, false, false, false, [(0xF000, 0xF000)], 32, 32⟩,
     by decide +kernel⟩⟩

theorem witness_PortAccessesComplete_1 :
    (∃ (slot off q : Nat) (d : List Byte) (s : State), slot < 6 ∧ off < 65536 ∧ pushAperture slot off = some
      q ∧ off % 64 = 0 ∧ d.length = 64) ∧
    (∃ (slot off q : Nat) (s : State), slot < 6 ∧ off < 65536 ∧ popAperture slot off = some q ∧ off % 64 =
      0) ∧
    (∃ (slot q : Nat) (s : State), slot < 6 ∧ q < 256 ∧ (s.slot slot).frozen = false ∧ s.ownsQueue slot q =
      true ∧ s.produces slot q = true) ∧
    (∃ (slot q : Nat) (s : State), slot < 6 ∧ q < 256 ∧ (s.slot slot).frozen = false ∧ s.ownsQueue slot q =
      true ∧ s.produces slot q = true) ∧
    (∃ (slot q : Nat) (s : State), slot < 6 ∧ q < 256 ∧ (s.slot slot).frozen = false ∧ s.ownsQueue slot q =
      true) ∧
    (∃ (slot : Nat) (s : State), slot < 6 ∧ (s.slot slot).frozen = false) ∧
    (∃ (slot off : Nat) (s : State), slot < 6 ∧ off < 0x8000) ∧
    (∃ (slot off : Nat) (v : Word) (s : State), slot < 6 ∧ slot = s.host.privSlot ∧ (s.slot slot).frozen =
      false ∧ 0x4000 ≤ off ∧ off < 0x4100 ∧ off % 4 = 0) :=
  ⟨⟨0, 0x8000, 0, zeros 64, up, by decide +kernel⟩,
   ⟨0, 0xA000, 32, up, by decide +kernel⟩,
   ⟨0, 0, up, by decide +kernel⟩,
   ⟨0, 0, up, by decide +kernel⟩,
   ⟨0, 0, up, by decide +kernel⟩,
   ⟨0, up, by decide +kernel⟩,
   ⟨0, 0x40, up, by decide +kernel⟩,
   ⟨0, 0x4000, 1, up, by decide +kernel⟩⟩

theorem witness_PortAccessesComplete_2 :
    (∃ (slot c o : Nat) (v : Word) (s : State), slot < 6 ∧ c < 32 ∧ o < 32 ∧ o % 4 = 0 ∧ (s.slot
      slot).frozen = false ∧ (s.chan c).owner = slot) ∧
    (∃ (slot : Nat) (s : State), slot < 4) :=
  ⟨⟨0, 3, 8, 7, (up.modChan 3 fun x => { x with owner := 0 }), by decide +kernel⟩,
   ⟨0, up, by decide +kernel⟩⟩

theorem witness_DatagramCompletes :
    (∃ (ipver : Nat) (addr : List Byte) (sport i : Nat) (d : List Byte) (s : State), s.udpSlot ipver addr
      sport = some i ∧ (s.slot i).frozen = false ∧ 44 ≤ d.length ∧ d.drop (d.length - 32) =
      Machine.hmacSha256 (s.slot i).udp.key (d.take (d.length - 32)) ∧ u8 d 0 = 1 ∧ u8 d 1 < 4 ∧ u16 d 2
      = 0 ∧ u32 d 8 = s.host.bootCount ∧ (s.slot i).udp.floor < u32 d 4) :=
  ⟨4, [10, 0, 0, 2], 4000, 6, aDatagram, bound, by decide +kernel⟩

theorem witness_PinsComplete :
    (∃ (pin : Nat) (high : Bool) (s : State), pin < 32 ∧ (s.pin pin).mode = 1 ∧ (s.pin pin).primed = true ∧
      (s.pin pin).taken = !high ∧ s.pair.fenced = false) ∧
    (∃ (pin t : Nat) (s : State), pin < 32 ∧ (s.pin pin).mode = 3 ∧ (s.pin pin).pulseEnd = some t ∧ t ≤
      s.time.elapsed) :=
  ⟨⟨5, true, (up.setPin 5 { GpioPin.reset with mode := 1, primed := true, taken := false }),
     by decide +kernel⟩,
   ⟨5, 100, (aged.setPin 5 { GpioPin.reset with mode := 3, pulseEnd := some 100 }), by decide +kernel⟩⟩

theorem witness_ChannelsComplete_1 :
    (∃ (who ch : Nat) (s : State), who < 6 ∧ ch < 32 ∧ (s.slot who).frozen = false ∧ (s.chan ch).owner =
      who) ∧
    (∃ (c : Nat) (s : State), s.trav.busy = none ∧ s.firstWaiting (grantOrder s.trav.lastGrant 0 32) = some
      c) ∧
    (∃ (c : Nat) (s : State), s.trav.busyL = none ∧ s.firstWaiting (grantOrder s.trav.lastGrantL 32 4) =
      some c) ∧
    (∃ (ch : Nat) (s : State),
      let x := s.chan ch
      let a := x.tbase + x.nextFetch
      ch < 36 ∧ x.state = .fetch ∧ x.reread = false ∧ x.station = none ∧ x.nextFetch % 32 = 0 ∧ ownerMay s ch
      false a 32 = true ∧ busFault s ch false a 32 = 0) ∧
    (∃ (ch : Nat) (st : Station) (d : List Byte) (s : State), ch < 36 ∧ (s.chan ch).station = some st ∧
      st.result = none ∧ (s.chan ch).frozen = false ∧ (s.chan ch).thawed = false) ∧
    (∃ (ch : Nat) (s : State),
      let x := s.chan ch
      let a := x.tbase + x.current
      ch < 36 ∧ x.state = .fetch ∧ x.reread = true ∧ x.holdAfter = false ∧ ownerMay s ch false a 4 = true ∧
      busFault s ch false a 4 = 0 ∧ bitOf (leNat (s.chanRead ch a 4)) 31 = true) ∧
    (∃ (ch code moved : Nat) (st : Station) (s : State), ch < 36 ∧ (s.chan ch).station = some st ∧ st.result
      = none ∧ (s.chan ch).frozen = false ∧ (s.chan ch).thawed = false ∧ 1 ≤ code ∧ code ≤ 4 ∧ code ≠
      Bus.ecc) ∧
    (∃ (ch code moved : Nat) (st : Station) (s : State), ch < 36 ∧ (s.chan ch).station = some st ∧ st.result
      = none ∧ (s.chan ch).frozen = false ∧ (s.chan ch).thawed = false ∧ readsHost (s.chan ch) moved =
      true) :=
  ⟨⟨0, 3, (aChannel up id), by decide +kernel⟩,
   ⟨3, (aChannel up fun x => { x with state := .wait }), by decide +kernel⟩,
   ⟨33, (up.modChan 33 fun x => { x with state := .wait }), by decide +kernel⟩,
   ⟨3, (aChannel up fun x => { x with state := .fetch, tbaseLo := 0x16C00000 }), by decide +kernel⟩,
   ⟨3, aStation 0, [], (aChannel up fun x => { x with station := some (aStation 0) }), by decide +kernel⟩,
   ⟨3, (aChannel { up with mem := writeBytes up.mem 0x16C00000 [0, 0, 0, 0x80] } fun x => { x with state := .fetch, reread := true, tbaseLo := 0x16C00000 }),
     by decide +kernel⟩,
   ⟨3, 1, 0, aStation 0, (aChannel up fun x => { x with station := some (aStation 0) }), by decide +kernel⟩,
   ⟨3, 0, 0, aStation 0, (aChannel up fun x => { x with station := some (aStation 0) }), by decide +kernel⟩⟩

theorem witness_ChannelsComplete_2 :
    (∃ (ch : Nat) (st : Station) (s : State), ch < 36 ∧ s.periphStation ch = some st ∧ (s.chan ch).station =
      some st ∧ st.result = none ∧ (s.chan ch).frozen = false ∧ (s.chan ch).thawed = false ∧ st.start +
      milli ≤ s.time.elapsed) ∧
    (∃ (ch taken : Nat) (d : List Byte) (st : Station) (s : State), ch < 36 ∧ s.periphStation ch = some st) :=
  ⟨⟨3, aStation 4, (aChannel aged fun x => { x with station := some (aStation 4) }), by decide +kernel⟩,
   ⟨3, 0, [], aStation 4, (aChannel aged fun x => { x with station := some (aStation 4) }),
     by decide +kernel⟩⟩

theorem witness_ReferencesComplete :
    (∃ (s : State), s.time.running = false ∧ s.sys.inReset = false ∧ s.sys.releaseAt + 20 * milli ≤
      s.time.elapsed) ∧
    (∃ (s : State), s.time.slewLeft = 0) ∧
    (∃ (k : Nat) (s : State),
      let x := s.launch k
      k < 64 ∧ x.due s.time.now.nanos = 1 ∧ x.period = 0 ∧ x.fires 1 (s.time.now.nanos - (x.sec * second +
      x.ns)) (s.lateTolerance 4) = true) ∧
    (∃ (l : Nat) (s : State), l < 6 ∧ hasEdges l (s.loop l) = true ∧ followsReference (s.loop l) = true) ∧
    (∃ (l : Nat) (s : State), l < 6 ∧ hasEdges l (s.loop l) = true ∧ l ≠ 0 ∧ followsReference (s.loop l) =
      false) ∧
    (∃ (l mhz : Nat) (s : State), l < 6 ∧ (s.loop l).measuring = true ∧ bitOf (s.loop l).cfg.lflags 0 =
      false) ∧
    (∃ (l : Nat) (err : Int) (s : State), l < 6 ∧ ((s.loop l).state = .coast ∨ (s.loop l).state = .holdover)
      ∧ l ≠ 1 ∧ l ≠ 2) :=
  ⟨⟨released, by decide +kernel⟩,
   ⟨up, by decide +kernel⟩,
   ⟨4, (up.setLaunch 4 { LaunchSlot.reset with armed := true }), by decide +kernel⟩,
   ⟨0, (aged.modLoop 0 fun x => { x with state := .locked }), by decide +kernel⟩,
   ⟨3, (aged.modLoop 3 fun x => { x with state := .coast }), by decide +kernel⟩,
   ⟨3, 48000000, (aged.modLoop 3 fun x => { x with measuring := true }), by decide +kernel⟩,
   ⟨3, 5, (aged.modLoop 3 fun x => { x with state := .coast }), by decide +kernel⟩⟩

theorem witness_LoopsComplete_1 :
    (∃ (l : Nat) (s : State), l < 6 ∧ (s.sys.inReset = false ∨ l = 5)) ∧
    (∃ (l : Nat) (s : State), l < 6 ∧ followsReference (s.loop l) = true) ∧
    (∃ (l : Nat) (sec : Bool) (s : State), l < 5 ∧ (s.loop l).state = .coast ∧ (s.loop l).coastFrom +
      (s.loop l).cfg.coastMs * milli ≤ s.time.elapsed) ∧
    (∃ (l band centre : Nat) (s : State), l < 6 ∧ (l = 1 ∨ l = 2) ∧ (s.loop l).state = .search) ∧
    (∃ (l band centre : Nat) (s : State), l < 6 ∧ (l = 1 ∨ l = 2) ∧ (s.loop l).state = .hop) ∧
    (∃ (l : Nat) (s : State), l < 6 ∧ (s.loop l).state = .search ∧ (s.loop l).since + 10 * milli ≤
      s.time.elapsed) ∧
    (∃ (l i band centre : Nat) (c : LoopCfg) (r : Req) (s : State), l < 6 ∧ (s.loop l).learn = some (i, c,
      r)) ∧
    (∃ (l b : Nat) (e : Int) (s : State), l < 6 ∧ (s.loop l).realign = some (b, e) ∧ b ≤ s.time.ri ∧ l ≠
      s.time.render) :=
  ⟨⟨3, up, by decide +kernel⟩,
   ⟨3, (aged.modLoop 3 fun x => { x with state := .locked }), by decide +kernel⟩,
   ⟨3, true, (aged.modLoop 3 fun x => { x with state := .coast }), by decide +kernel⟩,
   ⟨1, 3, 2, (aged.modLoop 1 fun x => { x with state := .search }), by decide +kernel⟩,
   ⟨1, 3, 2, (aged.modLoop 1 fun x => { x with state := .hop }), by decide +kernel⟩,
   ⟨3, (aged.modLoop 3 fun x => { x with state := .search }), by decide +kernel⟩,
   ⟨1, 2, 0, 0, (aged.loop 1).cfg, aReq, (aged.modLoop 1 fun x => { x with learn := some (2, x.cfg, aReq) }),
     by decide +kernel⟩,
   ⟨3, 0, 0, (aged.modLoop 3 fun x => { x with realign := some (0, 0) }), by decide +kernel⟩⟩

theorem witness_LoopsComplete_2 :
    (∃ (s : State), s.time.withheld = true ∧ s.time.lastUsed < s.floorTr) ∧
    (∃ (l : Nat) (s : State), l < 6 ∧ (s.loop l).state = .realign ∧ (s.loop l).realign = none ∧ (s.loop
      l).realignReq = none) :=
  ⟨⟨(aged.timeMod fun t => { t with withheld := true }), by decide +kernel⟩,
   ⟨3, (aged.modLoop 3 fun x => { x with state := .realign }), by decide +kernel⟩⟩

theorem witness_TransmissionCompletes :
    (∃ (p k : Nat) (s : State), p < 5 ∧ p ≠ 3 ∧ (s.port p).link = true ∧ (s.port p).lpi = false ∧
      ((s.settleCredit p).judgeHeads p).nextQueue p = some k) ∧
    (∃ (p k : Nat) (s : State), p < 5 ∧ k < 7 ∧ s.pausedQueue p k = false) ∧
    (∃ (p k : Nat) (f : TxFrame) (rest : List TxFrame) (s : State), p < 5 ∧ k < 7 ∧ s.txQueue p k = f ::
      rest ∧ f.held = true) ∧
    (∃ (p t : Nat) (s : State), p < 5 ∧ (s.port p).pauseEnd = some t ∧ t ≤ s.time.elapsed) ∧
    (∃ (p : Nat) (s : State), p < 3 ∧ (s.port p).lpi = false ∧ s.mayIdle p (!s.overridden p) = true ∧
      s.packetsFar p = true) :=
  ⟨⟨0, 0, ((up.modPort 0 fun x => { x with link := true }).setTxQueue 0 0 [aFrame]), by decide +kernel⟩,
   ⟨0, 0, up, by decide +kernel⟩,
   ⟨0, 0, { aFrame with held := true }, [], (up.setTxQueue 0 0 [{ aFrame with held := true }]),
     by decide +kernel⟩,
   ⟨0, 5, (aged.modPort 0 fun x => { x with pauseEnd := some 5 }), by decide +kernel⟩,
   ⟨0, (aged.modPort 0 fun x => { x with link := true, pflags := 2, tw := some 0 }), by decide +kernel⟩⟩

theorem witness_FabricEventsComplete_1 :
    (∃ (s : State), 64 ≤ s.fab.ample ∧ s.fab.shed = 0) ∧
    (∃ (s : State), 8 ≤ s.fab.short ∧ s.fab.shed < s.fab.shedMax) ∧
    (∃ (s : State), 256 ≤ s.fab.shedAmple) ∧
    (∃ (t : Nat) (s : State), s.fab.vtarget = some t) ∧
    (∃ (mv t : Nat) (s : State), s.fab.readback = some t ∧ t + milli ≤ s.time.elapsed ∧ mvOff s.fab.vcode mv
      = true) ∧
    (∃ (mv t : Nat) (s : State), s.fab.readback = some t ∧ t + milli ≤ s.time.elapsed ∧ mvOff s.fab.vcode mv
      = false) ∧
    (∃ (mv : Nat) (s : State), mvOff s.fab.vcode mv = true) ∧
    (∃ (n : Nat) (s : State), n < 16 ∧ s.fab.powered.getLsbD n = true) :=
  ⟨⟨(aged.fabMod fun x => { x with ample := 64 }), by decide +kernel⟩,
   ⟨(aged.fabMod fun x => { x with short := 8, shedMax := 3 }), by decide +kernel⟩,
   ⟨(aged.fabMod fun x => { x with shedAmple := 256 }), by decide +kernel⟩,
   ⟨30, (aged.fabMod fun x => { x with vtarget := some 30 }), by decide +kernel⟩,
   ⟨5, 0, (aged.fabMod fun x => { x with readback := some 0 }), by decide +kernel⟩,
   ⟨600 + 5 * aged.fab.vcode, 0, (aged.fabMod fun x => { x with readback := some 0 }), by decide +kernel⟩,
   ⟨5, up, by decide +kernel⟩,
   ⟨3, up, by decide +kernel⟩⟩

theorem witness_FabricEventsComplete_2 :
    (∃ (b : Nat) (m : Word) (s : State), s.fab.gateDue = some (b, m) ∧ b ≤ s.time.ri) ∧
    (∃ (p : Nat) (s : State), s.fab.pend = some p ∧ s.dat.phase ≠ 3 ∧ s.isReady Rdy.fabric = true ∧
      s.changeAt p s.time.ri = true) :=
  ⟨⟨0, 1, (aged.fabMod fun x => { x with gateDue := some (0, 1) }), by decide +kernel⟩,
   ⟨up.fab.active, (aged.fabMod fun x => { x with pend := some aged.fab.active, readyRi := some 0 }),
     by decide +kernel⟩⟩

theorem witness_TicksComplete :
    (∃ (t : TickIn) (s : State), s.noBlocks = false) ∧
    (∃ (missed : Bool) (ins : List (Nat × List Int)) (s : State), s.noBlocks = false ∧ s.alm.quarter <
      s.blockLen ∧ s.isReady Rdy.fabric = true) :=
  ⟨⟨{ slack := [], missed := [], early := [], units := [], inputs := [], ecc := [], offset := 0 }, aged,
     by decide +kernel⟩,
   ⟨false, [], aged, by decide +kernel⟩⟩

theorem witness_StartCompletes :
    (∃ (t : List Int) (s : State), s.sys.hot = false ∧ s.sys.inReset = false ∧ hottest t ≤ 500) ∧
    (∃ (t : List Int) (s : State), s.sys.hot = false ∧ s.sys.inReset = false ∧ 500 < hottest t) ∧
    (∃ (s : State), s.sys.inReset = false) ∧
    (∃ (boot : Nat) (pair : Bool) (s : State), boot < 8 ∧ s.sys.inReset = true ∧ s.sys.hot = false) ∧
    (∃ (boot t : Nat) (pair : Bool) (s : State), boot < 8 ∧ s.sys.resetDue = some t ∧ t ≤ s.time.elapsed ∧
      s.sys.inReset = false) ∧
    (∃ (s : State), s.sys.inReset = false ∧ s.isReady Rdy.fieldStore = false) ∧
    (∃ (s : State), s.sys.inReset = false ∧ s.isReady Rdy.longStore = false) ∧
    (∃ (s : State), s.sys.inReset = false ∧ s.isReady Rdy.fabric = false ∧ s.fab.failed = 0) :=
  ⟨⟨[200], up, by decide +kernel⟩,
   ⟨[600], up, by decide +kernel⟩,
   ⟨up, by decide +kernel⟩,
   ⟨0, true, held, by decide +kernel⟩,
   ⟨0, 0, true, (up.sysMod fun x => { x with resetDue := some 0 }), by decide +kernel⟩,
   ⟨released, by decide +kernel⟩,
   ⟨released, by decide +kernel⟩,
   ⟨released, by decide +kernel⟩⟩

theorem witness_FirmwareEventsComplete :
    (∃ (k : Nat) (s : State),
      let t := (s.sysMod fun x => { x with keyBoot := s.host.bootCount })
      s.sys.inReset = false ∧ s.sys.booted = false ∧ s.sys.recovery = false ∧ s.sys.halted = false ∧
      s.sys.bootPins ≠ 4 ∧ (t.noteFailed t.romFailed).romChoice = some k) ∧
    (∃ (s : State), s.sys.running = true) ∧
    (∃ (k : Nat) (s : State), s.sys.inReset = false ∧ s.sys.booted = true ∧ s.sys.running = false ∧
      s.sys.recovery = false ∧ s.sys.halted = false ∧ (s.noteFailed s.romFailed).romChoice = some k) ∧
    (∃ (j : StageJob) (s : State),
      let t := s.sysMod fun x => { x with stage := none }
      s.sys.stage = some j ∧ t.stageFail j = none ∧ s.sys.recovery = false ∧ (t.placeImage
      j.image).sys.recovery = false) ∧
    (∃ (t : Trial) (s : State), s.sys.trial = some t ∧ t.auto = true ∧ s.sys.running = true ∧
      s.sys.clusterAt + 60 * second ≤ s.time.elapsed) ∧
    (∃ (t : Trial) (s : State), s.sys.trial = some t ∧ t.auto = false ∧ s.sys.running = true ∧ t.from_ + 600
      * second ≤ s.time.elapsed) ∧
    (∃ (g : Nat) (b : List Byte) (r : Req) (s : State), s.otp.job = some (g, b, r)) :=
  ⟨⟨0, released, by decide +kernel⟩,
   ⟨up, by decide +kernel⟩,
   ⟨0, (released.sysMod fun x => { x with booted := true }), by decide +kernel⟩,
   ⟨⟨aReq, [], none⟩, (up.sysMod fun x => { x with stage := some ⟨aReq, [], none⟩ }), by decide +kernel⟩,
   ⟨{ from_ := 0, auto := true }, (aged.sysMod fun x => { x with trial := some { from_ := 0, auto := true } }),
     by decide +kernel⟩,
   ⟨{ from_ := 0, auto := false }, (aged.sysMod fun x => { x with trial := some { from_ := 0, auto := false } }),
     by decide +kernel⟩,
   ⟨1, zeros 512, aReq, { up with otp := { up.otp with job := some (1, zeros 512, aReq) } },
     by decide +kernel⟩⟩

theorem witness_AlmanacEventsComplete :
    (∃ (x : AlmSwap) (g : Prog) (s : State), s.alm.swap = some x ∧ x.running = false ∧ x.at_ ≤ s.time.ri ∧
      s.progOf s.idleBank = some g ∧ checkCapacity s.fab.active g = none) ∧
    (∃ (x : AlmSwap) (s : State), s.alm.swap = some x ∧ x.running = true ∧ x.at_ + x.window ≤ s.time.ri) ∧
    (∃ (f : Fetch) (s : State),
      let img := s.sourceRead f.req f.addr (min f.len 524288)
      s.alm.load = some f ∧ f.req.mayRead s f.addr f.len = true ∧ f.len ≠ 0 ∧ f.len ≤ 524288 ∧ imageSource
      f.addr f.len = true ∧ programCheck (s.almMod fun t => { t with load := none }) img = none) ∧
    (∃ (reg : Nat) (x : Int) (s : State), reg < 16384) ∧
    (∃ (reg : Nat) (s : State), reg < 16384 ∧ (s.gainReg reg).pendingStep = true ∧ s.stepTimeout ≤
      (s.gainReg reg).armed) ∧
    (∃ (k m e : Nat) (s : State), k < 64 ∧ (s.player k).msg = some m ∧ playEnd s.rate (s.libraryMessage m)
      (s.player k).repeats = some e ∧ e ≤ (s.player k).pos) ∧
    (∃ (k i : Nat) (s : State),
      let x := s.lane k
      k < 64 ∧ i < 8 ∧ Lane.valid x.entry = true ∧ i < Lane.inputs x.entry ∧ s.directUsable (Lane.src x.entry
      i) = false ∧ bitOf x.idle i = false) ∧
    (∃ (k : Nat) (s : State), k < 64 ∧ (s.lane k).enabled = false ∧ (s.lane k).fade.ended = true ∧ (s.lane
      k).fade.len ≠ 0) :=
  ⟨⟨{ req := none, at_ := 0, window := 64, running := false }, parseProg aProgram, ((aged.setAlmBank 1 { state := 2, image := aProgram }).almMod
     fun a => { a with swap := some { req := none, at_ := 0, window := 64, running := false } }),
     by decide +kernel⟩,
   ⟨{ req := none, at_ := 0, window := 64, running := true }, (aged.almMod fun a => { a with swap := some { req := none, at_ := 0, window := 64, running := true } }),
     by decide +kernel⟩,
   ⟨theFetch, (placed.almMod fun a => { a with load := some theFetch }), by decide +kernel⟩,
   ⟨7, 0, up, by decide +kernel⟩,
   ⟨7, (up.setGainReg 7 { up.gainReg 7 with cur := 1, target := 9, armed := 1048576 }), by decide +kernel⟩,
   ⟨7, 5, 0, (up.setPlayer 7 { up.player 7 with msg := some 5, repeats := 1 }), by decide +kernel⟩,
   ⟨7, 0, (up.setLane 7 { up.lane 7 with entry := [1, 1] ++ zeros 30 }), by decide +kernel⟩,
   ⟨7, (up.setLane 7 { up.lane 7 with fade := { pos := 64, len := 64, up := false } }), by decide +kernel⟩⟩

theorem witness_RenderEventsComplete :
    (∃ (k : Nat) (s : State), k < 65536) ∧
    (∃ (b : List Byte) (s : State), s.obj.newMesh = some b) ∧
    (∃ (f : Fetch) (s : State),
      let t := s.objMod fun t => { t with load := none }
      let b := t.sourceRead f.req f.addr (min f.len 131013)
      s.obj.load = some f ∧ f.len ≠ 0 ∧ f.req.mayRead t f.addr f.len = true ∧ t.meshCheck b f.len = none) ∧
    (∃ (f : Nat) (w : CorSwap) (s : State), f < 1024 ∧ (s.corFeed f).swap = some w ∧ w.at_ ≤ s.time.ri ∧
      w.req = none ∧ s.swapBarred f w.at_ = false) ∧
    (∃ (f b : Nat) (s : State), f < 1024 ∧ (s.corFeed f).fadeAt = some b ∧ b + 512 ≤ s.time.ri) ∧
    (∃ (r : Req) (s : State), s.cor.compact = some r) ∧
    (∃ (u sec : Nat) (s : State), (0x5000 ≤ u ∧ u < 0x5400 ∧ sec < 16 ∨ 0x6000 ≤ u ∧ u < 0x6100 ∧ sec < 8)) :=
  ⟨⟨7, up, by decide +kernel⟩,
   ⟨aMesh, (up.objMod fun o => { o with newMesh := some aMesh }), by decide +kernel⟩,
   ⟨{ theFetch with len := 132 }, meshPlaced, by decide +kernel⟩,
   ⟨7, { req := none, at_ := 0, pulse := false }, (aged.setCorFeed 7 { aged.corFeed 7 with swap := some { req := none, at_ := 0, pulse := false } }),
     by decide +kernel⟩,
   ⟨7, 0, (aged.setCorFeed 7 { aged.corFeed 7 with fadeAt := some 0 }), by decide +kernel⟩,
   ⟨aReq, (up.corMod fun c => { c with compact := some aReq }), by decide +kernel⟩,
   ⟨0x5007, 3, up, by decide +kernel⟩⟩

theorem witness_DatumEventsComplete :
    (∃ (j : LoadJob) (s : State), s.dat.job = some j ∧ s.dat.phase = 1 ∧ s.sourceGranted j = true ∧
      j.readable = true ∧ j.addr ≠ s.idleSlot) ∧
    (∃ (j : LoadJob) (s : State), s.dat.job = some j ∧ s.dat.phase = 2 ∧ s.dat.boundary = none ∧ s.loadFail
      j = none) ∧
    (∃ (b : Nat) (s : State),
      let t := ((s.dropAudio.datumReady false false).datMod fun d => { d with
      id := 0, phase := 3, boundary := none, applied := false
      roles := s.roleList
      fade := { pos := 64, len := 64, up := false }
      ovl := d.ovl.map fun o => (o.1, { Ovl.reset with stored := o.2.stored }) }).undelegate.resetAudio
      s.dat.boundary = some b ∧ s.dat.phase = 2 ∧ b ≤ s.time.ri ∧ Dm.profile t.idleImage = t.fab.active) ∧
    (∃ (s : State), s.dat.phase = 3 ∧ s.dat.applied = false) ∧
    (∃ (b : Nat) (s : State), s.dat.boundary = some b ∧ s.dat.phase = 3 ∧ s.dat.applied = true ∧ b ≤
      s.time.ri ∧ eligibleRi s.fab.active (min 4 (Dm.profile s.idleImage)) s.time.ri = true) ∧
    (∃ (r : Req) (s : State), s.dat.store = some r) :=
  ⟨⟨{ req := none, source := 0, addr := 0x16C00000, len := aDatum.length, since := 0 }, (up.datMod fun d =>
     { d with job := some { req := none, source := 0, addr := 0x16C00000, len := aDatum.length, since := 0 }, phase := 1 }),
     by decide +kernel⟩,
   ⟨{ req := none, source := 0, addr := 0x16C00000, len := aDatum.length, since := 0 }, ((placedAt
     up.idleSlot aDatum).datMod fun d => { d with job := some { req := none, source := 0, addr := 0x16C00000, len := aDatum.length, since := 0 }, phase := 2 }),
     by decide +kernel⟩,
   ⟨0, ((placedAt up.idleSlot aDatum).datMod fun d => { d with boundary := some 0, phase := 2 }),
     by decide +kernel⟩,
   ⟨(up.datMod fun d => { d with phase := 3 }), by decide +kernel⟩,
   ⟨0, ((placedAt up.idleSlot aDatum).datMod fun d => { d with boundary := some 0, phase := 3, applied := true }),
     by decide +kernel⟩,
   ⟨aReq, (up.datMod fun d => { d with store := some aReq }), by decide +kernel⟩⟩

theorem witness_OverlayEventsComplete :
    (∃ (p : Pending) (ps : List Pending) (n : Nat) (s : State), n < 64 ∧ s.dueCommands = p :: ps ∧
      p.req.index = n ∧ p.req.gen = 0 ∧ p.req.op = 0x0211 ∧ (s.dropPending p).applyFail n = none) ∧
    (∃ (p : Pending) (ps : List Pending) (n : Nat) (s : State), n < 64 ∧ s.dueCommands = p :: ps ∧
      p.req.index = n ∧ p.req.gen = 0 ∧ p.req.op = 0x0212 ∧ (s.dropPending p).removeFail n = none) ∧
    (∃ (n b : Nat) (s : State),
      let t := s.setOvl n { s.ovl n with active := false, suspended := false, resumeDue := none }
      n < 64 ∧ (s.ovl n).resumeDue = some b ∧ (s.ovl n).suspended = true ∧ b ≤ s.time.ri ∧ s.activeCount < 4 ∧
      ovlFail t n = none) ∧
    (∃ (n : Nat) (s : State), n < 64 ∧ s.saf.ready = true ∧ ovlIsland s n = true ∧ s.ovlNeeded n = false ∧
      (s.ovl n).waiting = false ∧ (s.ovl n).active = true ∧ s.swapStuck (s.removeOvl n) = false) :=
  ⟨⟨waits 0x0211 0xD002, [], 2, (withPending (up.setOvl 2 { Ovl.reset with stored := true, record := ovl2 })
     (waits 0x0211 0xD002)), by decide +kernel⟩,
   ⟨waits 0x0212 0xD002, [], 2, (withPending (up.setOvl 2 { Ovl.reset with stored := true, record := ovl2 })
     (waits 0x0212 0xD002)), by decide +kernel⟩,
   ⟨2, 0, (up.setOvl 2 { Ovl.reset with stored := true, record := ovl2, suspended := true, resumeDue := some 0 }),
     by decide +kernel⟩,
   ⟨2, (up.setOvl 2 { Ovl.reset with stored := true, record := zeros 27 ++ [1] ++ zeros 4, active := true }),
     by decide +kernel⟩⟩

theorem witness_WaitingCommandsComplete :
    (∃ (q n : Nat) (b : Body) (s : State),
      let u := s.dropMarkers q 2
      q < 32 ∧ s.takesCommands (q / 4) = true ∧ s.waitingOrder q = some n ∧ u.waitingOrder q = some n ∧
      (u.headPacket q).length ≠ 0 ∧ bodyOf (u16 (u.headBytes q) 4) = some b ∧ u.earlierOpen (q / 4) n =
      false) ∧
    (∃ (p : Pending) (b : Body) (s : State), s.sys.running = true ∧ s.dueCommands = [p] ∧ p.isOverlay =
      false ∧ (p.req.gen = 0 ∨ p.req.gen = (s.dropPending p).genOf p.req.target) ∧ bodyOf p.req.op =
      some b) ∧
    (∃ (p : Pending) (s : State), s.sys.running = true ∧ s.dueCommands = [p] ∧ p.isOverlay = false ∧
      p.req.gen ≠ 0 ∧ p.req.gen ≠ (s.dropPending p).genOf p.req.target) :=
  ⟨⟨0, 1, _, { asks up 2 0x0100 0 [] with host := { up.host with ordered := [(0, 1)] } },
     by decide +kernel, by decide +kernel, by decide +kernel, by decide +kernel, by decide +kernel, rfl,
     by decide +kernel⟩,
   ⟨waits 0x0401 0x4001, _, withPending up (waits 0x0401 0x4001), by decide +kernel, by decide +kernel,
     by decide +kernel, by decide +kernel, rfl⟩,
   ⟨{ waits 0x0401 0x4001 with req := { (waits 0x0401 0x4001).req with gen := 7 } }, (withPending up { waits 0x0401 0x4001 with req := { (waits 0x0401 0x4001).req with gen := 7 } }),
     by decide +kernel⟩⟩

theorem witness_NetworkEventsComplete_1 :
    (∃ (p : Nat) (f : List Byte) (s : State) (fcs : Bool), p < 5 ∧ s.hears p = true ∧ f.length < 64) ∧
    (∃ (p : Nat) (f : List Byte) (s : State) (fcs : Bool), p < 5 ∧ s.hears p = true ∧ 64 ≤ f.length ∧
      s.maxFrame p < f.length) ∧
    (∃ (p : Nat) (f : List Byte) (s : State), p < 5 ∧ s.hears p = true ∧ 64 ≤ f.length ∧ f.length ≤
      s.maxFrame p) ∧
    (∃ (p : Nat) (s : State), p < 5 ∧ (p < 3 → (s.port p).mode ≠ 0xFF)) ∧
    (∃ (p : Nat) (s : State), p < 5) ∧
    (∃ (p : Nat) (s : State), p < 3 ∧ (s.port p).lpi = true ∧ ((s.port p).tx.any fun q => q.2.any fun f =>
      f.launch.isNone) = true) ∧
    (∃ (w t : Nat) (s : State), w < 8 ∧ (s.wakePattern w).hold = some t ∧ t ≤ s.time.elapsed) ∧
    (∃ (s : State), s.net.fb.role = 1 ∧ s.net.fb.plca = true ∧ s.net.fb.lastBeacon + 4 * milli ≤
      s.time.elapsed) :=
  ⟨⟨0, zeros 20, (up.modPort 0 fun x => { x with link := true }), true, by decide +kernel⟩,
   ⟨0, zeros 1600, (up.modPort 0 fun x => { x with link := true }), true, by decide +kernel⟩,
   ⟨0, zeros 64, (up.modPort 0 fun x => { x with link := true }), by decide +kernel⟩,
   ⟨0, (up.modPort 0 fun x => { x with mode := 1 }), by decide +kernel⟩,
   ⟨0, up, by decide +kernel⟩,
   ⟨0, ((up.modPort 0 fun x => { x with lpi := true }).setTxQueue 0 0 [aFrame]), by decide +kernel⟩,
   ⟨2, 0, (up.netMod fun n => { n with wake := tput WakePattern.reset n.wake 2 { WakePattern.reset with hold := some 0 } }),
     by decide +kernel⟩,
   ⟨(aged.fbMod fun f => { f with role := 1, plca := true }), by decide +kernel⟩⟩

theorem witness_NetworkEventsComplete_2 :
    (∃ (s : State), s.net.fb.role = 0 ∧ s.net.fb.beaconing = true) ∧
    (∃ (s : State), s.net.fb.plca = false ∧ (s.countPort 4 Ctr.collisions 1).net.fb.attempts + 1 < 16) ∧
    (∃ (s : State), s.net.fb.role = 0 ∧ s.sys.running = true ∧ s.net.fb.lastCall + s.net.fb.callMs * milli ≤
      s.time.elapsed) ∧
    (∃ (f : List Byte) (s : State), fbFrameOk f = true ∧ isFbFrame f 2 = true) ∧
    (∃ (f : List Byte) (s : State), fbFrameOk f = true ∧ isFbFrame f 3 = true) ∧
    (∃ (f : List Byte) (s : State), fbFrameOk f = true ∧ isFbFrame f 6 = true) ∧
    (∃ (f : List Byte) (s : State), fbFrameOk f = true ∧ isFbFrame f 4 = true) ∧
    (∃ (f : List Byte) (s : State), fbFrameOk f = true ∧ isFbFrame f 5 = true) :=
  ⟨⟨(aged.fbMod fun f => { f with role := 0, beaconing := true }), by decide +kernel⟩,
   ⟨(aged.fbMod fun f => { f with plca := false }), by decide +kernel⟩,
   ⟨(aged.fbMod fun f => { f with role := 0 }), by decide +kernel⟩,
   ⟨busFrame 2 (zeros 40), up, by decide +kernel⟩,
   ⟨busFrame 3 (zeros 40), up, by decide +kernel⟩,
   ⟨busFrame 6 (zeros 40), up, by decide +kernel⟩,
   ⟨busFrame 4 (zeros 40), up, by decide +kernel⟩,
   ⟨busFrame 5 (zeros 40), up, by decide +kernel⟩⟩

theorem witness_StreamEventsComplete :
    (∃ (i : Nat) (s : State),
      let x := s.tx i
      let last := x.riBase + (x.formed + 1) * packetStep x.entry
      i < 512 ∧ Ent.enabled x.entry = true ∧ x.causes = 0 ∧ last ≤ s.posRi ∧ packetStep x.entry ≠ 0) ∧
    (∃ (i : Nat) (s : State), i < 512 ∧ (s.rx i).state = 2 ∧ (s.rx i).lastAny + absentNs (s.rx i).entry ≤
      s.time.elapsed) ∧
    (∃ (i : Nat) (s : State) (p : Nat), i < 512 ∧ (s.rx i).state = 2 ∧ p < 2 ∧ Ent.flag (s.rx i).entry 2 =
      true ∧ (s.rx i).down.getD p false = false ∧ (s.rx i).lastPath.getD p 0 + absentNs (s.rx i).entry ≤
      s.time.elapsed) ∧
    (∃ (g : Nat) (ppb : Int) (s : State), g < 128 ∧ (s.group g).mode = 1 ∧ (s.group g).suspended = false) ∧
    (∃ (i : Nat) (s : State), i < 512 ∧ s.sys.running = true ∧ s.outputsHeld = false ∧ Ent.enabled (s.tx
      i).entry = true ∧ Ent.flag (s.tx i).entry 3 = true ∧ Ent.aes67 (s.tx i).entry = true ∧ ((s.tx
      i).sapAt = 0 ∨ (s.tx i).sapAt - 1 + 30 * second ≤ s.time.elapsed)) ∧
    (∃ (s : State), s.sys.running = true ∧ s.outputsHeld = false ∧ (s.str.adpAt = 0 ∨ s.str.adpAt - 1 + 5 *
      second ≤ s.time.elapsed)) ∧
    (∃ (i : Nat) (x : SdpSession) (s : State), i < 1024 ∧ s.str.sdp[i]? = some x ∧ x.last + 300 * second ≤
      s.time.elapsed) ∧
    (∃ (i vid : Nat) (id dmac : List Byte) (s : State),
      let u := 0x2000 + i
      let e := streamRecord.padBytes 128 (s.streamEntry u)
      i < 512 ∧ vid < 4096 ∧ Ent.valid e = true ∧ Ent.flag e 4 = true ∧ Ent.aes67 e = false ∧ Ent.island e =
      false ∧ s.sys.running = true ∧ (s.tx i).listeners ≠ 16) :=
  ⟨⟨7, (aged.setTx 7 { aged.tx 7 with entry := anEntry 0 1 }), by decide +kernel⟩,
   ⟨7, (aged.modRx 7 fun x => { x with state := 2, entry := anEntry 0 1 }), by decide +kernel⟩,
   ⟨7, (aged.modRx 7 fun x => { x with state := 2, entry := anEntry 4 1 }), 0, by decide +kernel⟩,
   ⟨7, 3, (up.setGroup 7 { up.group 7 with mode := 1 }), by decide +kernel⟩,
   ⟨7, (aged.setTx 7 { aged.tx 7 with entry := anEntry 8 1 }), by decide +kernel⟩,
   ⟨aged, by decide +kernel⟩,
   ⟨0, ⟨[], 1, [], 0⟩, (aged.strMod fun x => { x with sdp := [⟨[], 1, [], 0⟩] }), by decide +kernel⟩,
   ⟨7, 5, zeros 8, zeros 6, (aged.setTx 7 { aged.tx 7 with entry := anEntry 16 0x11 }), by decide +kernel⟩⟩

theorem witness_SerialEventsComplete_1 :
    (∃ (k : Nat) (s : State) (hz : Nat), k < 36 ∧ s.serRuns k = true ∧ rateNear hz (s.serNominal k) = false
      ∧ serIsRx k = false) ∧
    (∃ (k hz : Nat) (s : State), k < 36 ∧ serIsTdm k = true ∧ ((s.ser_ k).state = 1 ∨ (s.ser_ k).state = 3)
      ∧ s.serDrives k (s.ser_ k).set = false ∧ rateNear hz (s.serNominal k) = true) ∧
    (∃ (p : Nat) (again : Bool) (s : State),
      let t := s.modSer p fun x => { x.count 1 with badRun := if again then x.badRun + 1 else 1 }
      p < 16 ∧ s.serRuns p = true ∧ (t.ser_ p).badRun < 16) ∧
    (∃ (p : Nat) (again : Bool) (s : State),
      let t := s.modSer p fun x => { x.count 1 with badRun := if again then x.badRun + 1 else 1 }
      p < 16 ∧ s.serRuns p = true ∧ 16 ≤ (t.ser_ p).badRun) ∧
    (∃ (k : Nat) (slow : Bool) (s : State), k < 36 ∧ (s.ser_ k).state = 2 ∧ hasSlip k (s.ser_ k).set = true) ∧
    (∃ (p : Nat) (m : List Byte) (s : State), p < 16 ∧ (s.ser_ p).masks = some m ∧ s.tdmOk p ((tdmSet
      (s.ser_ p)).take 8 ++ m) = true) ∧
    (∃ (p : Nat) (m : List Byte) (s : State), p < 16 ∧ (s.ser_ p).masks = some m ∧ s.tdmOk p ((tdmSet
      (s.ser_ p)).take 8 ++ m) = false) ∧
    (∃ (p : Nat) (b : List Byte) (s : State), p < 16 ∧ (s.ser_ p).newSet = some b) :=
  ⟨⟨3, (aged.modSer 3 fun x => { x with state := 2, set := tdmSlave }), 20000, by decide +kernel⟩,
   ⟨3, 48000, (aged.modSer 3 fun x => { x with state := 3, set := tdmSlave }), by decide +kernel⟩,
   ⟨3, false, (aged.modSer 3 fun x => { x with state := 2, set := tdmSlave }), by decide +kernel⟩,
   ⟨3, true, (aged.modSer 3 fun x => { x with state := 2, set := tdmSlave, badRun := 20 }),
     by decide +kernel⟩,
   ⟨3, true, (aged.modSer 3 fun x => { x with state := 2, set := tdmSlave }), by decide +kernel⟩,
   ⟨3, zeros 8, (aged.modSer 3 fun x => { x with set := tdmSlave, masks := some (zeros 8) }),
     by decide +kernel⟩,
   ⟨3, [0, 0, 0, 0, 0, 0, 0, 1], (aged.modSer 3 fun x => { x with set := tdmSlave, masks := some [0, 0, 0, 0, 0, 0, 0, 1] }),
     by decide +kernel⟩,
   ⟨3, tdmSlave, (aged.modSer 3 fun x => { x with newSet := some tdmSlave }), by decide +kernel⟩⟩

theorem witness_SerialEventsComplete_2 :
    (∃ (n : Nat) (s : State) (kind : Nat), n < 4 ∧ s.serRuns (16 + n) = true ∧ kind < 3) ∧
    (∃ (n : Nat) (s : State) (d : List Byte),
      let b := slice (d ++ zeros 24) 0 24
      n < 4 ∧ s.serRuns (16 + n) = true ∧ bitOf (u8 b 0) 0 = true ∧ u8 b 23 ≠ csCrc b) ∧
    (∃ (n : Nat) (s : State) (d : List Byte),
      let b := slice (d ++ zeros 24) 0 24
      n < 4 ∧ s.serRuns (16 + n) = true ∧ (bitOf (u8 b 0) 0 = false ∨ u8 b 23 = csCrc b) ∧ bitOf (u8 b 0) 1 =
      true) ∧
    (∃ (n hz : Nat) (s : State), n < 4 ∧ (s.ser_ (16 + n)).state ≠ 0 ∧ (s.ser_ (16 + n)).state ≠ 2 ∧
      aesNominal hz = none) ∧
    (∃ (n hz : Nat) (s : State), n < 4 ∧ (s.ser_ (16 + n)).state ≠ 0 ∧ (s.ser_ (16 + n)).state ≠ 2 ∧
      aesNominal hz = some s.rate ∧ u8 (s.ser_ (16 + n)).set 2 ≠ 2) ∧
    (∃ (i pair even odd : Nat) (s : State), i < 512 ∧ pair < 32 ∧ s.naPairOk i pair = true ∧ isPreamble even
      odd = true) ∧
    (∃ (i pair : Nat) (s : State), i < 532 ∧ pair < 32 ∧ (s.naPair i pair).muted = true ∧ (s.naPair i
      pair).byCs = false ∧ (s.naPair i pair).until_ ≤ s.time.elapsed) :=
  ⟨⟨1, (aged.modSer 17 fun x => { x with state := 2 }), 0, by decide +kernel⟩,
   ⟨1, (aged.modSer 17 fun x => { x with state := 2 }), [1], by decide +kernel⟩,
   ⟨1, (aged.modSer 17 fun x => { x with state := 2 }), [2], by decide +kernel⟩,
   ⟨1, 20000, (aged.modSer 17 fun x => { x with state := 1 }), by decide +kernel⟩,
   ⟨1, aged.rate, (aged.modSer 17 fun x => { x with state := 1 }), by decide +kernel⟩,
   ⟨7, 0, 0xF8720000, 0x4E1F0000, (aged.modRx 7 fun x => { x with entry := anEntry 0 1 }),
     by decide +kernel⟩,
   ⟨7, 0, (aged.setNa 7 0 { aged.naPair 7 0 with muted := true, byCs := false, until_ := 0 }),
     by decide +kernel⟩⟩

theorem witness_SightlineCompletes_1 :
    (∃ (s : State), (s.port 3).link = true ∧ s.isReady Rdy.sight = false ∧ s.net.sight.frozen = false) ∧
    (∃ (f : List Byte) (s : State), s.net.sight.frozen = false ∧ u8 f 0 = 1 ∧ u8 f 1 = 0 ∧ u16 f 20 = 16 ∧
      s.net.sight.peerSync = false) ∧
    (∃ (f : List Byte) (s : State), s.net.sight.frozen = false ∧ u8 f 0 = 1 ∧ u8 f 1 = 1) ∧
    (∃ (t : Nat) (s : State), s.net.sight.ackDue = some t ∧ t + 10 * micro ≤ s.time.elapsed) ∧
    (∃ (s : State), s.net.sight.unacked ≠ [] ∧ s.net.sight.progress + 50 * micro ≤ s.time.elapsed ∧ 8 ≤
      s.net.sight.resends) ∧
    (∃ (s : State), s.net.sight.unacked ≠ [] ∧ s.net.sight.progress + 50 * micro ≤ s.time.elapsed ∧
      s.net.sight.resends < 8) ∧
    (∃ (f : List Byte) (s : State), (s.sequenced f).2 = true ∧ u8 f 1 = 3 ∧ u8 (sightPayload f) 0 = 1) ∧
    (∃ (f : List Byte) (s : State), (s.sequenced f).2 = true ∧ u8 f 1 = 3 ∧ u8 (sightPayload f) 0 = 2) :=
  ⟨⟨((up.modPort 3 fun x => { x with link := true }).setReady Rdy.sight false), by decide +kernel⟩,
   ⟨linkFrame 0 (zeros 16), up, by decide +kernel⟩,
   ⟨linkFrame 1 [], up, by decide +kernel⟩,
   ⟨0, (aged.sightMod fun x => { x with ackDue := some 0 }), by decide +kernel⟩,
   ⟨(aged.sightMod fun x => { x with unacked := [(1, [])], resends := 8 }), by decide +kernel⟩,
   ⟨(aged.sightMod fun x => { x with unacked := [(1, [])] }), by decide +kernel⟩,
   ⟨linkFrame 3 (1 :: zeros 39), up, by decide +kernel⟩,
   ⟨linkFrame 3 (2 :: zeros 39), up, by decide +kernel⟩⟩

theorem witness_SightlineCompletes_2 :
    (∃ (f : List Byte) (s : State), (s.sequenced f).2 = true ∧ u8 f 1 = 3 ∧ u8 (sightPayload f) 0 = 3) ∧
    (∃ (f : List Byte) (s : State), (s.sequenced f).2 = true ∧ u8 f 1 = 3 ∧ u8 (sightPayload f) 0 = 4) ∧
    (∃ (f : List Byte) (s : State), (s.sequenced f).2 = true ∧ u8 f 1 = 4) ∧
    (∃ (f : List Byte) (s : State), (s.sequenced f).2 = true ∧ u8 f 1 = 5) ∧
    (∃ (f : List Byte) (s : State), (s.sequenced f).2 = true ∧ u8 f 1 = 6 ∧ u8 (sightPayload f) 0 = 1) ∧
    (∃ (f : List Byte) (s : State), (s.sequenced f).2 = true ∧ u8 f 1 = 6 ∧ u8 (sightPayload f) 0 = 2) ∧
    (∃ (f : List Byte) (s : State), (s.sequenced f).2 = true ∧ u8 f 1 = 6 ∧ u8 (sightPayload f) 0 = 3) ∧
    (∃ (f : List Byte) (s : State), (s.sequenced f).2 = true ∧ u8 f 1 = 6 ∧ u8 (sightPayload f) 0 = 4) :=
  ⟨⟨linkFrame 3 (3 :: zeros 39), up, by decide +kernel⟩,
   ⟨linkFrame 3 (4 :: zeros 39), up, by decide +kernel⟩,
   ⟨linkFrame 4 (0 :: zeros 39), up, by decide +kernel⟩,
   ⟨linkFrame 5 (0 :: zeros 39), up, by decide +kernel⟩,
   ⟨linkFrame 6 (1 :: zeros 39), up, by decide +kernel⟩,
   ⟨linkFrame 6 (2 :: zeros 39), up, by decide +kernel⟩,
   ⟨linkFrame 6 (3 :: zeros 39), up, by decide +kernel⟩,
   ⟨linkFrame 6 (4 :: zeros 39), up, by decide +kernel⟩⟩

theorem witness_SightlineCompletes_3 :
    (∃ (f : List Byte) (s : State), (s.sequenced f).2 = true ∧ u8 f 1 = 6 ∧ u8 (sightPayload f) 0 = 5) ∧
    (∃ (f : List Byte) (s : State), (s.sequenced f).2 = true ∧ u8 f 1 = 6 ∧ u8 (sightPayload f) 0 = 6) ∧
    (∃ (f : List Byte) (s : State), (s.sequenced f).2 = true ∧ u8 f 1 = 6 ∧ u8 (sightPayload f) 0 = 7) ∧
    (∃ (f : List Byte) (s : State), (s.sequenced f).2 = true ∧ u8 f 1 = 6 ∧ u8 (sightPayload f) 0 = 8) ∧
    (∃ (f : List Byte) (s : State), s.net.sight.frozen = false ∧ u8 f 0 = 1 ∧ u8 f 1 = 2 ∧ s.pair.state ≠
      .single) :=
  ⟨⟨linkFrame 6 (5 :: zeros 39), up, by decide +kernel⟩,
   ⟨linkFrame 6 (6 :: zeros 39), up, by decide +kernel⟩,
   ⟨linkFrame 6 (7 :: zeros 39), up, by decide +kernel⟩,
   ⟨linkFrame 6 (8 :: zeros 39), up, by decide +kernel⟩,
   ⟨linkFrame 2 (zeros 40), (up.pairMod fun p => { p with state := .backsight }), by decide +kernel⟩⟩

theorem witness_PairEventsComplete_1 :
    (∃ (s : State), s.pair.mayTake = true) ∧
    (∃ (n : Nat) (s : State), s.pair.state = .backsight ∧ s.pair.peerFenced = true ∧ s.pair.fenceWait = some
      n ∧ 2 ≤ n) ∧
    (∃ (s : State), s.pair.pairId = true ∧ s.pair.active = true ∧ s.pair.fenced = true ∧ 2 ≤
      s.pair.fenceRun) ∧
    (∃ (h : Nat) (s : State), s.pair.holdAt = some h ∧ h ≤ s.time.ri ∧ s.pair.state = .foresight ∧
      (s.pair.fenced = true ∨ s.pair.hbOnly = true)) ∧
    (∃ (h : Nat) (s : State), s.pair.selfHold = some h ∧ s.pair.state.isFore = true ∧ h + s.blockLen ≤
      s.time.ri) ∧
    (∃ (s : State), s.pair.state = .seeking ∧ s.pair.selfHold.isSome = true ∧ s.pair.withheld = 0 ∧
      s.pair.beatFrom + 3 * second ≤ s.time.elapsed) ∧
    (∃ (s : State), s.pair.state = .seeking ∧ s.pair.selfHold = none ∧ s.pair.heard = false ∧
      s.pair.seekFrom + s.pair.seekNs ≤ s.time.elapsed ∧ s.pair.peerFenced = false) ∧
    (∃ (j : Nat) (s : State), s.pair.joinAt = some j ∧ s.pair.state = .joining ∧ j ≤ s.time.ri ∧ s.dat.phase
      = 0) :=
  ⟨⟨(aged.pairMod fun p => { p with record := [5], state := .backsight, misses := 3 }), by decide +kernel⟩,
   ⟨2, (aged.pairMod fun p => { p with record := [3], state := .backsight, fenceIn := true, fenceWait := some 2 }),
     by decide +kernel⟩,
   ⟨(aged.pairMod fun p => { p with record := [3], pairId := true, state := .foresight, fenceRun := 2 }),
     by decide +kernel⟩,
   ⟨0, (aged.pairMod fun p => { p with record := [3], state := .foresight, holdAt := some 0 }),
     by decide +kernel⟩,
   ⟨0, (aged.pairMod fun p => { p with state := .foresight, selfHold := some 0 }), by decide +kernel⟩,
   ⟨(aged.pairMod fun p => { p with state := .seeking, selfHold := some 0 }), by decide +kernel⟩,
   ⟨(aged.pairMod fun p => { p with state := .seeking }), by decide +kernel⟩,
   ⟨0, (aged.pairMod fun p => { p with state := .joining, joinAt := some 0 }), by decide +kernel⟩⟩

theorem witness_PairEventsComplete_2 :
    (∃ (j : Nat) (s : State), s.pair.joinAt = some j ∧ s.pair.settled = false ∧ (s.pair.state = .foresight ∨
      s.pair.state = .backsight) ∧ j + 3 * s.rate ≤ s.time.ri) ∧
    (∃ (x : Handover) (s : State), s.pair.handover = some x ∧ x.h ≤ s.time.ri ∧ x.acked = true ∧ x.req =
      none ∧ s.pair.state = .foresight ∧ s.pair.peerLoad = false ∧ s.pair.loadReq = none) ∧
    (∃ (x : Handover) (s : State), s.pair.handover = some x ∧ x.acked = false ∧ x.h ≤ s.time.ri + 2 *
      s.blockLen) ∧
    (∃ (t : Nat) (s : State), s.pair.skewFrom = some t ∧ s.pair.skewSent = false ∧ t + second ≤
      s.time.elapsed) :=
  ⟨⟨0, (aged.pairMod fun p => { p with state := .foresight, joinAt := some 0 }), by decide +kernel⟩,
   ⟨⟨0, none, true⟩, (aged.pairMod fun p => { p with state := .foresight, handover := some ⟨0, none, true⟩ }),
     by decide +kernel⟩,
   ⟨⟨0, none, false⟩, (aged.pairMod fun p => { p with state := .foresight, handover := some ⟨0, none, false⟩ }),
     by decide +kernel⟩,
   ⟨0, (aged.pairMod fun p => { p with skewFrom := some 0 }), by decide +kernel⟩⟩

theorem witness_IslandEventsComplete_1 :
    (∃ (mv : List Nat) (ins : List (Nat × List Int)) (s : State), s.saf.ready = true ∧ ((List.range 8).foldl
      (fun s i => s.sampleInput i (mv.getD i 0)) s).saf.ready = true ∧ ((List.range 8).foldl (fun s i =>
      s.sampleInput i (mv.getD i 0)) s).blocksPace = true) ∧
    (∃ (i : Nat) (s : State), i < 8 ∧ s.inputDue i = true) ∧
    (∃ (i t : Nat) (s : State), i < 8 ∧ (s.safIn i).between = some t ∧ s.saf.ready = true ∧ t + second ≤
      s.time.elapsed) ∧
    (∃ (r : Nat) (s : State), r < 64 ∧ s.saf.ready = true ∧ s.saf.hbMissing = 0 ∧ s.wantsOverlay r = true ∧
      s.dat.phase ≠ 3 ∧ s.reqOvl r = none) ∧
    (∃ (r a : Nat) (s : State), r < 64 ∧ (s.safReq r).boundaryA = some a ∧ s.saf.ready = true ∧ (s.safReq
      r).active = true ∧ (s.safReq r).deleg = Deleg.start ∧ s.saf.hbMissing = 0 ∧ (s.safReq r).beatsOk =
      true ∧ a + (profDepth s.fab.active + 3) * s.blockLen ≤ s.time.ri) ∧
    (∃ (s : State), s.saf.ready = true ∧ s.fabricMissing = true ∧ bitOf s.saf.hbMissing 0 = false) ∧
    (∃ (s : State), s.saf.ready = true ∧ s.saf.fwLast + SafCfg.hbFwMs s.saf.general * milli ≤ s.time.elapsed
      ∧ bitOf s.saf.hbMissing 1 = false) ∧
    (∃ (s : State), s.saf.ready = true ∧ SafCfg.supSlot s.saf.general ≠ 0xFF ∧ s.saf.hostLast +
      SafCfg.hbHostMs s.saf.general * milli ≤ s.time.elapsed ∧ bitOf s.saf.hbMissing 2 = false) :=
  ⟨⟨[], [], aged, by decide +kernel⟩,
   ⟨2, ((cfgd 1 (List.flatten (List.replicate 8 ([1, 0] ++ zeros 14)))).setSafIn 2 { up.safIn 2 with state := .active, band := 3, run := 5 }),
     by decide +kernel⟩,
   ⟨2, 0, (aged.setSafIn 2 { aged.safIn 2 with between := some 0 }), by decide +kernel⟩,
   ⟨2, (aged.setSafReq 2 { aged.safReq 2 with command := true, deleg := Deleg.start }), by decide +kernel⟩,
   ⟨2, 0, (aged.setSafReq 2 { aged.safReq 2 with command := true, deleg := Deleg.start, boundaryA := some 0, beatsOk := true }),
     by decide +kernel⟩,
   ⟨(aged.safMod fun x => { x with fabMiss := 9 }), by decide +kernel⟩,
   ⟨aged, by decide +kernel⟩,
   ⟨(cfgd 8 ([0, 2, 20, 0, 0, 1] ++ zeros 10)), by decide +kernel⟩⟩

theorem witness_IslandEventsComplete_2 :
    (∃ (s : State), s.sys.running = true ∧ s.saf.present = true ∧ bitOf s.saf.hbMissing 1 = false) ∧
    (∃ (r since : Nat) (s : State), r < 64 ∧ s.saf.healthy = some since ∧ s.saf.ready = true ∧
      SafCfg.returnS s.saf.general ≠ 0 ∧ (s.safReq r).active = true ∧ (s.safReq r).deleg =
      Deleg.takenOver ∧ since + SafCfg.returnS s.saf.general * second ≤ s.time.elapsed) ∧
    (∃ (e : Nat) (s : State), e < 128 ∧ s.saf.ready = true ∧ bitOf (u8 (s.saf.lineEntries.getD e []) 1) 0 =
      true ∧ max s.saf.readyAt ((s.saf.lineAt e).last.getD 0) + SafCfg.reportToMs s.saf.general * milli
      ≤ s.time.elapsed) ∧
    (∃ (r : Nat) (s : State), r < 64 ∧ s.saf.ready = true ∧ (s.safReq r).trigger = true ∧ (s.safReq
      r).trigUntil ≤ s.time.elapsed) ∧
    (∃ (s : State),
      let d : Int := (s.time.now.nanos : Int) - (s.saf.time.nanos : Int)
      s.saf.present = true ∧ s.isReady Rdy.time = true ∧ (s.loop 0).fallback = false ∧ (∀ t, s.saf.compared =
      some t → t + second ≤ s.time.elapsed) ∧ d.natAbs ≤ milli) ∧
    (∃ (s : State),
      let d : Int := (s.time.now.nanos : Int) - (s.saf.time.nanos : Int)
      s.saf.present = true ∧ s.isReady Rdy.time = true ∧ (s.loop 0).fallback = false ∧ (∀ t, s.saf.compared =
      some t → t + second ≤ s.time.elapsed) ∧ milli < d.natAbs) :=
  ⟨⟨aged, by decide +kernel⟩,
   ⟨2, 0, (((cfgd 8 ([0, 2, 20, 0, 0, 1, 5, 0] ++ zeros 8)).safMod fun x => { x with healthy := some 0 }).setSafReq
     2 { aged.safReq 2 with command := true, deleg := Deleg.takenOver }), by decide +kernel⟩,
   ⟨0, (cfgd 6 ([1, 0, 0, 0, 0, 1] ++ zeros 6)), by decide +kernel⟩,
   ⟨2, (aged.setSafReq 2 { aged.safReq 2 with trigger := true, trigUntil := 0 }), by decide +kernel⟩,
   ⟨clocks, by decide +kernel, by decide +kernel, by decide +kernel, fun t h => absurd h (by simp [clocks,
     State.safMod]), by decide +kernel⟩,
   ⟨clocksApart, by decide +kernel, by decide +kernel, by decide +kernel, fun t h => absurd h (by simp
     [clocksApart, clocks, State.safMod, State.timeMod]), by decide +kernel⟩⟩

theorem witness_IslandLifeCompletes_1 :
    (∃ (s : State), s.saf.present = false) ∧
    (∃ (s : State), s.saf.present = true) ∧
    (∃ (s : State), s.saf.resetN = false) ∧
    (∃ (s : State), s.saf.ready = true) ∧
    (∃ (s : State), s.saf.present = true) ∧
    (∃ (t k : Nat) (s : State), s.saf.readyDue = some t ∧ s.saf.ready = false ∧ s.saf.present = true ∧ t ≤
      s.time.elapsed ∧ s.saf.bankOrder.find? s.saf.bankOk = some k) ∧
    (∃ (s : State), s.saf.ready = true ∧ s.saf.readyAt + 60 * second ≤ s.time.elapsed) ∧
    (∃ (t : Nat) (s : State), s.sys.islandDue = some t ∧ t ≤ s.time.elapsed) :=
  ⟨⟨(aged.safMod fun x => { x with present := false }), by decide +kernel⟩,
   ⟨up, by decide +kernel⟩,
   ⟨(aged.safMod fun x => { x with resetN := false }), by decide +kernel⟩,
   ⟨up, by decide +kernel⟩,
   ⟨up, by decide +kernel⟩,
   ⟨0, 0, (aged.safMod fun x => { x with readyDue := some 0, ready := false }), by decide +kernel⟩,
   ⟨aged, by decide +kernel⟩,
   ⟨0, (aged.sysMod fun x => { x with islandDue := some 0 }), by decide +kernel⟩⟩

theorem witness_IslandLifeCompletes_2 :
    (∃ (m : List Byte) (ms : List (List Byte)) (s : State), s.saf.present = true ∧ s.saf.svcOut = m :: ms) ∧
    (∃ (j : MsgLoad) (s : State),
      let b := s.loadBytes j
      s.saf.load = some j ∧ j.flash = true ∧ messageOk j.msg b = true ∧ j.persist = false) :=
  ⟨⟨[1], [], (aged.safMod fun x => { x with svcOut := [[1]] }), by decide +kernel⟩,
   ⟨theMsgLoad false, (up.safMod fun x => { x with load := some (theMsgLoad false), library := writeBytes x.library 0 aMessage }),
     by decide +kernel⟩⟩

/-! ## The statements about steps, packets, frames and queues -/

theorem witness_StepRunsFront : ∃ (c : Instr) (rest : List Instr) (s : State), s.pending = c :: rest :=
  ⟨.timeStart, [.slewEnd], { up with pending := [.timeStart, .slewEnd] }, rfl⟩

theorem witness_EmptyQueueTicks : ∃ s : State, s.pending = [] := ⟨up, rfl⟩

theorem witness_WellFormedCompletes : (∃ c : Instr, c.wf = true) ∧ (∃ c : Instr, c.wf = false) :=
  ⟨⟨.sysNop 31, by decide⟩, ⟨.sysNop 32, by decide⟩⟩

theorem witness_StepKeepsQueue : ∃ s : State, s.pending ≠ [] ∧ s.queueOk :=
  ⟨{ up with pending := [.slewEnd] }, by decide, by unfold State.queueOk; decide⟩

/-- A queue holds a packet that an opcode's row takes, with something true of it. -/
def packetMeets (s : State) (q op : Nat) (ok : State → Req → List Byte → Nat → Prop)
    [∀ t r p n, Decidable (ok t r p n)] : Bool :=
  match s.packet q op with
  | some (t, r, p, n) => decide (ok t r p n)
  | none => false

def PacketMeets (op : Nat) (ok : State → Req → List Byte → Nat → Prop) : Prop :=
  ∃ (q : Nat) (s t : State) (r : Req) (p : List Byte) (n : Nat), s.packet q op = some (t, r, p, n) ∧ ok t r p n

theorem packetMeets_of (s : State) (q op : Nat) {ok : State → Req → List Byte → Nat → Prop}
    [∀ t r p n, Decidable (ok t r p n)] (h : packetMeets s q op ok = true) : PacketMeets op ok := by
  unfold packetMeets at h
  split at h
  · rename_i t r p n e
    exact ⟨q, s, t, r, p, n, e, by simpa using h⟩
  · exact absurd h (by decide)

theorem nop_in_rows : (0x0100, Instr.sysNop) ∈ hostRows := by simp [hostRows, hostRows0]

/-- The conditions a packet meets up to its sequence number. -/
abbrev plain (r : Req) (p : List Byte) (n : Nat) : Prop :=
  packetCheck p n = none ∧ u8 p 0 = 3 ∧ u8 p 1 = r.slot ∧ u16 p 14 = 0 ∧ r.flags < 16

/-- Commands of the first queue have been taken, the last of them numbered `n`. -/
def after (n : Nat) : State := (asks up 0 0x0100 0 []).setCmdQueue 0 ⟨some n, none, 0⟩

theorem witness_ChecksInOrder :
    PacketMeets 0x0100 (fun _ _ p n => packetCheck p n = some Status.crc) ∧
    PacketMeets 0x0100 (fun _ _ p n => packetCheck p n = none ∧ u8 p 0 ≠ 3) ∧
    PacketMeets 0x0100 (fun _ r p n => packetCheck p n = none ∧ u8 p 0 = 3 ∧ u8 p 1 ≠ r.slot) ∧
    PacketMeets 0x0100 (fun t r p n => plain r p n ∧ (t.cmdQueue r.queue).lastSeq = some 1 ∧ r.seq = 1) ∧
    PacketMeets 0x0100 (fun t r p n => plain r p n ∧ (t.cmdQueue r.queue).lastSeq = some 2 ∧
      r.seq ≠ 2 ∧ r.seq ≠ (2 + 1) % 65536) ∧
    PacketMeets 0x0100 (fun t r p n => plain r p n ∧ t.seqFollows r = true ∧ (t.slot r.slot).frozen = true) ∧
    PacketMeets 0x0401 (fun t r p n => plain r p n ∧ t.seqFollows r = true ∧ (t.slot r.slot).frozen = false ∧
      t.sys.recovery = false ∧
      ((opInfo r.op).bind fun i => commonCheck t i r (u16 p 12)) = some Status.badParam) :=
  ⟨packetMeets_of (holds up 0 ((packetOf 0 0 0x0100 0 []).take 16 ++ zeros 4)) 0 0x0100 (by decide +kernel),
   packetMeets_of (holds up 0 badVersion) 0 0x0100 (by decide +kernel),
   packetMeets_of (holds up 0 (packetOf 0 1 0x0100 0 [])) 0 0x0100 (by decide +kernel),
   packetMeets_of (after 1) 0 0x0100 (by decide +kernel),
   packetMeets_of (after 2) 0 0x0100 (by decide +kernel),
   packetMeets_of ((asks up 0 0x0100 0 []).modSlot 0 fun x => { x with frozen := true }) 0 0x0100 (by decide +kernel),
   packetMeets_of (asks up 0 0x0401 0 (zeros 48)) 0 0x0401 (by decide +kernel)⟩

/-- A command answers a next state. -/
def goes (c : Instr) (s : State) : Bool :=
  match exec c s with
  | .next _ => true
  | .fault _ => false
  | .refused _ => false

theorem goes_next {c : Instr} {s : State} (h : goes c s = true) : ∃ t, exec c s = .next t := by
  unfold goes at h
  split at h
  · rename_i t e
    exact ⟨t, e⟩
  all_goals cases h

theorem witness_RefusedPacketsFrame : ∃ (q : Nat) (s t : State), s.offer q 0x0100 = none ∧ exec (.sysNop q) s = .next t :=
  ⟨0, up, (goes_next (c := .sysNop 0) (s := up) (by decide +kernel)).elim fun t h => ⟨t, by decide +kernel, h⟩⟩

theorem witness_QueriesFrame : ∀ c ∈ [Instr.sysNop, .sysIdentify, .sysGetReadiness, .sysGetWindow, .sysFabStatus,
    .merGetTime, .netFbNodes, .pairStatus, .otpRead, .diagFaults, .datStatus, .datOvlGet, .strGet, .strContinuity,
    .objGet, .feedGet, .corBanks, .corPool, .corBiquadGet, .almStatus], ∃ (q : Nat) (s t : State),
    exec (c q) s = .next t := fun c hc =>
  ⟨0, up, goes_next ((show ∀ c ∈ [Instr.sysNop, .sysIdentify, .sysGetReadiness, .sysGetWindow, .sysFabStatus,
    .merGetTime, .netFbNodes, .pairStatus, .otpRead, .diagFaults, .datStatus, .datOvlGet, .strGet, .strContinuity,
    .objGet, .feedGet, .corBanks, .corPool, .corBiquadGet, .almStatus], goes (c 0) up = true by decide +kernel) c hc)⟩

theorem witness_PortsFrame : ∀ c ∈ [Instr.cellPushWrite 0 0x8000 (zeros 64), .cellPopRead 0 0xA000 64,
    .registerWrite 0 0x2000 1, .queueCommit 0 0, .queueAbort 0 0, .queueReset 0 0, .snapshotTake 0,
    .stickyFaultClear 0 0x4000 1, .channelStart 0 0, .channelExtend 0 0, .channelStop 0 0, .functionLevelReset 0,
    .perstNAssert, .udpDatagramReceive 4 [10, 0, 0, 2] 4000 false aDatagram, .gpioPulseEnd 0],
    ∃ s t : State, exec c s = .next t := fun c hc =>
  ⟨bound, goes_next ((show ∀ c ∈ [Instr.cellPushWrite 0 0x8000 (zeros 64), .cellPopRead 0 0xA000 64,
    .registerWrite 0 0x2000 1, .queueCommit 0 0, .queueAbort 0 0, .queueReset 0 0, .snapshotTake 0,
    .stickyFaultClear 0 0x4000 1, .channelStart 0 0, .channelExtend 0 0, .channelStop 0 0, .functionLevelReset 0,
    .perstNAssert, .udpDatagramReceive 4 [10, 0, 0, 2] 4000 false aDatagram, .gpioPulseEnd 0],
    goes c bound = true by decide +kernel) c hc)⟩

theorem witness_NetworkFrame : ∀ c ∈ [Instr.linkUp 0, .linkDown 0, .lpiEnter 0, .lpiExit 0, .lpiRxEntry 0,
    .plcaBeaconLoss, .plcaBeaconSeen, .csmaCollision], ∃ s t : State, exec c s = .next t := fun c hc =>
  ⟨up, goes_next ((show ∀ c ∈ [Instr.linkUp 0, .linkDown 0, .lpiEnter 0, .lpiExit 0, .lpiRxEntry 0,
    .plcaBeaconLoss, .plcaBeaconSeen, .csmaCollision], goes c up = true by decide +kernel) c hc)⟩

/-- The island loads a message from its flash. -/
def loadsMessage : State := up.safMod fun x =>
  { x with load := some (theMsgLoad false), library := writeBytes x.library 0 aMessage }

/-- A datum is being fetched. -/
def fetchesDatum : State := up.datMod fun d => { d with job := some theJob, phase := 1 }

theorem witness_StoresFrame :
    (∃ (f : List Byte) (s t : State), s.memOk ∧ exec (.memoryWriteReceive f) s = .next t) ∧
    (∃ s t : State, s.memOk ∧ exec .datStoreDone s = .next t) ∧
    (∃ (j : LoadJob) (s t : State), s.memOk ∧ s.dat.job = some j ∧ exec .datumFetchDone s = .next t) ∧
    (∃ (j : MsgLoad) (s t : State), s.memOk ∧ s.saf.load = some j ∧ j.persist = false ∧
      exec .messageLoadDone s = .next t) := by
  refine ⟨⟨linkFrame 5 (le 8 0x17000000 ++ [1, 2, 3, 4]), up, ?_⟩,
    ⟨up.datMod fun d => { d with store := some aReq }, ?_⟩, ⟨theJob, fetchesDatum, ?_⟩,
    ⟨theMsgLoad false, loadsMessage, ?_⟩⟩
  · exact (goes_next (by decide +kernel)).elim fun t h => ⟨t, by unfold State.memOk; decide +kernel, h⟩
  · exact (goes_next (by decide +kernel)).elim fun t h => ⟨t, by unfold State.memOk; decide +kernel, h⟩
  · exact (goes_next (by decide +kernel)).elim fun t h => ⟨t, by unfold State.memOk; decide +kernel, rfl, h⟩
  · exact (goes_next (by decide +kernel)).elim fun t h => ⟨t, by unfold State.memOk; decide +kernel, rfl, rfl, h⟩

theorem witness_PacketCells : (∃ (p : List Byte) (cells : Nat), 14 ≤ p.length ∧
      cells ≠ (20 + u16 p 12) / 64 + (if (20 + u16 p 12) % 64 = 0 then 0 else 1)) ∧
    (∃ p : List Byte, 14 ≤ p.length ∧ 20 + u16 p 12 ≤ p.length) :=
  ⟨⟨zeros 64, 2, by decide⟩, ⟨zeros 64, by decide⟩⟩

/-- Input 2 is a plain contact whose new band has lasted. -/
def pressed : State :=
  (cfgd 1 (List.flatten (List.replicate 8 ([1, 0] ++ zeros 14)))).setSafIn 2
    { up.safIn 2 with state := .active, band := 3, run := 5 }

theorem witness_PlainContact :
    (∃ e : List Byte, SafCfg.inSupervised e = false) ∧
    (∃ (i mv : Nat) (s : State), i < 8 ∧ twf SafInput.reset s.saf.inputs = true ∧
      SafCfg.inSupervised (s.saf.inputEntry i) = false ∧ (s.sampleInput i mv).inputDue i = true) :=
  ⟨⟨[], by decide⟩, ⟨2, 3000, pressed, by decide +kernel⟩⟩

theorem witness_LockstepResets : ∃ s : State, s.saf.ready = true ∧ s.saf.present = true := ⟨up, by decide⟩

theorem witness_BindingResetsFloor :
    Meets 0x0107 (fun r t => bindCheck r t = none ∧ twf Slot.reset t.host.slots = true) :=
  meets_of up 0 0x0107 0xA006 ([4, 0, 160, 15, 10, 0, 0, 1] ++ zeros 44) (by decide +kernel)

/-- A queue with one committed cell and one more being pushed. -/
def busyQueue : Queue :=
  let c := fun l : Bool => ({ data := zeros 64, first := true, last := l } : QCell)
  { Queue.reset with
    bank0 := { Bank.empty with cells := [c true, c false], commit := 1 }, fill1 := true, openAt := some (false, 1) }

theorem witness_QueueKeepsSound : ∃ (q : Nat) (x : Queue), x.sound q = true := ⟨0, busyQueue, by decide +kernel⟩

theorem witness_QueueKeepsOrder : ∃ (q : Nat) (x : Queue), x.sound q = true ∧ bankLog2 q x ≠ 0 ∧
    x.copiesAgree = true ∧ x.discarding = false ∧ x.openLen < bankCells q x - 2 ∧
    (x.bank x.pushBank).sealed = false ∧ (x.bank x.pushBank).cells.length < bankCells q x - 1 :=
  ⟨0, busyQueue, by decide +kernel⟩

/-! ## Behaviour -/

/-- A command answers a next state of which something holds. -/
def gives (c : Instr) (s : State) (f : State → Bool) : Bool :=
  match exec c s with
  | .next t => f t
  | .fault _ => false
  | .refused _ => false

/-- The check column of Table 0-2. -/
theorem test_crc32c : crc32c [0x31, 0x32, 0x33, 0x34, 0x35, 0x36, 0x37, 0x38, 0x39] = 0xE3069283 := by decide +kernel

/-- The check column of Table 0-2. -/
theorem test_crc16 : crc16 [0x31, 0x32, 0x33, 0x34, 0x35, 0x36, 0x37, 0x38, 0x39] = 0x29B1 := by decide +kernel

/-- The example of FIPS 180-4: "abc". -/
theorem test_sha256 : beNat (sha256 [0x61, 0x62, 0x63]) =
    0xba7816bf8f01cfea414140de5dae2223b00361a396177a9cb410ff61f20015ad := by decide +kernel

/-- The example of FIPS 180-4: "abc". -/
theorem test_sha384 : beNat (sha384 [0x61, 0x62, 0x63]) =
    0xcb00753f45a35e8bb5a03d699ac65007272c32ab0eded1631a8b605a43ff5bed8086072ba1e7cc2358baeca134c825a7 := by
  decide +kernel

/-- RFC 4231, case 2. -/
theorem test_hmac : beNat (hmacSha256 [0x4a, 0x65, 0x66, 0x65] ([0x77, 0x68, 0x61, 0x74, 0x20, 0x64, 0x6f, 0x20, 0x79,
      0x61, 0x20, 0x77, 0x61, 0x6e, 0x74, 0x20] ++ [0x66, 0x6f, 0x72, 0x20, 0x6e, 0x6f, 0x74, 0x68, 0x69, 0x6e, 0x67,
      0x3f])) = 0x5bdcc146bf60754e6a042426089575c75a003f089d2739839dec58b964ec3843 := by decide +kernel

/-- The base point of P-384 is on the curve, and of the order FIPS 186-5 gives. -/
theorem test_p384 : P384.onCurve (P384.gx, P384.gy) = true := by decide +kernel

/-- SYS_NOP answers with its parameters, in the layout of Table 2-5. -/
theorem test_nop_echoes : gives (.sysNop 0) (asks up 0 0x0100 0 [1, 2, 3, 4]) (fun t =>
    (t.headBytes 32).take 20 == [3, 0, 1, 0, 0, 1, 0, 0, 0, 0, 0, 0, 4, 0, 0, 0, 1, 2, 3, 4]) = true := by decide +kernel

/-- A bad trailer draws CRC (0x1B), and the sequence does not move on. -/
theorem test_bad_crc : gives (.sysNop 0) (holds up 0 ((packetOf 0 0 0x0100 0 []).take 16 ++ zeros 4)) (fun t =>
    u16 (t.headBytes 32) 6 == 0x1B && (t.cmdQueue 0).lastSeq == none) = true := by decide +kernel

/-- The same number again is answered by the stored reply, whatever the packet holds (R81). -/
theorem test_duplicate : gives (.sysNop 0) (asks up 0 0x0100 0 [1, 2, 3, 4]) (fun t =>
    gives (.sysNop 0) (holds t 0 (packetOf 0 0 0x0100 0 [9])) fun u =>
      ((u.queue 32).bank0.cells.map (·.data)).all fun c => u8 c 16 == 1) = true := by decide +kernel

/-- A frozen slot's command is answered FROZEN (0x15). -/
theorem test_frozen : gives (.sysNop 0) ((asks up 0 0x0100 0 []).modSlot 0 fun x => { x with frozen := true })
    (fun t => u16 (t.headBytes 32) 6 == 0x15) = true := by decide +kernel

/-- A clock step moves device time, and not the render index. -/
theorem test_step : gives (.merStep 0) (asks aged 0 0x0703 0xF000 (le 8 5 ++ zeros 4)) (fun t =>
    t.time.now.ns == aged.time.now.ns + 5 && t.time.ri == aged.time.ri) = true := by decide +kernel

/-- A block tick moves the render index one block on. -/
theorem test_block_tick : gives (.blockTick theTick) aged (fun t => t.time.ri == aged.time.ri + aged.blockLen) = true := by
  decide +kernel

/-- The front of the queue leaves it, the rest stays. -/
theorem test_step_takes_front : (match step { up with pending := [.slewEnd, .timeStart] } with
    | .next t => t.pending == [.timeStart]
    | _ => false) = true := by decide +kernel

/-- Without commands a cycle of 2 ns passes. -/
theorem test_idle_cycle : (match step up with
    | .next t => t.time.elapsed == 2
    | _ => false) = true := by decide +kernel

/-- FLR of function 1 returns its queues to empty. -/
theorem test_function_reset : gives (.functionLevelReset 1) (holds up 4 (zeros 64)) (fun t =>
    (t.queue 4).bank0.cells == []) = true := by decide +kernel

end Sys2Proof.Tests
end

section
/-!
PROOFS. The scope of the model: what any command can answer, and what a step does to the queue of waiting commands.
-/
namespace Sys2Proof.Machine

/-- What a command can answer. A row whose operands name no unit with a range to check always goes on; every other
row, those of the command packets among them, runs behind the check of its unit indices. -/
theorem exec_cases (c : Instr) (s : State) :
    (c.wf = true ∧ ∃ t, exec c s = goOn s t) ∨ ∃ name t, exec c s = ran c.wf name s t := by
  cases c with
  | pendingCommandApply | udpDatagramReceive | perstNAssert | channelGrant | slewEnd | realignTickResume
  | blockTick | directTick | vcodeFall | shedRise | shedFall | vcodeRampStep | vddReadbackCheck | pmAlert
  | thermalRead | profileChangeApply | partitionGate | programSwap | swapCrossfadeEnd | almLoadDone | meshAdopt
  | meshLoadDone | corCompactDone | plcaBeaconLoss | plcaBeaconSeen | csmaCollision | rollCall | fbAnswer
  | fbAssign | fbLeave | fbReport | fbTrigger | adpEntityAvailable | sightSyncSend | sightSyncReceive
  | sightAckReceive | sightAckTimer | sightRetransmit | peerHeartbeat | sightCommandReceive | sightResultReceive
  | sightSnapshotReceive | sightImageReceive | streamStateReceive | memoryWriteReceive | joinRequest | joinAccept
  | joinDone | handover | handoverAck | takeover | leave | refuse | pairTakeover | fenceWaitExpire | fenceConflict
  | foresightHold | foresightRelease | foresightRejoin | pairSeekTimeout | joinSnapshotStart | pairSettled
  | handoverBoundary | handoverAbandon | pairSkew | islandInputSample | fabricHbMiss | firmwareHeartbeat
  | firmwareHbTimeout | hostHbTimeout | islandTimeCompare | islandWatchdogExpire | lockstepMismatch
  | lsResetNAssert | islandReady | vddLsPowerGood | vddLsLoss | servicePacketWrite | serviceReplyRead
  | messageLoadDone | islandBankVerified | datumFetchDone | datumCheckDone | datumBoundary | datumApplyDone
  | datumActivate | datStoreDone | fwStageDone | trialAutoConfirm | trialTimeout | mainSupplyLoss | resetNAssert
  | timeStart | fieldStoreSelftestDone | longStoreTrained | firmwareBoot | clusterWatchdogExpire
  | firmwareFatalError | clusterReady | islandRestart | lsResetNRelease => exact .inl ⟨rfl, _, rfl⟩
  | _ => exact .inr ⟨_, _, rfl⟩

theorem exec_completes_of_wf {c : Instr} (s : State) (h : c.wf = true) :
    ∃ t, exec c s = .next t ∧ t.pending = s.pending := by
  obtain ⟨-, t, he⟩ | ⟨name, t, he⟩ := exec_cases c s
  · exact he ▸ goOn_completes s t
  · exact he ▸ ran_completes name s t h

theorem exec_refuses_of_not_wf {c : Instr} (s : State) (h : c.wf = false) :
    ∃ name, exec c s = .refused (.illFormed name) := by
  obtain ⟨hwf, -⟩ | ⟨name, t, he⟩ := exec_cases c s
  · exact absurd hwf (by simp [h])
  · exact he ▸ ran_illFormed name s t h

/-- Settles O3: a row has one of two forms (`exec_cases`), and each form has its law. That a command whose operands
name no unit is refused by name is the model's design choice (log 10); BAD_PARAM, which R26 gives for a TARGET out of
range, is a reply of a command that runs. -/
theorem wellFormedCompletes : Obligations.WellFormedCompletes :=
  fun _ s => ⟨exec_completes_of_wf s, exec_refuses_of_not_wf s⟩

/-! ## The queue of waiting commands -/

@[simp] theorem State.tick_pending (s : State) : s.tick.pending = s.pending := rfl

theorem step_of_idle {s : State} (h : s.pending = []) : step s = .next s.tick := by simp [step, h]

theorem step_of_front {s : State} {c : Instr} {rest : List Instr} (h : s.pending = c :: rest) :
    step s = exec c { s with pending := rest } := by simp [step, h]

theorem State.queueOk.of_tail {s t : State} (h : s.queueOk) (ht : t.pending = s.pending.tail) : t.queueOk :=
  fun c hc => h c (List.mem_of_mem_tail (ht ▸ hc))

/-- A step never adds a command to the queue: a tick leaves it empty, and a command that runs leaves what stands
behind it. -/
theorem step_pops_front {s : State} (h : s.queueOk) : ∃ t, step s = .next t ∧ t.pending = s.pending.tail := by
  cases hp : s.pending with
  | nil => exact ⟨s.tick, step_of_idle hp, by simp [hp]⟩
  | cons c rest =>
    have hwf : c.wf = true := h c (by simp [hp])
    rw [step_of_front hp]
    exact exec_completes_of_wf _ hwf

/-- Settles O4: with the front gone, the commands that still wait were well formed before. -/
theorem stepKeepsQueue : Obligations.StepKeepsQueue := by
  intro s h
  obtain ⟨t, hstep, htail⟩ := step_pops_front h
  exact ⟨t, hstep, htail, h.of_tail htail⟩

end Sys2Proof.Machine
end

section
/-!
PROOFS. What a row answers, and the forms in which command packets complete, beyond Laws/Commands.
-/
namespace Sys2Proof.Machine

theorem ran_eq_next {wf : Bool} {name : String} {s t u : State} (h : ran wf name s t = .next u) : u = s.goesTo t := by
  cases wf
  · cases h
  · cases h; rfl

/-- A command whose body, past its checks, waits when it is accepted and takes effect at its boundary. -/
theorem boundaryCommand_of_body {c : Nat → Instr} {op : Nat} {ok : Req → State → Prop}
    {effect : Req → State → State} {name : String} {body : Body}
    (he : ∀ q s, exec (c q) s = commandRow name op body q s) (hop : bodyOf op = some body)
    (ho : (op == 0x0211 || op == 0x0212) = false)
    (hb : ∀ atB r s, ok r s → body atB r s = if atB then .done (effect r s) [] else .boundary) :
    BoundaryCommand c op ok effect :=
  ⟨waits_of he fun r t _ h => hb false r t h, applies_of hop ho fun r s h => hb true r s h⟩

/-- A command that is noted without an interim reply, and with no render index asked for. -/
theorem carryOut_hold_silent {t : State} {i : OpInfo} {r : Req} (u : State) (h : t.mirrors i r = false)
    (hat : r.atRi = false) : t.carryOut i r (.hold false u) = u.accept r := by
  simp [State.carryOut, h, hat]

end Sys2Proof.Machine
end

section
/-!
PROOFS. Queries: their answers, and that they change nothing of the device's work.
-/
namespace Sys2Proof.Machine

theorem mirrorCommand_frame (s : State) (r : Req) (due : Nat) : s.sameWork (s.mirrorCommand r due) :=
  (pair_frame s _).trans (sightSend_frame _ _ _ _ _ _)

theorem addPending_frame (s : State) (p : Pending) : s.sameWork (s.addPending p) := host_frame s _

/-- A command that completes now without touching the state leaves the work as it was, at a Foresight too. -/
theorem carryOut_done_frame (s : State) (i : OpInfo) (r : Req) (d : List Byte) :
    s.sameWork (s.carryOut i r (.done s d)) := by
  unfold State.carryOut
  dsimp only
  split
  · exact ((accept_frame s r).trans (mirrorCommand_frame _ _ _)).trans (addPending_frame _ _)
  · exact (accept_frame s _).trans (finish_frame _ _ _ _)

theorem judgeOpcode_query_frame (s : State) (data : Req → State → List Byte) (r : Req) (p : List Byte) :
    s.sameWork (s.judgeOpcode (query data) r p) := by
  unfold State.judgeOpcode
  split
  · exact reply_frame s _ _ _ _
  split
  · exact reply_frame s _ _ _ _
  split
  · exact reply_frame s _ _ _ _
  split
  · refine State.sameWork.trans ?_ (reply_frame _ _ _ _ _)
    split
    · exact countDenied_frame s _
    · exact State.sameWork.refl s
  · exact carryOut_done_frame s _ r _

theorem judge_query_frame (s : State) (data : Req → State → List Byte) (r : Req) (p : List Byte) :
    s.sameWork (s.judge (query data) r p) := by
  unfold State.judge
  split
  · exact reply_frame s _ _ _ _
  split
  · exact reply_frame s _ _ _ _
  split
  · exact judgeOpcode_query_frame s data r p
  split
  · exact resend_frame s r
  split
  · exact judgeOpcode_query_frame s data r p
  · exact reply_frame s _ _ _ _

theorem popAndJudge_query_frame (s : State) (q n : Nat) (data : Req → State → List Byte) :
    s.sameWork (s.popAndJudge q n (query data)) := by
  refine (afterPacket_frame s q n).trans ?_
  unfold State.popAndJudge
  dsimp only
  split
  · exact reply_frame _ _ _ _ _
  · exact judge_query_frame _ data _ _

theorem takeCommand_query_frame (s : State) (q op : Nat) (data : Req → State → List Byte) (release : Bool) :
    s.sameWork (s.takeCommand q op (query data) release) := by
  unfold State.takeCommand
  split
  · exact State.sameWork.refl s
  refine (dropMarkers_frame s q 2).trans ?_
  dsimp only
  split
  · split
    · exact State.sameWork.refl _
    · exact queueOp_frame _ _ _ _
  split
  · exact State.sameWork.refl _
  split
  · exact State.sameWork.refl _
  split
  · split
    · exact State.sameWork.refl _
    · exact host_frame _ _
  · exact popAndJudge_query_frame _ q _ data

/-- The row of an opcode that only answers. -/
def IsQuery (c : Nat → Instr) : Prop :=
  ∃ (name : String) (op : Nat) (data : Req → State → List Byte),
    ∀ q s, exec (c q) s = commandRow name op (query data) q s

theorem IsQuery.frame {c : Nat → Instr} (hc : IsQuery c) {q : Nat} {s t : State} (h : exec (c q) s = .next t) :
    s.sameWork t := by
  obtain ⟨name, op, data, he⟩ := hc
  rw [he] at h
  rw [ran_eq_next h]
  exact (takeCommand_query_frame s q op data false).trans (goesTo_frame s _)

/-- Settles O6: each of these rows runs a `query`, and no row of them is mirrored to a Backsight (R590). -/
theorem systemQueriesAnswer : Obligations.SystemQueriesAnswer :=
  ⟨answers_of (fun _ _ => rfl) rfl, answers_of (fun _ _ => rfl) rfl, answers_of (fun _ _ => rfl) rfl,
    answers_of (fun _ _ => rfl) rfl, answers_of (fun _ _ => rfl) rfl, answers_of (fun _ _ => rfl) rfl,
    answers_of (fun _ _ => rfl) rfl, answers_of (fun _ _ => rfl) rfl, answers_of (fun _ _ => rfl) rfl,
    answers_of (fun _ _ => rfl) rfl⟩

/-- Settles O7, as O6: each row runs a `query` that no Backsight takes part in. -/
theorem audioQueriesAnswer : Obligations.AudioQueriesAnswer :=
  ⟨answers_of (fun _ _ => rfl) rfl, answers_of (fun _ _ => rfl) rfl, answers_of (fun _ _ => rfl) rfl,
    answers_of (fun _ _ => rfl) rfl, answers_of (fun _ _ => rfl) rfl, answers_of (fun _ _ => rfl) rfl,
    answers_of (fun _ _ => rfl) rfl, answers_of (fun _ _ => rfl) rfl, answers_of (fun _ _ => rfl) rfl,
    answers_of (fun _ _ => rfl) rfl⟩

/-- Settles O48: each of these rows is a query, and whatever a query is answered, only replies, events and the
queues of its slot move (`IsQuery.frame`). -/
theorem queriesFrame : Obligations.QueriesFrame := by
  intro c hc q s t
  refine IsQuery.frame ?_
  simp only [List.mem_cons, List.not_mem_nil, or_false] at hc
  rcases hc with rfl | rfl | rfl | rfl | rfl | rfl | rfl | rfl | rfl | rfl | rfl | rfl | rfl | rfl | rfl | rfl | rfl |
    rfl | rfl | rfl <;> exact ⟨_, _, _, fun _ _ => rfl⟩

end Sys2Proof.Machine
end

section
/-!
PROOFS. Reads with parameters: what the body of each opcode gives once its own checks pass.
-/
namespace Sys2Proof.Machine

section
variable {b : Bool} {r : Req} {s : State}

theorem sysGetGenerationsBody_pairs (h : r.params.length % 2 = 0) :
    sysGetGenerationsBody b r s = .done s (generationsOf s r.params (r.params.length / 2)) := by
  simp [sysGetGenerationsBody, h]

theorem sysFabBudgetBody_done (hclass : u8 r.params 0 ≤ 4) (hz : zeroAt r.params 1 3 = true) :
    sysFabBudgetBody b r s = .done s (le 1 (b2n (s.budgetFail (u8 r.params 0)).isSome)
      ++ le 1 ((s.budgetFail (u8 r.params 0)).getD (0, 0, 0)).1 ++ zeros 2
      ++ le 4 ((s.budgetFail (u8 r.params 0)).getD (0, 0, 0)).2.1
      ++ le 4 ((s.budgetFail (u8 r.params 0)).getD (0, 0, 0)).2.2) := by
  have h : ¬ 4 < u8 r.params 0 := by omega
  simp [sysFabBudgetBody, h, hz]

theorem sysGpioStatusBody_read (hc : u8 r.params 0 = 0) (hz : zeroAt r.params 1 3 = true) :
    sysGpioStatusBody b r s = .done s (gpioData s) := by
  simp [sysGpioStatusBody, hc, hz]

theorem sysGpioStatusBody_clear (hc : u8 r.params 0 = 1) (hz : zeroAt r.params 1 3 = true)
    (hl : r.hasLevel s 2 = true) :
    sysGpioStatusBody b r s = .done (s.clearEdges (List.range 32)) (gpioData s) := by
  simp [sysGpioStatusBody, hc, hz, hl]

theorem merLoopStatusBody_done (h : u8 r.params 0 ≤ 5) :
    merLoopStatusBody b r s = .done s (loopStatusData s (u8 r.params 0)) := by
  simp only [merLoopStatusBody, if_neg (Nat.not_lt.2 h)]

theorem netPortStatusBody_done (h : u8 r.params 0 ≤ 4) :
    netPortStatusBody b r s =
      .done (if u8 r.params 0 < 3 then s else s.bump) (portStatusData s (u8 r.params 0)) := by
  simp only [netPortStatusBody, if_neg (Nat.not_lt.2 h)]

theorem netGetCountersBody_read (hp : u8 r.params 0 ≤ 4) (hc : u8 r.params 1 = 0)
    (hz : zeroAt r.params 2 2 = true) :
    netGetCountersBody b r s = .done s (countersData s (u8 r.params 0)) := by
  have h : ¬ 4 < u8 r.params 0 := by omega
  simp [netGetCountersBody, h, hc, hz]

theorem netGetCountersBody_clear (hp : u8 r.params 0 ≤ 4) (hc : u8 r.params 1 = 1)
    (hz : zeroAt r.params 2 2 = true) (hl : r.hasLevel s 2 = true) :
    netGetCountersBody b r s = .done (s.modPort (u8 r.params 0) fun x => { x with counters := [] })
      (countersData s (u8 r.params 0)) := by
  have h : ¬ 4 < u8 r.params 0 := by omega
  simp [netGetCountersBody, h, hc, hz, hl]

theorem diagLogReadBody_done (h1 : 1 ≤ u16 r.params 2) (h64 : u16 r.params 2 ≤ 64) :
    diagLogReadBody b r s = .done s (historyData s (u16 r.params 0) (u16 r.params 2)) := by
  have h : ¬ (u16 r.params 2 = 0 ∨ 64 < u16 r.params 2) := by omega
  simp only [diagLogReadBody, if_neg h]

theorem almGetGainBody_done (h1 : 1 ≤ u16 r.params 2) (h1000 : u16 r.params 2 ≤ 1000)
    (hsum : u16 r.params 0 + u16 r.params 2 ≤ 16384) :
    almGetGainBody b r s = .done s ((List.range (u16 r.params 2)).flatMap fun i =>
      leI 2 (s.gainReg (u16 r.params 0 + i)).cur ++ leI 2 (s.gainReg (u16 r.params 0 + i)).target) := by
  have h : ¬ (u16 r.params 2 = 0 ∨ 1000 < u16 r.params 2 ∨ 16384 < u16 r.params 0 + u16 r.params 2) := by omega
  simp only [almGetGainBody, if_neg h]

theorem objStatusBody_read (hc : u8 r.params 0 = 0) (hz : zeroAt r.params 1 3 = true) :
    objStatusBody b r s = .done s (le 4 (s.tapCount (·.safe)) ++ le 4 (s.tapCount fun t => !t.safe)
      ++ le 4 (s.tapCount fun t => t.fade != 0) ++ le 4 s.obj.candidates ++ le 4 s.obj.waiting
      ++ (s.obj.counts.map fun n => le 4 n).flatten ++ le 8 (Mesh.id s.obj.mesh)) := by
  simp [objStatusBody, hc, hz]

theorem objTapsBody_done (hz : zeroAt r.params 2 2 = true) :
    objTapsBody b r s =
      (let l := (s.obj.tap.filter fun x => x.2.obj == r.index).map fun x => x.2.bytes
       .done s (le 2 l.length ++ zeros 2 ++ ((l.drop (u16 r.params 0)).take 254).flatten)) := by
  simp [objTapsBody, hz]

theorem corDynStatusBody_read (hc : u8 r.params 0 = 0) (hz : zeroAt r.params 1 3 = true) :
    corDynStatusBody b r s =
      (let d := s.dynUnit r.index
       .done s (d.settings (decide (r.index < 1024)) ++ leI 2 d.level ++ leI 2 d.now ++ leI 2 d.deepest ++ zeros 2
        ++ le 4 d.blocks)) := by
  simp [corDynStatusBody, hc, hz]

theorem strStatusBody_read (hc : u8 r.params 0 = 0) (hz : zeroAt r.params 1 3 = true) :
    strStatusBody b r s = .done s (streamStatusData s r.target) := by
  simp [strStatusBody, hc, hz]

theorem strStatusBody_clear (hc : u8 r.params 0 = 1) (hz : zeroAt r.params 1 3 = true)
    (hl : r.hasLevel s 2 = true) :
    strStatusBody b r s = .done (s.clearStream r.target) (streamStatusData s r.target) := by
  simp [strStatusBody, hc, hz, hl]

theorem strSdpListBody_done (hz : zeroAt r.params 2 2 = true) :
    strSdpListBody b r s =
      (let l := sdpFit 4072 (s.str.sdp.drop (u16 r.params 0))
       .done s (le 2 l.length ++ zeros 2 ++ (l.map SdpSession.bytes).flatten)) := by
  simp [strSdpListBody, hz]

theorem strSerialStatusBody_tdm (hc : u8 r.params 1 = 0) (hz : zeroAt r.params 2 2 = true)
    (htdm : unitClass r.target = 3) (hsel : u8 r.params 0 = 0) :
    strSerialStatusBody b r s = .done s (serStatusData s r.index) := by
  simp [strSerialStatusBody, hc, hz, htdm, hsel]

end

/-- Settles O8, by the bodies' equations above. That NET_PORT_STATUS of Ports S and F draws a free value is log 1, and
the order in which OBJ_TAPS and STR_SDP_LIST give their entries is log 144, both the model's choice. -/
theorem parameterReadsAnswer : Obligations.ParameterReadsAnswer :=
  ⟨finishes_of (fun _ _ => rfl) fun _ _ _ h => sysGetGenerationsBody_pairs h,
    finishes_of (fun _ _ => rfl) fun _ _ _ ⟨hclass, hz⟩ => sysFabBudgetBody_done hclass hz,
    finishes_of (fun _ _ => rfl) fun _ _ _ ⟨hc, hz⟩ => sysGpioStatusBody_read hc hz,
    finishes_of (fun _ _ => rfl) fun _ _ _ ⟨hc, hz, hl⟩ => sysGpioStatusBody_clear hc hz hl,
    finishes_of (fun _ _ => rfl) fun _ _ _ h => merLoopStatusBody_done h,
    finishes_of (fun _ _ => rfl) fun _ _ _ h => netPortStatusBody_done h,
    finishes_of (fun _ _ => rfl) fun _ _ _ ⟨hp, hc, hz⟩ => netGetCountersBody_read hp hc hz,
    finishes_of (fun _ _ => rfl) fun _ _ _ ⟨hp, hc, hz, hl⟩ => netGetCountersBody_clear hp hc hz hl,
    finishes_of (fun _ _ => rfl) fun _ _ _ ⟨h1, h64⟩ => diagLogReadBody_done h1 h64,
    finishes_of (fun _ _ => rfl) fun _ _ _ ⟨h1, h1000, hsum⟩ => almGetGainBody_done h1 h1000 hsum,
    finishes_of (fun _ _ => rfl) fun _ _ _ ⟨hc, hz⟩ => objStatusBody_read hc hz,
    finishes_of (fun _ _ => rfl) fun _ _ _ hz => objTapsBody_done hz,
    finishes_of (fun _ _ => rfl) fun _ _ _ ⟨hc, hz⟩ => corDynStatusBody_read hc hz,
    finishes_of (fun _ _ => rfl) fun _ _ _ ⟨hc, hz⟩ => strStatusBody_read hc hz,
    finishes_of (fun _ _ => rfl) fun _ _ _ ⟨hc, hz, hl⟩ => strStatusBody_clear hc hz hl,
    finishes_of (fun _ _ => rfl) fun _ _ _ hz => strSdpListBody_done hz,
    finishes_of (fun _ _ => rfl) fun _ _ _ ⟨hc, hz, htdm, hsel⟩ => strSerialStatusBody_tdm hc hz htdm hsel⟩

end Sys2Proof.Machine
end

section
/-!
PROOFS. Commands of the system and diagnostic groups, restarts and resets.
-/
namespace Sys2Proof.Machine

section
variable {b : Bool} {r : Req} {s : State}

theorem sysAssignChannelBody_done (hidx : r.index < 32) (hz : zeroAt r.params 1 3 = true)
    (hown : u8 r.params 0 < 8 ∨ u8 r.params 0 = 0xFF) (hidle : (s.chan r.index).state = .idle) :
    sysAssignChannelBody b r s =
      .done ((s.modChan r.index fun x => { x with owner := u8 r.params 0 }).bumpGen r.target) [] := by
  have howner : (decide (8 ≤ u8 r.params 0) && u8 r.params 0 != 0xFF) = false := by
    rcases hown with h | h
    · simp only [decide_eq_false (Nat.not_le.2 h), Bool.false_and]
    · simp only [h, bne_self_eq_false, Bool.and_false]
  simp [sysAssignChannelBody, Nat.not_le.2 hidx, hz, howner, hidle]

theorem sysFreezeBody_slot (hclass : unitClass r.target = 10) (hpriv : r.index ≠ s.host.privSlot) :
    sysFreezeBody b r s =
      .done (s.freezeSlot r.index 3 0) (le 2 ((s.freezeSlot r.index 3 0).slot r.index).serial) := by
  simp [sysFreezeBody, hclass, hpriv]

theorem sysFreezeBody_chan (hclass : unitClass r.target = 8) (hidx : r.index < 32) :
    sysFreezeBody b r s =
      .done (s.freezeChan r.index 3 0 false) (le 2 ((s.freezeChan r.index 3 0 false).chan r.index).serial) := by
  simp [sysFreezeBody, hclass, Nat.not_le.2 hidx]

theorem sysFreezeBody_sight (hslot : unitClass r.target ≠ 10) (hchan : unitClass r.target ≠ 8) :
    sysFreezeBody b r s = .done (s.freezeSight 3 0) (le 2 (s.freezeSight 3 0).net.sight.serial) := by
  simp [sysFreezeBody, hslot, hchan]

theorem sysThawBody_slot (hclass : unitClass r.target = 10) (hfrozen : (s.slot r.index).frozen = true)
    (hserial : (s.slot r.index).serial = u16 r.params 0) (hpriv : r.index ≠ s.host.privSlot ∨ 4 ≤ r.index) :
    sysThawBody b r s = .done (s.thawSlot r.index) [] := by
  have h : ¬ (r.index = s.host.privSlot ∧ r.index < 4) := by omega
  simp [sysThawBody, hclass, hfrozen, hserial, h]

theorem sysThawBody_chan (hclass : unitClass r.target = 8) (hidx : r.index < 32)
    (hfrozen : (s.chan r.index).frozen = true) (hserial : (s.chan r.index).serial = u16 r.params 0) :
    sysThawBody b r s = .done (s.thawChan r.index) [] := by
  have h : ¬ 32 ≤ r.index := by omega
  simp [sysThawBody, hclass, hfrozen, hserial, h]

theorem sysThawBody_sight (hslot : unitClass r.target ≠ 10) (hchan : unitClass r.target ≠ 8)
    (hfrozen : s.net.sight.frozen = true) (hserial : s.net.sight.serial = u16 r.params 0) :
    sysThawBody b r s = .done s.thawSight [] := by
  simp [sysThawBody, hslot, hchan, hfrozen, hserial]

theorem diagClearBody_sticky (hz : zeroAt r.params 1 3 = true) (hw : isW1c (0x4000 + u8 r.params 0) = true) :
    diagClearBody b r s = .done { s with
      sticky := s.sticky.w1c (0x4000 + u8 r.params 0) (BitVec.ofNat 32 (u32 r.params 4)) } [] := by
  simp [diagClearBody, hz, hw]

theorem diagClearBody_counter (hz : zeroAt r.params 1 3 = true) (hw : isW1c (0x4000 + u8 r.params 0) = false)
    (hrc : isRcWord (0x4000 + u8 r.params 0) = true) :
    diagClearBody b r s = .done { s with sticky := s.sticky.clearRc (0x4000 + u8 r.params 0) } [] := by
  simp [diagClearBody, hz, hw, hrc]

theorem sysRestartClusterBody_only (hkey : u32 r.params 0 = 0x9624) :
    sysRestartClusterBody b r s = .only fun s => s.clusterRestart 0x11 := by
  simp [sysRestartClusterBody, hkey]

theorem sysResetBody_only (hkey : u32 r.params 0 = 0x9624) :
    sysResetBody b r s =
      .only fun s => s.sysMod fun x => { x with resetDue := some (s.time.elapsed + milli) } := by
  simp [sysResetBody, hkey]

theorem sysFwSwitchBody_only {k : Nat} (hflags : u8 r.params 0 ≤ 1) (hz : zeroAt r.params 1 3 = true)
    (hstaged : s.sys.staged = some k) (hver : u32 r.params 4 = 0 ∨ u32 r.params 4 = Fw.version (s.bankImage k))
    (htrial : s.sys.trial = none) (hstage : s.sys.stage = none) (hload : s.loadBeforeB = false)
    (hotp : s.otp.job = none) :
    sysFwSwitchBody b r s = .only fun s => s.beginTrial k (bitOf (u8 r.params 0) 0) := by
  have hf : ¬ 1 < u8 r.params 0 := by omega
  have hv : ¬ (u32 r.params 4 ≠ 0 ∧ u32 r.params 4 ≠ Fw.version (s.bankImage k)) :=
    fun ⟨h0, hid⟩ => hver.elim h0 hid
  simp only [sysFwSwitchBody, hf, hz, hstaged, hv, htrial, hstage, hload, hotp, Option.isSome_none, Bool.or_false,
    Bool.true_eq_false, Bool.false_eq_true, or_self, if_false]

theorem safRestartBody_only (hready : s.saf.ready = true) (hkey : u32 r.params 0 = 0x9624)
    (hidle : s.saf.activeReqs = []) (hlock : s.safetyLocked r = false) :
    safRestartBody b r s =
      .only fun s => { s with sys := { s.sys with islandDue := some (s.time.elapsed + milli) } } := by
  simp [safRestartBody, whenReady, hready, hkey, hidle, hlock]

end

/-- Settles O9, by the bodies' equations above; SYS_SET_WINDOW, SYS_BIND_UDP and SYS_GPIO_CONFIG take effect at once
behind one check each. -/
theorem systemCommandsComplete : Obligations.SystemCommandsComplete :=
  ⟨finishes_atOnce fun _ _ => rfl,
    finishes_of (fun _ _ => rfl) fun _ _ _ ⟨hidx, hz, hown, hidle⟩ => sysAssignChannelBody_done hidx hz hown hidle,
    finishes_atOnce fun _ _ => rfl,
    finishes_of (fun _ _ => rfl) fun _ _ _ ⟨hclass, hpriv⟩ => sysFreezeBody_slot hclass hpriv,
    finishes_of (fun _ _ => rfl) fun _ _ _ ⟨hclass, hidx⟩ => sysFreezeBody_chan hclass hidx,
    finishes_of (fun _ _ => rfl) fun _ _ _ ⟨hslot, hchan⟩ => sysFreezeBody_sight hslot hchan,
    finishes_of (fun _ _ => rfl) fun _ _ _ ⟨hclass, hfrozen, hserial, hpriv⟩ =>
      sysThawBody_slot hclass hfrozen hserial hpriv,
    finishes_of (fun _ _ => rfl) fun _ _ _ ⟨hclass, hidx, hfrozen, hserial⟩ =>
      sysThawBody_chan hclass hidx hfrozen hserial,
    finishes_of (fun _ _ => rfl) fun _ _ _ ⟨hslot, hchan, hfrozen, hserial⟩ =>
      sysThawBody_sight hslot hchan hfrozen hserial,
    finishes_of (fun _ _ => rfl) fun _ _ _ _ => rfl,
    finishes_atOnce fun _ _ => rfl,
    finishes_of (fun _ _ => rfl) fun _ _ _ ⟨hz, hw⟩ => diagClearBody_sticky hz hw,
    finishes_of (fun _ _ => rfl) fun _ _ _ ⟨hz, hw, hrc⟩ => diagClearBody_counter hz hw hrc⟩

theorem exec_sysFwSwitch (q : Nat) (s : State) :
    exec (.sysFwSwitch q) s = commandRow "SYS_FW_SWITCH" 0x0153 sysFwSwitchBody q s := rfl

/-- Settles O10 (R83, R634; SYS_RESTART_CLUSTER is R104, SAF_RESTART is R544). The bank that SYS_FW_SWITCH begins is the
one staged as the command was judged, so its clause is not of the form `AcceptsOnly`. -/
theorem resetCommandsComplete : Obligations.ResetCommandsComplete := by
  refine ⟨acceptsOnly_of (fun _ _ => rfl) fun _ _ _ hkey => sysRestartClusterBody_only hkey,
    acceptsOnly_of (fun _ _ => rfl) fun _ _ _ hkey => sysResetBody_only hkey, ?_,
    acceptsOnly_of (fun _ _ => rfl) fun _ _ _ ⟨hready, hkey, hidle, hlock⟩ =>
      safRestartBody_only hready hkey hidle hlock⟩
  intro q k s t i r hoffer hflags hz hstaged hver htrial hstage hload hotp hm
  rw [exec_sysFwSwitch, commandRow_offer _ _ hoffer,
    sysFwSwitchBody_only hflags hz hstaged hver htrial hstage hload hotp, carryOut_only _ hm]

end Sys2Proof.Machine
end

section
/-!
PROOFS. Commands of the Almanac and the Planisphere (chapters 9 and 10).
-/
namespace Sys2Proof.Machine

section
variable {b : Bool} {r : Req} {s : State}

theorem almLoadBody_deferred (hz : zeroAt r.params 12 4 = true)
    (hpair : s.unmirrored r (u64 r.params 0) (u32 r.params 8) = false) (hbank : (s.almBank s.idleBank).state ≠ 1)
    (hswap : s.alm.swap = none) (hovl : s.programCovered = false)
    (hlong : isLong (u64 r.params 0) = false ∨ s.isReady Rdy.longStore = true) :
    almLoadBody b r s = .deferred ((s.setAlmBank s.idleBank { state := 1, image := [] }).almMod fun t =>
      { t with load := some { req := r, addr := u64 r.params 0, len := u32 r.params 8, bank := s.idleBank } }) := by
  have hstore : ¬ (isLong (u64 r.params 0) = true ∧ s.isReady Rdy.longStore = false) := by
    rcases hlong with h | h <;> simp [h]
  simp [almLoadBody, hz, hpair, hbank, hswap, hovl, hstore]

theorem almSwapBody_accepted (hz : zeroAt r.params 2 2 = true)
    (hw : u16 r.params 0 = 0 ∨ 16 ≤ u16 r.params 0 ∧ u16 r.params 0 ≤ 256) (hlock : s.locked r = false)
    (hisland : s.islandOverlay = false) (hfail : s.swapFail (u16 r.params 0) (u64 r.params 4) = none)
    (hovl : s.programCovered = false) :
    almSwapBody false r s =
      .hold true (s.scheduleSwap (some (s.numbered r).1) (s.numbered r).2 (u16 r.params 0)) := by
  have hwindow : (u16 r.params 0 != 0 && (decide (u16 r.params 0 < 16) || decide (256 < u16 r.params 0))) = false := by
    rcases hw with h | ⟨h16, h256⟩
    · simp [h]
    · simp [Nat.not_lt.2 h16, Nat.not_lt.2 h256]
  simp [almSwapBody, hz, hwindow, hlock, hisland, hfail, hovl]

theorem almSetGainBody_checked (hn1 : 1 ≤ u16 r.params 0) (hn512 : u16 r.params 0 ≤ 512)
    (hz : zeroAt r.params 2 2 = true) (hlen : r.params.length = 4 + 4 * u16 r.params 0)
    (hitems : ∀ x ∈ gainItems r.params, x.1 ≤ 16383 ∧ gainOk x.2 = true ∧
      (∀ u ∈ s.gainOwners x.1, u = 0 ∨ r.mayWrite s u = true))
    (hlock : s.locked r = false) (hisland : s.islandOverlay = false) :
    almSetGainBody b r s = if b then .done (s.putAll gainRecord writeGain r) [] else .boundary := by
  have hn : ¬ (u16 r.params 0 = 0 ∨ 512 < u16 r.params 0 ∨ zeroAt r.params 2 2 = false) := by
    rw [hz]; simp only [Bool.true_eq_false, or_false]; omega
  have hvalues : ((gainItems r.params).any fun x => decide (16383 < x.1) || !gainOk x.2) = false := by
    simp only [List.any_eq_false, Bool.or_eq_true, decide_eq_true_eq, Bool.not_eq_true', not_or, Nat.not_lt]
    exact fun x hx => ⟨(hitems x hx).1, by simp [(hitems x hx).2.1]⟩
  have howners : ((gainItems r.params).any fun x =>
      (s.gainOwners x.1).any fun u => u != 0 && !r.mayWrite s u) = false := by
    simp only [List.any_eq_false, Bool.not_eq_true]
    intro x hx u hu
    rcases (hitems x hx).2.2 u hu with h | h <;> simp [h]
  simp only [almSetGainBody, if_neg hn, hlen, ne_eq, not_true_eq_false, if_false, hvalues, howners, hlock, hisland,
    Bool.and_false, Bool.false_and, Bool.or_self, Bool.false_eq_true]

theorem almSinkFadeBody_checked (hn1 : 1 ≤ u16 r.params 0) (hn512 : u16 r.params 0 ≤ 512)
    (hramp16 : 16 ≤ u16 r.params 2) (hramp4096 : u16 r.params 2 ≤ 4096) (hon : u8 r.params 4 ≤ 1)
    (hz : zeroAt r.params 5 3 = true) (hlen : r.params.length = 8 + 2 * u16 r.params 0)
    (hsinks : ∀ a ∈ fadeSinks r.params, Node.sink a = true ∧
      (Node.objectIn a = true → inCapacity s.fab.active (0x4000 + (a - 0x9000)) = true) ∧
      (∀ u ∈ s.sinkUnits a, r.mayWrite s u = true))
    (hlock : s.locked r = false) (hisland : s.islandOverlay = false) :
    almSinkFadeBody b r s = if b then .done (s.putAll sinkFadeRecord writeSinkFade r) [] else .boundary := by
  have hhead : ¬ (u16 r.params 0 = 0 ∨ 512 < u16 r.params 0 ∨ u16 r.params 2 < 16 ∨ 4096 < u16 r.params 2 ∨
      1 < u8 r.params 4 ∨ zeroAt r.params 5 3 = false) := by
    rw [hz]; simp only [Bool.true_eq_false, or_false]; omega
  have hare : ((fadeSinks r.params).any fun a => !Node.sink a) = false := by
    simp only [List.any_eq_false, Bool.not_eq_true', Bool.not_eq_false]
    exact fun a ha => (hsinks a ha).1
  have hfit : ((fadeSinks r.params).any fun a =>
      Node.objectIn a && !inCapacity s.fab.active (0x4000 + (a - 0x9000))) = false := by
    simp only [List.any_eq_false, Bool.and_eq_true, Bool.not_eq_true', not_and, Bool.not_eq_false]
    exact fun a ha => (hsinks a ha).2.1
  have hmine : ((fadeSinks r.params).any fun a => (s.sinkUnits a).any fun u => !r.mayWrite s u) = false := by
    simp only [List.any_eq_false, Bool.not_eq_true]
    exact fun a ha u hu => by simp [(hsinks a ha).2.2 u hu]
  simp only [almSinkFadeBody, if_neg hhead, hlen, ne_eq, not_true_eq_false, if_false, hare, hfit, hmine, hlock,
    hisland, Bool.and_false, Bool.false_and, Bool.or_self, Bool.false_eq_true]

theorem objZoneSetBody_checked (hz : zeroAt r.params 1 3 = true) (hgood : zoneBad (slice r.params 4 256) = false)
    (hfeeds : ∀ f ∈ Zn.feeds (slice r.params 4 256) ++ Zn.feeds (zoneBytes s (u8 r.params 0)),
      r.mayWrite s (0x5000 + f) = true) (hlock : s.locked r = false) :
    objZoneSetBody b r s = if b then .done (s.putAll zoneRecord writeZone r) [] else .boundary := by
  have hmine : ((Zn.feeds (slice r.params 4 256) ++ Zn.feeds (zoneBytes s (u8 r.params 0))).any fun f =>
      !r.mayWrite s (0x5000 + f)) = false := by
    simp only [List.any_eq_false, Bool.not_eq_true', Bool.not_eq_false]
    exact hfeeds
  simp only [objZoneSetBody, hz, hgood, hmine, hlock, Bool.true_eq_false, Bool.false_eq_true, or_self, if_false]

theorem objMeshLoadBody_deferred (hz : zeroAt r.params 12 4 = true)
    (hpair : u32 r.params 8 = 0 ∨ s.unmirrored r (u64 r.params 0) (u32 r.params 8) = false)
    (hidle : s.obj.load = none) :
    objMeshLoadBody b r s = .deferred (s.objMod fun t =>
      { t with load := some { req := r, addr := u64 r.params 0, len := u32 r.params 8, bank := 0 } }) := by
  have hp : ¬ (u32 r.params 8 ≠ 0 ∧ s.unmirrored r (u64 r.params 0) (u32 r.params 8) = true) := by
    rcases hpair with h | h <;> simp [h]
  simp only [objMeshLoadBody, hz, if_neg hp, hidle, Option.isSome_none, Bool.true_eq_false, Bool.false_eq_true,
    if_false]

end

/-- Settles O14: ALM_SET_GAIN and ALM_SINK_FADE by their bodies' equations, the others at their boundary behind one
check each. The swap and the load are noted, for PROGRAM_SWAP and the load's own event. -/
theorem almanacCommandsComplete : Obligations.AlmanacCommandsComplete :=
  ⟨defers_of (fun _ _ => rfl) fun _ _ _ ⟨hz, hpair, hbank, hswap, hovl, hlong⟩ =>
      .inl (almLoadBody_deferred hz hpair hbank hswap hovl hlong),
    defers_of (fun _ _ => rfl) fun _ _ _ ⟨hz, hw, hlock, hisland, hfail, hovl⟩ =>
      .inr (almSwapBody_accepted hz hw hlock hisland hfail hovl),
    boundaryCommand_of_body (fun _ _ => rfl) rfl rfl fun _ _ _ ⟨hn1, hn512, hz, hlen, hitems, hlock, hisland⟩ =>
      almSetGainBody_checked hn1 hn512 hz hlen hitems hlock hisland,
    boundaryCommand_of (fun _ _ => rfl) rfl rfl,
    boundaryCommand_of_body (fun _ _ => rfl) rfl rfl
      fun _ _ _ ⟨hn1, hn512, hramp16, hramp4096, hon, hz, hlen, hsinks, hlock, hisland⟩ =>
        almSinkFadeBody_checked hn1 hn512 hramp16 hramp4096 hon hz hlen hsinks hlock hisland,
    boundaryCommand_of (fun _ _ => rfl) rfl rfl, boundaryCommand_of (fun _ _ => rfl) rfl rfl,
    boundaryCommand_of (fun _ _ => rfl) rfl rfl, boundaryCommand_of (fun _ _ => rfl) rfl rfl,
    boundaryCommand_of (fun _ _ => rfl) rfl rfl, boundaryCommand_of (fun _ _ => rfl) rfl rfl⟩

/-- Settles O15: OBJ_ZONE_SET and OBJ_MESH_LOAD by their bodies' equations, the others at their boundary behind one
check each. -/
theorem planisphereCommandsComplete : Obligations.PlanisphereCommandsComplete :=
  ⟨boundaryCommand_of (fun _ _ => rfl) rfl rfl, boundaryCommand_of (fun _ _ => rfl) rfl rfl,
    boundaryCommand_of (fun _ _ => rfl) rfl rfl, boundaryCommand_of (fun _ _ => rfl) rfl rfl,
    boundaryCommand_of (fun _ _ => rfl) rfl rfl, boundaryCommand_of (fun _ _ => rfl) rfl rfl,
    boundaryCommand_of_body (fun _ _ => rfl) rfl rfl fun _ _ _ ⟨hz, hgood, hfeeds, hlock⟩ =>
      objZoneSetBody_checked hz hgood hfeeds hlock,
    defers_of (fun _ _ => rfl) fun _ _ _ ⟨hz, hpair, hidle⟩ => .inl (objMeshLoadBody_deferred hz hpair hidle),
    boundaryCommand_of (fun _ _ => rfl) rfl rfl, boundaryCommand_of (fun _ _ => rfl) rfl rfl⟩

end Sys2Proof.Machine
end

section
/-!
PROOFS. Commands of feeds, streams, serial ports, the datum and its overlays (chapters 6 to 8, 11 and 13).
-/
namespace Sys2Proof.Machine

section
variable {b : Bool} {r : Req} {s : State}

theorem corAllocBody_empty (hgood : allocBad r s = false) (hidle : s.corBusy r = false)
    (hn : u32 r.params 4 / 32 = 0) :
    corAllocBody b r s = .done (s.setCorFeed r.index ((s.corFeed r.index).setBank (u8 r.params 0 == 1)
      { CorBank.reset with
        swaps := (if u8 r.params 0 == 1 then (s.corFeed r.index).bank1 else (s.corFeed r.index).bank0).swaps }))
      (zeros 16) := by
  simp only [corAllocBody, hgood, hidle, hn, Bool.false_eq_true, if_false, if_true]

theorem corCompactBody_deferred (h : s.cor.compact = none) :
    corCompactBody b r s = .deferred (s.corMod fun c => { c with compact := some r }) := by
  simp [corCompactBody, h]

theorem corSwapBody_other (hz : zeroAt r.params 1 3 = true) (hwant : u8 r.params 0 = 0xFF)
    (hrun : s.dat.building = false) (hidle : (s.corFeed r.index).busy = false)
    (hfit : s.swapBarred r.index (s.numbered r).2 = false) :
    corSwapBody false r s = .hold false (s.setCorFeed r.index
      { s.corFeed r.index with
        swap := some { req := some (s.numbered r).1, at_ := (s.numbered r).2, pulse := false } }) := by
  simp [corSwapBody, hz, hwant, hrun, hidle, hfit]

theorem corArmBody_armed (hz : zeroAt r.params 1 3 = true) (hline : u8 r.params 0 ≤ 63)
    (hidle : (s.corFeed r.index).busy = false) :
    corArmBody b r s = .done (s.setCorFeed r.index
      { s.corFeed r.index with arm := some (u8 r.params 0, s.genOf r.target) }) [] := by
  have hout : ¬ 63 < u8 r.params 0 := by omega
  have hoff : u8 r.params 0 ≠ 0xFF := by omega
  simp [corArmBody, hz, hout, hoff, hidle]

theorem corArmBody_disarmed (hz : zeroAt r.params 1 3 = true) (hoff : u8 r.params 0 = 0xFF) :
    corArmBody b r s = .done (s.setCorFeed r.index { s.corFeed r.index with arm := none }) [] := by
  simp [corArmBody, hz, hoff]

theorem datLoadBody_deferred (hsrc : u8 r.params 0 ≤ 1) (hz : zeroAt r.params 1 3 = true)
    (hlong : s.isReady Rdy.longStore = true) (hfield : s.isReady Rdy.fieldStore = true) (hidle : s.dat.phase = 0) :
    datLoadBody b r s =
      .deferred (s.beginLoad (some r) (u8 r.params 0) (u64 r.params 4) (u32 r.params 12)) := by
  have hs : ¬ 1 < u8 r.params 0 := by omega
  simp [datLoadBody, hs, hz, hlong, hfield, hidle]

theorem datStoreBody_deferred (hphase : s.dat.phase = 0) (hidle : s.dat.store = none) (hid : s.dat.id ≠ 0)
    (hfit : leNat (readBytes s.mem (datumSlotBase s.dat.running + 16) 4) ≤ flashDatumSize) :
    datStoreBody b r s = .deferred (s.datMod fun d => { d with store := some r }) := by
  simp [datStoreBody, hphase, hidle, hid, Nat.not_lt.2 hfit]

theorem datOvlApplyBody_boundary (h : s.applyFail r.index = none) : datOvlApplyBody b r s = .boundary := by
  simp [datOvlApplyBody, h]

theorem datOvlRemoveBody_boundary (h : s.removeFail r.index = none) : datOvlRemoveBody b r s = .boundary := by
  simp [datOvlRemoveBody, h]

theorem datStageBody_staged (hvalid : fieldInvalid s r.target r.params = false)
    (hroom : (s.stage r.slot).length < 256) :
    datStageBody b r s = .done (s.setStage r.slot (s.stage r.slot ++ [(r.target, r.params)])) [] := by
  simp [datStageBody, hvalid, Nat.not_le.2 hroom]

theorem datCommitBody_checked (hz : zeroAt r.params 2 2 = true) (hn : u16 r.params 0 = (s.stage r.slot).length)
    (hisland : s.islandCovers (s.stagePatches r.slot) = false)
    (hsafe : ∀ w ∈ s.stage r.slot, unitClass w.1 = 4 → (s.object (unitIndex w.1)).safe = false)
    (hkeys : ∀ p ∈ s.stagePatches r.slot, (s.commitStage r.slot).keyPending p.key = false) :
    datCommitBody b r s =
      if b then .done ((s.commitStage r.slot).setStage r.slot []) [] else .boundary := by
  have hobjects : ((s.stage r.slot).any fun w =>
      unitClass w.1 == 4 && (s.object (unitIndex w.1)).safe) = false := by
    simp only [List.any_eq_false, Bool.and_eq_true, beq_iff_eq, not_and, Bool.not_eq_true]
    exact hsafe
  have hcoupling : ((s.stagePatches r.slot).any fun p => (s.commitStage r.slot).keyPending p.key) = false := by
    simp only [List.any_eq_false, Bool.not_eq_true]
    exact hkeys
  simp only [datCommitBody, hz, hn, hisland, hobjects, hcoupling, ne_eq, not_true_eq_false, Bool.true_eq_false,
    Bool.false_eq_true, or_self, if_false]

theorem datOvlStoreBody_stored (hz : zeroAt r.params 12 4 = true) (hn1 : 1 ≤ u32 r.params 8)
    (hn : u32 r.params 8 ≤ 16384) (hregion : oneRegion (u64 r.params 0) (u32 r.params 8) = true)
    (hread : r.mayRead s (u64 r.params 0) (u32 r.params 8) = true)
    (hisland : 28 ≤ u32 r.params 8 →
      Ov.island (s.sourceRead r (u64 r.params 0) (min (u32 r.params 8) 16384)) = false)
    (hpair : s.unmirrored r (u64 r.params 0) (u32 r.params 8) = false) (hstore : s.isReady Rdy.longStore = true)
    (hactive : (s.ovl r.index).active = false) (hwaiting : (s.ovl r.index).waiting = false) :
    datOvlStoreBody b r s = .done { s.setOvl r.index { s.ovl r.index with stored := true } with
      mem := writeBytes s.mem (overlayBase r.index)
        (s.sourceRead r (u64 r.params 0) (min (u32 r.params 8) 16384)) } [] := by
  have hi : (decide (28 ≤ u32 r.params 8) &&
      Ov.island (s.sourceRead r (u64 r.params 0) (min (u32 r.params 8) 16384))) = false := by
    simpa using hisland
  have hlen0 : ¬ u32 r.params 8 = 0 := by omega
  have hlen : ¬ 16384 < u32 r.params 8 := by omega
  simp only [datOvlStoreBody, hz, hlen0, hlen, hregion, hread, hi, hpair, hstore, hactive, hwaiting,
    Bool.true_eq_false, Bool.false_eq_true, or_self, false_and, if_false]

end

theorem exec_corSwap (q : Nat) (s : State) : exec (.corSwap q) s = commandRow "COR_SWAP" 0x0504 corSwapBody q s := rfl

/-- Settles O16. That COR_ALLOC with T of 0 answers zeros is log 89 (DEDUCED). A COR_SWAP is noted without an interim
reply, and CORRECTION_SWAP applies it. -/
theorem correctionCommandsComplete : Obligations.CorrectionCommandsComplete := by
  refine ⟨finishes_of (fun _ _ => rfl) fun _ _ _ ⟨hgood, hidle, hn⟩ => corAllocBody_empty hgood hidle hn,
    defers_of (fun _ _ => rfl) fun _ _ _ h => .inl (corCompactBody_deferred h), ?_,
    finishes_of (fun _ _ => rfl) fun _ _ _ ⟨hz, hline, hidle⟩ => corArmBody_armed hz hline hidle,
    finishes_of (fun _ _ => rfl) fun _ _ _ ⟨hz, hoff⟩ => corArmBody_disarmed hz hoff,
    boundaryCommand_of (fun _ _ => rfl) rfl rfl, boundaryCommand_of (fun _ _ => rfl) rfl rfl,
    boundaryCommand_of (fun _ _ => rfl) rfl rfl, boundaryCommand_of (fun _ _ => rfl) rfl rfl⟩
  intro q s t i r hoffer hz hwant hrun hidle hfit hm hat
  have hatRi : r.atRi = false := by simp [(offer_facts hoffer).2.2.2, hat]
  rw [exec_corSwap, commandRow_offer _ _ hoffer, corSwapBody_other hz hwant hrun hidle hfit,
    carryOut_hold_silent _ hm hatRi]

/-- Settles O17: each applies at its boundary behind one check. SYS_FAB_SET_MARGIN is of chapter 8. -/
theorem streamCommandsComplete : Obligations.StreamCommandsComplete :=
  ⟨boundaryCommand_of (fun _ _ => rfl) rfl rfl, boundaryCommand_of (fun _ _ => rfl) rfl rfl,
    boundaryCommand_of (fun _ _ => rfl) rfl rfl, boundaryCommand_of (fun _ _ => rfl) rfl rfl,
    boundaryCommand_of (fun _ _ => rfl) rfl rfl, boundaryCommand_of (fun _ _ => rfl) rfl rfl,
    boundaryCommand_of (fun _ _ => rfl) rfl rfl, boundaryCommand_of (fun _ _ => rfl) rfl rfl,
    boundaryCommand_of (fun _ _ => rfl) rfl rfl⟩

/-- Settles O18, by the bodies' equations above; overlays wait here and are applied or removed by their own rows. -/
theorem datumCommandsComplete : Obligations.DatumCommandsComplete :=
  ⟨defers_of (fun _ _ => rfl) fun _ _ _ ⟨hsrc, hz, hlong, hfield, hidle⟩ =>
      .inl (datLoadBody_deferred hsrc hz hlong hfield hidle),
    defers_of (fun _ _ => rfl) fun _ _ _ ⟨hphase, hidle, hid, hfit⟩ =>
      .inl (datStoreBody_deferred hphase hidle hid hfit),
    waits_of (fun _ _ => rfl) fun _ _ _ h => datOvlApplyBody_boundary h,
    waits_of (fun _ _ => rfl) fun _ _ _ h => datOvlRemoveBody_boundary h,
    finishes_of (fun _ _ => rfl) fun _ _ _ ⟨hvalid, hroom⟩ => datStageBody_staged hvalid hroom,
    boundaryCommand_of_body (fun _ _ => rfl) rfl rfl fun _ _ _ ⟨hz, hn, hisland, hsafe, hkeys⟩ =>
      datCommitBody_checked hz hn hisland hsafe hkeys,
    finishes_of (fun _ _ => rfl) fun _ _ _ _ => rfl,
    finishes_of (fun _ _ => rfl)
      fun _ _ _ ⟨hz, hn1, hn, hregion, hread, hisland, hpair, hstore, hactive, hwaiting⟩ =>
        datOvlStoreBody_stored hz hn1 hn hregion hread hisland hpair hstore hactive hwaiting⟩

end Sys2Proof.Machine
end

section
/-!
PROOFS. The accepted-sequence floors of the slots, and the resets of the PCIe functions.
-/
namespace Sys2Proof.Machine

/-! ## Reads after a write, for tables in any order -/

section
variable {α : Type} [DecidableEq α] {d : α}

omit [DecidableEq α] in
theorem tget_tskip_of_lt (t : Tab α) {i j : Nat} (h : j < i) : tget d (tskip i t) j = d := by
  induction t with
  | nil => rfl
  | cons x t ih =>
    simp only [tskip]
    split
    · exact ih
    · simp only [tget]
      rw [if_neg (by omega), if_pos (by omega)]

omit [DecidableEq α] in
theorem tget_tskip_of_gt (t : Tab α) {i j : Nat} (h : i < j) : tget d (tskip i t) j = tget d t j := by
  induction t with
  | nil => rfl
  | cons x t ih =>
    simp only [tskip]
    split
    · rw [ih, tget, if_neg (by omega), if_neg (by omega)]
    · rfl

/-- A read at another key gives what it gave, whatever the order of the table. -/
theorem tget_tput_ne (t : Tab α) {i j : Nat} (v : α) (h : j ≠ i) : tget d (tput d t i v) j = tget d t j := by
  induction t with
  | nil =>
    simp only [tput]
    split
    · rfl
    · simp [tget, h]
  | cons x t ih =>
    obtain ⟨k, w⟩ := x
    simp only [tput]
    split
    · split
      · rfl
      · simp only [tget, if_neg h]
        split
        · rw [if_neg (by omega), if_pos (by omega)]
        · rfl
    · split
      · subst k
        split
        · simp only [tget, if_neg h]
          split
          · exact tget_tskip_of_lt t ‹_›
          · exact tget_tskip_of_gt t (by omega)
        · simp only [tget, if_neg h]
      · simp only [tget, ih]

end

theorem State.slot_modSlot_same (s : State) (i : Nat) (f : Slot → Slot) : (s.modSlot i f).slot i = f (s.slot i) :=
  tget_tput_same _ _ _

theorem State.slot_modSlot_ne (s : State) {i j : Nat} (f : Slot → Slot) (h : j ≠ i) :
    (s.modSlot i f).slot j = s.slot j := tget_tput_ne _ _ h

/-! ## What replies and events leave of the slots -/

/-- The waiting commands and the accepted-sequence floors of the slots (R71) stand as they were. -/
def State.sameFloors (s t : State) : Prop :=
  t.pending = s.pending ∧ ∀ j, (t.slot j).udp.floor = (s.slot j).udp.floor

theorem State.sameFloors.refl (s : State) : s.sameFloors s := ⟨rfl, fun _ => rfl⟩

theorem State.sameFloors.trans {s t u : State} (h : s.sameFloors t) (k : t.sameFloors u) : s.sameFloors u :=
  ⟨k.1.trans h.1, fun j => (k.2 j).trans (h.2 j)⟩

theorem sameFloors_of_slots {s t : State} (hp : t.pending = s.pending) (hs : t.host.slots = s.host.slots) :
    s.sameFloors t := ⟨hp, fun j => by simp only [State.slot, hs]⟩

theorem modSlot_sameFloors (s : State) (i : Nat) {f : Slot → Slot} (hf : ∀ x, (f x).udp.floor = x.udp.floor) :
    s.sameFloors (s.modSlot i f) := by
  refine ⟨rfl, fun j => ?_⟩
  by_cases h : j = i
  · rw [h, State.slot_modSlot_same, hf]
  · rw [State.slot_modSlot_ne s f h]

theorem rawQ_sameFloors (s : State) (q : Nat) (p : Option PushOp) (b : Bool) :
    s.sameFloors (s.rawQ q p b).1 := by
  unfold State.rawQ
  dsimp only
  split <;> split <;> exact sameFloors_of_slots rfl rfl

theorem rawPushCells_sameFloors (s : State) (q : Nat) (l : List (List Byte)) :
    s.sameFloors (s.rawPushCells q l) := by
  induction l generalizing s with
  | nil => exact State.sameFloors.refl s
  | cons c cs ih =>
    cases cs with
    | nil => exact rawQ_sameFloors s q _ _
    | cons d ds => exact (rawQ_sameFloors s q _ _).trans (ih _)

theorem popCells_sameFloors (s : State) (q n : Nat) (acc : List QCell) : s.sameFloors (s.popCells q n acc).1 := by
  induction n generalizing s acc with
  | zero => exact State.sameFloors.refl s
  | succ n ih =>
    unfold State.popCells
    have h := rawQ_sameFloors s q none true
    split
    · rename_i s' c heq
      rw [heq] at h
      split
      · exact h
      · exact h.trans (ih _ _)
    · rename_i s' heq
      rw [heq] at h
      exact h

theorem sendDatagram_sameFloors (s : State) (i : Nat) (e : Bool) (k : Nat) (p : List Byte) :
    s.sameFloors (s.sendDatagram i e k p) :=
  State.sameFloors.trans
    (modSlot_sameFloors s i (f := fun x => { x with udp := { x.udp with devSeq := x.udp.devSeq + 1 } }) fun _ => rfl)
    (sameFloors_of_slots rfl rfl)

theorem flushQueue_sameFloors (s : State) (i : Nat) (e : Bool) (k q n : Nat) :
    s.sameFloors (s.flushQueue i e k q n) := by
  induction n generalizing s with
  | zero => exact State.sameFloors.refl s
  | succ n ih =>
    unfold State.flushQueue
    have h : s.sameFloors (s.popPacket q).1 := popCells_sameFloors s q _ _
    split
    · rename_i s' heq
      rw [heq] at h
      exact h
    · rename_i s' p _ heq
      rw [heq] at h
      refine h.trans (State.sameFloors.trans ?_ (ih _))
      split
      · exact State.sameFloors.refl _
      · split <;> exact sendDatagram_sameFloors _ _ _ _ _

theorem offerTo_sameFloors (s : State) (e : Event) (i : Nat) : s.sameFloors (s.offerTo e i) := by
  unfold State.offerTo
  refine State.sameFloors.trans
    (modSlot_sameFloors s i (f := fun x => { x with eseq := ((s.slot i).eseq + 1) % 65536 }) fun _ => rfl) ?_
  dsimp only
  split
  · split
    · exact (rawPushCells_sameFloors _ _ _).trans (flushQueue_sameFloors _ _ _ _ _ _)
    · exact rawPushCells_sameFloors _ _ _
  · exact State.sameFloors.refl _

theorem offerAll_sameFloors (s : State) (e : Event) (l : List Nat) : s.sameFloors (s.offerAll e l) := by
  induction l generalizing s with
  | nil => exact State.sameFloors.refl s
  | cons i l ih => exact (offerTo_sameFloors s e i).trans (ih _)

theorem deliver_sameFloors (s : State) (e : Event) : s.sameFloors (s.deliver e) := by
  have hist : s.sameFloors (s.addHistory e) := by
    unfold State.addHistory
    split <;> exact sameFloors_of_slots rfl rfl
  unfold State.deliver
  split
  · exact hist.trans (offerAll_sameFloors _ _ _)
  · exact hist.trans (offerTo_sameFloors _ _ _)

theorem raise_sameFloors (s : State) (e : Event) : s.sameFloors (s.raise e) := by
  have crit : s.sameFloors (if e.sev = 4 then { s with sticky := { s.sticky with lastCrit := e.code } } else s) := by
    split <;> exact sameFloors_of_slots rfl rfl
  unfold State.raise
  generalize (if e.sev = 4 then { s with sticky := { s.sticky with lastCrit := e.code } } else s) = t at crit ⊢
  refine crit.trans ?_
  dsimp only
  split
  · exact deliver_sameFloors _ _
  · split <;> exact sameFloors_of_slots rfl rfl

theorem queueOp_sameFloors (s : State) (q : Nat) (p : Option PushOp) (b : Bool) :
    s.sameFloors (s.queueOp q p b).1 := by
  unfold State.queueOp
  dsimp only
  split
  · exact (rawQ_sameFloors s q p b).trans (raise_sameFloors _ _)
  · exact rawQ_sameFloors s q p b

theorem safMod_sameFloors (s : State) (f : SafPart → SafPart) : s.sameFloors (s.safMod f) :=
  sameFloors_of_slots rfl rfl

theorem qop_sameFloors (s : State) (q : Nat) (p : Option PushOp) (b : Bool) : s.sameFloors (s.qop q p b).1 := by
  unfold State.qop
  dsimp only
  split
  · exact (queueOp_sameFloors s q p b).trans (safMod_sameFloors _ _)
  · exact queueOp_sameFloors s q p b

theorem pushCells_sameFloors (s : State) (q : Nat) (l : List (List Byte)) : s.sameFloors (s.pushCells q l) := by
  induction l generalizing s with
  | nil => exact State.sameFloors.refl s
  | cons c cs ih =>
    cases cs with
    | nil => exact queueOp_sameFloors s q _ _
    | cons d ds => exact (queueOp_sameFloors s q _ _).trans (ih _)

theorem sendReply_sameFloors (s : State) (i k : Nat) (p : List Byte) : s.sameFloors (s.sendReply i k p) := by
  unfold State.sendReply
  dsimp only
  split
  · exact State.sameFloors.trans (pushCells_sameFloors s _ _) (flushQueue_sameFloors _ _ _ _ _ _)
  · exact pushCells_sameFloors s _ _

theorem settled_sameFloors (s : State) (r : Req) (st : Nat) : s.sameFloors ((s.settled r).noteResult r st) := by
  unfold State.noteResult
  split <;> exact sameFloors_of_slots rfl rfl

theorem accept_sameFloors (s : State) (r : Req) : s.sameFloors (s.accept r) := sameFloors_of_slots rfl rfl

/-- The final reply to a host leaves the floors of the slots alone. -/
theorem finish_sameFloors (s : State) {r : Req} (h : r.origin = .host) (st : Nat) (d : List Byte) :
    s.sameFloors (s.finish r st d) := by
  have stored : s.sameFloors (if (s.cmdQueue r.queue).order = r.order ∧ (s.cmdQueue r.queue).lastSeq.isSome then
      s.setCmdQueue r.queue { s.cmdQueue r.queue with
        stored := some (st, replyPacket r.slot r.seq r.op st r.target (s.genField r.target) d) } else s) := by
    split <;> exact sameFloors_of_slots rfl rfl
  simp only [State.finish, State.reply, h, if_true]
  generalize (if (s.cmdQueue r.queue).order = r.order ∧ (s.cmdQueue r.queue).lastSeq.isSome then
    s.setCmdQueue r.queue { s.cmdQueue r.queue with
      stored := some (st, replyPacket r.slot r.seq r.op st r.target (s.genField r.target) d) } else s) = t at stored ⊢
  refine stored.trans ?_
  split
  · exact settled_sameFloors _ r st
  · exact (settled_sameFloors _ r st).trans (sendReply_sameFloors _ _ _ _)

/-- A binding starts at floor 0, and so does a slot whose binding is cleared (R107). -/
theorem bindUdp_floor (r : Req) (s : State) : ((bindUdp r s).slot r.index).udp.floor = 0 := by
  have bound : ∀ x : UdpBinding, x.floor = 0 →
      (((s.modSlot r.index fun y => { y with udp := x }).bumpGen r.target).slot r.index).udp.floor = 0 := by
    intro x hx
    show ((s.modSlot r.index fun y => { y with udp := x }).slot r.index).udp.floor = 0
    rw [State.slot_modSlot_same]
    exact hx
  unfold bindUdp
  dsimp only
  split
  · exact bound _ rfl
  · split <;> exact bound _ rfl

theorem exec_sysBindUdp (q : Nat) (s : State) :
    exec (.sysBindUdp q) s = commandRow "SYS_BIND_UDP" 0x0107 sysBindUdpBody q s := rfl

/-- Settles O57: the binding holds floor 0 (`bindUdp_floor`), and its acceptance and reply move no floor. -/
theorem bindingResetsFloor : Obligations.BindingResetsFloor := by
  intro q s t i r hoffer hcheck hm
  obtain ⟨-, -, hhost, -⟩ := offer_facts hoffer
  have hdone : Finishes .sysBindUdp 0x0107 (passes bindCheck) bindUdp noData := finishes_atOnce fun _ _ => rfl
  refine ⟨_, hdone q s t i r hoffer hcheck hm, ?_⟩
  have hkeep := (accept_sameFloors (bindUdp r t) r).trans (finish_sameFloors _ hhost Status.ok (noData r t))
  exact (hkeep.2 r.index).trans (bindUdp_floor r t)

/-! ## Function-level resets (R68, R69) -/

theorem resetQueues_pending (l : List Nat) (s : State) : (s.resetQueues l).pending = s.pending := by
  induction l generalizing s with
  | nil => rfl
  | cons q l ih => exact (ih _).trans (qop_sameFloors s q _ _).1

theorem ownedChans_pending (i : Nat) (f : Channel → Channel) (l : List Nat) (s : State) :
    (s.ownedChans i f l).pending = s.pending := by
  induction l generalizing s with
  | nil => rfl
  | cons c l ih =>
    refine (ih _).trans ?_
    split <;> rfl

theorem thawIfPrivileged_pending (s : State) (i : Nat) : (s.thawIfPrivileged i).pending = s.pending := by
  unfold State.thawIfPrivileged
  split
  · exact ownedChans_pending _ _ _ _
  · rfl

theorem forgetSlot_pending (s : State) (i : Nat) : (s.forgetSlot i).pending = s.pending := rfl

theorem dropWaiting_pending (s : State) (i : Nat) : (s.dropWaiting i).pending = s.pending := rfl

theorem functionReset_pending (s : State) (i : Nat) : (s.functionReset i).pending = s.pending := by
  rw [State.functionReset, thawIfPrivileged_pending, dropWaiting_pending, forgetSlot_pending, resetQueues_pending]

theorem goesTo_of_pending {s t : State} (h : t.pending = s.pending) : s.goesTo t = t := by
  unfold State.goesTo
  rw [← h]

theorem exec_functionLevelReset {slot : Nat} (h : slot < 4) (s : State) :
    exec (.functionLevelReset slot) s = .next (s.functionReset slot) := by
  show ran (decide (slot < 4)) _ s _ = _
  rw [ran_next _ _ _ (decide_eq_true h), goesTo_of_pending (functionReset_pending s slot)]

theorem exec_perstNAssert (s : State) : exec .perstNAssert s =
    .next ((((s.functionReset 0).functionReset 1).functionReset 2).functionReset 3) := by
  show goOn s _ = _
  rw [goOn_next, goesTo_of_pending]
  simp only [functionReset_pending]

/-- Settles O53: a function-level reset leaves the waiting commands alone, so the row of each answers the reset state
itself, and PERST_N answers the four in turn. -/
theorem perstResetsFunctions : Obligations.PerstResetsFunctions := fun s =>
  ⟨_, _, _, _, exec_functionLevelReset (by decide) s, exec_functionLevelReset (by decide) _,
    exec_functionLevelReset (by decide) _, exec_functionLevelReset (by decide) _, exec_perstNAssert s⟩

end Sys2Proof.Machine
end

section
/-!
PROOFS. A host's accesses, its datagrams, and the pins.
-/
namespace Sys2Proof.Machine

/-! ## Apertures and registers (R61-R63, R99) -/

section
variable {s : State} {i off q : Nat}

theorem State.cellWrite_push {d : List Byte} (hq : pushAperture i off = some q) (hal : off % 64 = 0)
    (hlen : d.length = 64) : s.cellWrite i off d = (s.qop q (some (.push d)) false).1 := by
  have hoff : ¬ off < 0x8000 := by
    intro h
    simp [pushAperture, Nat.not_le.2 h] at hq
  simp [State.cellWrite, hoff, hq, hal, hlen]

theorem State.cellRead_pop (hq : popAperture i off = some q) (hal : off % 64 = 0) :
    s.cellRead i off 64 =
      (s.qop q none true).1.setRead i (((s.qop q none true).2.map (·.data)).getD (zeros 64)) := by
  have hoff : ¬ off < 0x8000 := by
    intro h
    have h1 : ¬ 0xA000 ≤ off := by omega
    have h2 : ¬ 0xC000 ≤ off := by omega
    simp [popAperture, h1, h2] at hq
  simp [State.cellRead, hoff, hq, hal]

theorem State.regRead_window (h : off < 0x8000) :
    s.regRead i off = (s.clearRc off).setRead i (le 4 (readReg s i off)) := by
  simp [State.regRead, h]

theorem State.regWrite_window (v : Nat) (h : off < 0x8000) : s.regWrite i off v = s.writeReg i off v := by
  simp [State.regWrite, Nat.not_le.2 h]

/-- A write to the DOORBELL of a queue that the slot owns (Table 3-4). -/
theorem State.regWrite_doorbell (v : Nat) (hq : q < 256) (hf : (s.slot i).frozen = false)
    (hown : s.ownsQueue i q = true) : s.regWrite i (0x1004 + 16 * q) v = s.doorbell i q v := by
  have hsnap : ¬ 0x1004 + 16 * q = 0x0100 := by omega
  have hidx : (0x1004 + 16 * q - 0x1000) / 16 = q := by omega
  have hwin : (0x1004 + 16 * q) % 4 = 0 ∧ 0x1000 ≤ 0x1004 + 16 * q ∧ 0x1004 + 16 * q < 0x2000 := by omega
  have hbell : (0x1004 + 16 * q) % 16 = 4 := by omega
  rw [State.regWrite_window v (by omega), State.writeReg, hf, if_neg (by simp), if_neg hsnap, hidx,
    if_pos ⟨hwin.1, hwin.2.1, hwin.2.2, hown⟩, if_pos hbell]

theorem State.regWrite_take (hf : (s.slot i).frozen = false) : s.regWrite i 0x0100 1 = s.takeSnapshot i := by
  rw [State.regWrite_window 1 (by decide), State.writeReg, hf, if_neg (by simp), if_pos rfl, if_pos (by decide)]

/-- A write to a register of a channel that the slot owns. -/
theorem State.regWrite_channel {c o : Nat} (v : Nat) (hc : c < 32) (ho : o < 32) (hal : o % 4 = 0)
    (hf : (s.slot i).frozen = false) (hown : (s.chan c).owner = i) :
    s.regWrite i (0x2000 + 32 * c + o) v = s.modChan c fun x => x.write o v := by
  have hidx : (0x2000 + 32 * c + o - 0x2000) / 32 = c := by omega
  have hreg : (0x2000 + 32 * c + o) % 32 = o := by omega
  rw [State.regWrite_window v (by omega), State.writeReg, hf, if_neg (by simp), if_neg (by omega),
    if_neg (by omega), hidx, hreg, if_pos ⟨by omega, by omega, by omega, hown⟩]

/-- The privileged slot's write of ones to a sticky word (R630). -/
theorem State.regWrite_sticky (v : Word) (hlow : 0x4000 ≤ off) (hhigh : off < 0x4100) (hal : off % 4 = 0)
    (hf : (s.slot i).frozen = false) (hpriv : i = s.host.privSlot) :
    s.regWrite i off v.toNat = { s with sticky := s.sticky.w1c off v } := by
  rw [State.regWrite_window _ (by omega), State.writeReg, hf, if_neg (by simp), if_neg (by omega),
    if_neg (by omega), if_neg (by omega), if_pos ⟨hal, hlow, hhigh, hpriv⟩, BitVec.ofNat_toNat, BitVec.setWidth_eq]

theorem State.doorbell_commit (h : s.produces i q = true) : s.doorbell i q 1 = (s.qop q (some .commit) false).1 := by
  simp [State.doorbell, h]

theorem State.doorbell_abort (h : s.produces i q = true) : s.doorbell i q 2 = (s.qop q (some .abort) false).1 := by
  simp [State.doorbell, h]

theorem State.doorbell_reset : s.doorbell i q 3 = (s.qop q (some .reset) false).1 := rfl

end

/-- Settles O23: each access is one write or read of the slot's window or apertures, whose equation stands above. -/
theorem portAccessesComplete : Obligations.PortAccessesComplete := by
  refine ⟨?push, ?pop, ?commit, ?abort, ?reset, ?take, ?rc, ?sticky, ?chan, ?flr, fun _ => rfl⟩
  case push =>
    intro slot off q d s hslot hoff hq hal hlen
    exact (ran_next _ _ _ (by simp [hslot, hoff])).trans (by rw [State.cellWrite_push hq hal hlen])
  case pop =>
    intro slot off q s hslot hoff hq hal
    exact (ran_next _ _ _ (by simp [hslot, hoff])).trans (by rw [State.cellRead_pop hq hal])
  case commit =>
    intro slot q s hslot hq hf hown hprod
    exact (ran_next _ _ _ (by simp [hslot, hq])).trans
      (by rw [State.regWrite_doorbell 1 hq hf hown, State.doorbell_commit hprod])
  case abort =>
    intro slot q s hslot hq hf hown hprod
    exact (ran_next _ _ _ (by simp [hslot, hq])).trans
      (by rw [State.regWrite_doorbell 2 hq hf hown, State.doorbell_abort hprod])
  case reset =>
    intro slot q s hslot hq hf hown
    exact (ran_next _ _ _ (by simp [hslot, hq])).trans
      (by rw [State.regWrite_doorbell 3 hq hf hown, State.doorbell_reset])
  case take =>
    intro slot s hslot hf
    exact (ran_next _ _ _ (by simp [hslot])).trans (by rw [State.regWrite_take hf])
  case rc =>
    intro slot off s hslot hoff
    exact (ran_next _ _ _ (by simp only [Bool.and_eq_true, decide_eq_true_eq]; omega)).trans
      (by rw [State.regRead_window hoff])
  case sticky =>
    intro slot off v s hslot hpriv hf hlow hhigh hal
    exact (ran_next _ _ _ (by simp only [Bool.and_eq_true, decide_eq_true_eq]; omega)).trans
      (by rw [State.regWrite_sticky v hlow hhigh hal hf hpriv])
  case chan =>
    intro slot c o v s hslot hc ho hal hf hown
    exact (ran_next _ _ _ (by simp only [Bool.and_eq_true, decide_eq_true_eq]; omega)).trans
      (by rw [State.regWrite_channel v.toNat hc ho hal hf hown])
  case flr =>
    intro slot s hslot
    exact ran_next _ _ _ (decide_eq_true hslot)

/-! ## Datagrams and pins (R70-R75, R114) -/

theorem State.authDatagram_delivers {s : State} {i sport : Nat} {d : List Byte} (hver : u8 d 0 = 1) (hq : u8 d 1 < 4)
    (hz : u16 d 2 = 0) (hboot : u32 d 8 = s.host.bootCount) (hseq : (s.slot i).udp.floor < u32 d 4) :
    s.authDatagram i sport d =
      (s.modSlot i fun x => { x with udp := { x.udp with floor := u32 d 4, lastPort := sport } }).pushPacket
        (4 * i + u8 d 1) ((d.take (d.length - 32)).drop 12) := by
  simp only [State.authDatagram, hver, Nat.not_le.2 hq, hz, hboot, Nat.not_le.2 hseq, ne_eq, not_true_eq_false,
    or_self, if_false]

theorem State.datagram_authentic {s : State} {ipver sport i : Nat} {addr d : List Byte}
    (hslot : s.udpSlot ipver addr sport = some i) (hf : (s.slot i).frozen = false) (hlen : 44 ≤ d.length)
    (htag : d.drop (d.length - 32) = hmacSha256 (s.slot i).udp.key (d.take (d.length - 32))) :
    s.datagram ipver addr sport false d = s.authDatagram i sport d := by
  simp only [State.datagram, hslot, hf, Nat.not_lt.2 hlen, htag, ne_eq, not_true_eq_false, or_self, Bool.false_and,
    Bool.false_eq_true, if_false]

/-- Settles O24. The HMAC is that of RFC 2104 (log 4). -/
theorem datagramCompletes : Obligations.DatagramCompletes := by
  intro ipver addr sport i d s hslot hf hlen htag hver hq hz hboot hseq
  show goOn s (s.datagram ipver addr sport false d) = _
  rw [goOn_next, State.datagram_authentic hslot hf hlen htag, State.authDatagram_delivers hver hq hz hboot hseq]

theorem State.levelTaken_edge {s : State} {p : Nat} {high : Bool} (hmode : (s.pin p).mode = 1)
    (hprimed : (s.pin p).primed = true) (htaken : (s.pin p).taken = !high) :
    s.levelTaken p high = s.setPin p
      { s.pin p with taken := high, edges := satAdd 0xFFFFFFFF (s.pin p).edges 1 } := by
  have hedge : ¬ (!high) = high := by cases high <;> simp
  simp [State.levelTaken, hmode, hprimed, htaken, hedge]

theorem State.fenceTaken_unfenced {s : State} (p : Nat) (high : Bool) (h : s.pair.fenced = false) :
    s.fenceTaken p high = s := by
  simp [State.fenceTaken, h]

theorem State.pulseEnds_due {s : State} {p t : Nat} (hmode : (s.pin p).mode = 3)
    (hend : (s.pin p).pulseEnd = some t) (hdue : t ≤ s.time.elapsed) :
    s.pulseEnds p = s.setPin p { s.pin p with out := false, pulseEnd := none } := by
  simp [State.pulseEnds, hmode, hend, hdue]

/-- Settles O25: a mode-1 pin takes the edge and pulses no line, and no fence is configured. -/
theorem pinsComplete : Obligations.PinsComplete := by
  constructor
  · intro pin high s hpin hmode hprimed htaken hfence
    refine (ran_next _ _ _ (decide_eq_true hpin)).trans ?_
    rw [State.levelTaken_edge hmode hprimed htaken, State.fenceTaken_unfenced]
    exact hfence
  · intro pin t s hpin hmode hend hdue
    exact (ran_next _ _ _ (decide_eq_true hpin)).trans (by rw [State.pulseEnds_due hmode hend hdue])

end Sys2Proof.Machine
end

section
/-!
PROOFS. Commands that have waited, and the cells of a packet.
-/
namespace Sys2Proof.Machine

/-! ## Commands that have waited (R86, R88, R90) -/

theorem State.takeCommand_release {s : State} {q n : Nat} (b : Body) (htakes : s.takesCommands (q / 4) = true)
    (horder : (s.dropMarkers q 2).waitingOrder q = some n) (hcells : ((s.dropMarkers q 2).headPacket q).length ≠ 0)
    (hopen : (s.dropMarkers q 2).earlierOpen (q / 4) n = false) :
    s.takeCommand q (u16 ((s.dropMarkers q 2).headBytes q) 4) b true = (s.dropMarkers q 2).popAndJudge q n b := by
  simp [State.takeCommand, htakes, horder, hcells, hopen]

theorem State.releaseOrdered_body {s : State} {q n : Nat} {b : Body} (hwait : s.waitingOrder q = some n)
    (hop : bodyOf (u16 ((s.dropMarkers q 2).headBytes q) 4) = some b) :
    s.releaseOrdered q = s.takeCommand q (u16 ((s.dropMarkers q 2).headBytes q) 4) b true := by
  simp [State.releaseOrdered, hwait, hop]

theorem State.applyEach_single {s : State} {p : Pending} (h : p.isOverlay = false) :
    s.applyEach [p] = s.applyPending p := by
  simp [State.applyEach, h]

theorem State.applyPending_body {s : State} {p : Pending} {b : Body}
    (hgen : p.req.gen = 0 ∨ p.req.gen = (s.dropPending p).genOf p.req.target) (hop : bodyOf p.req.op = some b) :
    s.applyPending p = (s.dropPending p).settle p.req p.acked (b true p.req (s.dropPending p)) := by
  have h : ¬ (p.req.gen ≠ 0 ∧ p.req.gen ≠ (s.dropPending p).genOf p.req.target) :=
    fun ⟨h0, hid⟩ => hgen.elim h0 hid
  simp only [State.applyPending, if_neg h, hop]

theorem State.applyPending_stale {s : State} {p : Pending} (h0 : p.req.gen ≠ 0)
    (hgen : p.req.gen ≠ (s.dropPending p).genOf p.req.target) :
    s.applyPending p = (s.dropPending p).finish p.req Status.staleRole [] := by
  simp only [State.applyPending, if_pos (And.intro h0 hgen)]

/-- PENDING_COMMAND_APPLY with one command due. -/
theorem exec_pendingCommandApply_single {s : State} {p : Pending} (hrun : s.sys.running = true)
    (hdue : s.dueCommands = [p]) (hov : p.isOverlay = false) :
    exec .pendingCommandApply s = .next (s.goesTo (s.applyPending p)) := by
  show goOn s (if s.sys.running then s.applyEach s.dueCommands else s) = _
  rw [goOn_next, if_pos hrun, hdue, State.applyEach_single hov]

/-- Settles O38: the released packet is judged under the order it waited with, and a command due is judged again once
its generation has been. -/
theorem waitingCommandsComplete : Obligations.WaitingCommandsComplete := by
  refine ⟨?released, ?applied, ?stale⟩
  case released =>
    intro q n b s u hq htakes hwait horder hcells hop hopen
    refine (ran_next _ _ _ (decide_eq_true hq)).trans ?_
    rw [State.releaseOrdered_body hwait hop, State.takeCommand_release b htakes horder hcells hopen]
  case applied =>
    intro p b s hrun hdue hov hgen hop
    rw [exec_pendingCommandApply_single hrun hdue hov, State.applyPending_body hgen hop]
  case stale =>
    intro p s hrun hdue hov h0 hgen
    rw [exec_pendingCommandApply_single hrun hdue hov, State.applyPending_stale h0 hgen]

/-! ## Cells of a packet (R78) -/

theorem take_take_append (p pad : List Byte) {n m : Nat} (hm : m ≤ n) (hn : n ≤ p.length) :
    (p.take n ++ pad).take m = p.take m := by
  rw [List.take_append_of_le_length (by simp; omega), List.take_take, Nat.min_eq_left hm]

/-- A field that lies within the bytes kept reads as it did. -/
theorem un_take_append (p pad : List Byte) {w o n : Nat} (ho : o + w ≤ n) (hn : n ≤ p.length) :
    un w (p.take n ++ pad) o = un w p o := by
  have hs : ∀ l : List Byte, slice l o w = (l.take (o + w)).drop o := fun l => by
    rw [slice, List.drop_take, Nat.add_sub_cancel_left]
  simp only [un, hs, take_take_append p pad ho hn]

theorem packetCheck_badLength {p : List Byte} {cells : Nat} (h : (20 + u16 p 12 + 63) / 64 ≠ cells) :
    packetCheck p cells = some Status.badLength := by
  simp [packetCheck, h]

/-- Settles O54: the checks read the length field, the trailer and the bytes before it, all within 20 + P bytes. -/
theorem packetCells : Obligations.PacketCells := by
  refine fun p cells _ => ⟨fun hcells => packetCheck_badLength ?_, fun pad hlen => ?_⟩
  · have hceil : (20 + u16 p 12 + 63) / 64 = (20 + u16 p 12) / 64 + (if (20 + u16 p 12) % 64 = 0 then 0 else 1) := by
      split <;> omega
    exact fun h => hcells (h ▸ hceil)
  · have hlenField : u16 (p.take (20 + u16 p 12) ++ pad) 12 = u16 p 12 := un_take_append p pad (by omega) hlen
    have hcrc : u32 (p.take (20 + u16 p 12) ++ pad) (16 + u16 p 12) = u32 p (16 + u16 p 12) :=
      un_take_append p pad (by omega) hlen
    have hbytes : (p.take (20 + u16 p 12) ++ pad).take (16 + u16 p 12) = p.take (16 + u16 p 12) :=
      take_take_append p pad (by omega) hlen
    simp only [packetCheck, hlenField, hcrc, hbytes]

end Sys2Proof.Machine
end

section
/-!
PROOFS. One cycle of a hardware queue: what each of its operations does to the banks and to the open packet, and that
it keeps them in order.
-/
namespace Sys2Proof.Machine

/-! ## The two banks -/

section
variable (x : Queue) (b : Bool) (v : Bank)

@[simp] theorem Queue.bank_setBank_same : (x.setBank b v).bank b = v := by cases b <;> rfl

@[simp] theorem Queue.bank_setBank_not : (x.setBank b v).bank (!b) = x.bank (!b) := by cases b <;> rfl

@[simp] theorem Queue.setBank_fill1 : (x.setBank b v).fill1 = x.fill1 := by cases b <;> rfl

@[simp] theorem Queue.setBank_openAt : (x.setBank b v).openAt = x.openAt := by cases b <;> rfl

@[simp] theorem bankCells_setBank (q : Nat) : bankCells q (x.setBank b v) = bankCells q x := by cases b <;> rfl

@[simp] theorem Queue.setBank_drain : (x.setBank b v).drain = x.drain := by simp [Queue.drain]

theorem Queue.fill1_eq_not_drain : x.fill1 = !x.drain := (Bool.not_not _).symm

theorem Queue.eq_drain_or_not : b = x.drain ∨ b = !x.drain :=
  (Decidable.em (b = x.drain)).imp_right Bool.eq_not.2

@[simp] theorem Queue.bank_setBank_drain_fill : (x.setBank x.drain v).bank x.fill1 = x.bank x.fill1 := by
  rw [Queue.fill1_eq_not_drain]
  exact Queue.bank_setBank_not x x.drain v

end

/-! ## Banks in order (R117-R119) -/

theorem Bank.sound_iff {n : Nat} {b : Bank} :
    b.sound n = true ↔ b.read ≤ b.commit ∧ b.commit ≤ b.cells.length ∧ b.cells.length ≤ n - 1 ∧
      (b.markerPopped = true → b.marker.isSome = true) := by
  cases hp : b.markerPopped <;> simp [Bank.sound, hp, and_assoc]

/-- A bank in order in which no packet is open. -/
def Bank.Closed (n : Nat) (b : Bank) : Prop := b.sound n = true ∧ b.commit = b.cells.length

/-- A bank in order whose cells from `start` on are the open packet. -/
def Bank.Opened (n start : Nat) (b : Bank) : Prop :=
  b.sound n = true ∧ start = b.commit ∧ start < b.cells.length ∧ b.marker = none

/-- A bank that nothing was written to. -/
def Bank.Blank (b : Bank) : Prop := b.cells = [] ∧ b.marker = none

theorem Bank.empty_closed (n : Nat) : Bank.empty.Closed n := by simp [Bank.Closed, Bank.sound_iff, Bank.empty]

theorem Bank.empty_blank : Bank.empty.Blank := ⟨rfl, rfl⟩

theorem Bank.Blank.cellsLeft {n : Nat} {b : Bank} (h : b.Blank) (hs : b.sound n = true) : b.cellsLeft = 0 := by
  obtain ⟨hcells, hmark⟩ := h
  obtain ⟨-, hk, -, -⟩ := Bank.sound_iff.1 hs
  rw [hcells, List.length_nil] at hk
  simp [Bank.cellsLeft, Bank.markerWaiting, hmark, b2n, Nat.le_zero.1 hk]

theorem Bank.Closed.withMarker {n : Nat} {b : Bank} (h : b.Closed n) (m : Marker) (p : Bool) :
    { b with marker := some m, markerPopped := p }.Closed n := by
  obtain ⟨hs, hc⟩ := h
  obtain ⟨hr, hk, hn, -⟩ := Bank.sound_iff.1 hs
  exact ⟨Bank.sound_iff.2 ⟨hr, hk, hn, fun _ => rfl⟩, hc⟩

theorem Bank.Opened.rewound {n start : Nat} {b : Bank} (h : b.Opened n start) :
    { b with cells := b.cells.take start }.Closed n := by
  obtain ⟨hs, rfl, -, -⟩ := h
  obtain ⟨hr, hk, hn, hm⟩ := Bank.sound_iff.1 hs
  have hlen : (b.cells.take b.commit).length = b.commit := List.length_take_of_le hk
  exact ⟨Bank.sound_iff.2 ⟨hr, Nat.le_of_eq hlen.symm, by simp only [hlen]; omega, hm⟩, hlen.symm⟩

@[simp] theorem markLast_length (l : List QCell) : (markLast l).length = l.length := by
  induction l using markLast.induct with
  | case1 | case2 => rfl
  | case3 c d cs ih => simp [markLast, ih]

theorem Bank.Opened.committed {n start : Nat} {b : Bank} (h : b.Opened n start) :
    { b with cells := markLast b.cells, commit := b.cells.length }.Closed n := by
  obtain ⟨hr, hk, hn, hm⟩ := Bank.sound_iff.1 h.1
  have hlen : (markLast b.cells).length = b.cells.length := markLast_length _
  exact ⟨Bank.sound_iff.2 ⟨Nat.le_trans hr hk, Nat.le_of_eq hlen.symm, by simpa only [hlen] using hn, hm⟩, hlen.symm⟩

/-- A cell written where a data cell is free keeps the pointers in order. -/
theorem Bank.sound_write {n : Nat} {b : Bank} (h : b.sound n = true) (hfree : b.cells.length < n - 1) (c : QCell) :
    { b with cells := b.cells ++ [c] }.sound n = true := by
  obtain ⟨hr, hk, -, hm⟩ := Bank.sound_iff.1 h
  exact Bank.sound_iff.2 ⟨hr, by simp; omega, by simp; omega, hm⟩

theorem Bank.Closed.opens {n : Nat} {b : Bank} (h : b.Closed n) (hmark : b.marker = none)
    (hfree : b.cells.length < n - 1) (c : QCell) :
    { b with cells := b.cells ++ [c] }.Opened n b.cells.length :=
  ⟨Bank.sound_write h.1 hfree c, h.2.symm, by simp, hmark⟩

theorem Bank.Opened.extends {n start : Nat} {b : Bank} (h : b.Opened n start) (hfree : b.cells.length < n - 1)
    (c : QCell) : { b with cells := b.cells ++ [c] }.Opened n start := by
  obtain ⟨hs, hstart, hlt, hmark⟩ := h
  exact ⟨Bank.sound_write hs hfree c, hstart, by simp; omega, hmark⟩

/-! ## Queues in order -/

/-- A queue in order but for the swap that its cycle ends with: its banks, and its open packet where it has one. -/
def Queue.Ordered (q : Nat) (x : Queue) : Prop :=
  match x.openAt with
  | none => ∀ b, (x.bank b).Closed (bankCells q x)
  | some (b, start) => (x.bank b).Opened (bankCells q x) start ∧ (x.bank !b).Closed (bankCells q x) ∧
      (b = x.fill1 ∨ (x.bank x.fill1).Blank)

section
variable {q start : Nat} {x : Queue} {b : Bool}

theorem Queue.ordered_none_iff (h : x.openAt = none) :
    x.Ordered q ↔ ∀ b, (x.bank b).Closed (bankCells q x) := by
  simp [Queue.Ordered, h]

theorem Queue.ordered_some_iff (h : x.openAt = some (b, start)) :
    x.Ordered q ↔ (x.bank b).Opened (bankCells q x) start ∧ (x.bank !b).Closed (bankCells q x) ∧
      (b = x.fill1 ∨ (x.bank x.fill1).Blank) := by
  simp [Queue.Ordered, h]

/-- Soundness is order, and the swap made wherever it is due (R129). -/
theorem Queue.sound_iff :
    x.sound q = true ↔ x.Ordered q ∧ ((x.bank x.drain).cellsLeft ≠ 0 ∨ (x.bank x.fill1).cellsLeft = 0) := by
  cases ho : x.openAt with
  | none =>
    simp only [Queue.sound, ho, Queue.ordered_none_iff ho, Bool.forall_bool, Bank.Closed, Queue.bank, Bool.and_eq_true,
      Bool.or_eq_true, decide_eq_true_eq]
    grind
  | some p =>
    obtain ⟨b, start⟩ := p
    simp only [Queue.sound, ho, Queue.ordered_some_iff ho, Bank.Opened, Bank.Closed, Bank.Blank, Bool.and_eq_true,
      Bool.or_eq_true, decide_eq_true_eq, beq_iff_eq, List.isEmpty_iff, Option.isNone_iff_eq_none]
    cases b <;> simp [Queue.bank] <;> grind

theorem Queue.Ordered.banks_closed (h : x.Ordered q) (ho : x.openAt = none) (b : Bool) :
    (x.bank b).Closed (bankCells q x) := (ordered_none_iff ho).1 h b

theorem Queue.Ordered.bank_sound (h : x.Ordered q) : ∀ b, (x.bank b).sound (bankCells q x) = true := by
  cases ho : x.openAt with
  | none => exact fun b => (h.banks_closed ho b).1
  | some p =>
    obtain ⟨b, start⟩ := p
    obtain ⟨⟨hopen, -⟩, ⟨hother, -⟩, -⟩ := (ordered_some_iff ho).1 h
    exact (Bool.forall_bool' b).2 ⟨hopen, hother⟩

end

/-! ## What each operation keeps -/

section
variable {q : Nat} {x : Queue}

@[simp] theorem Queue.rewind_openAt (x : Queue) : x.rewind.openAt = none := by
  unfold Queue.rewind
  split
  · rfl
  · assumption

@[simp] theorem Queue.commitOpen_openAt (x : Queue) : x.commitOpen.openAt = none := by
  unfold Queue.commitOpen
  split
  · rfl
  · assumption

theorem Queue.rewind_of_closed (h : x.openAt = none) : x.rewind = x := by simp [Queue.rewind, h]

theorem Queue.commitOpen_of_closed (h : x.openAt = none) : x.commitOpen = x := by simp [Queue.commitOpen, h]

theorem Queue.rewind_of_open {b : Bool} {start : Nat} (h : x.openAt = some (b, start)) :
    x.rewind = { x.setBank b { x.bank b with cells := (x.bank b).cells.take start } with openAt := none } := by
  simp [Queue.rewind, h]

theorem Queue.commitOpen_of_open {b : Bool} {start : Nat} (h : x.openAt = some (b, start)) :
    x.commitOpen = { x.setBank b { x.bank b with
      cells := markLast (x.bank b).cells, commit := (x.bank b).cells.length } with
        openAt := none, openMark := none } := by
  simp [Queue.commitOpen, h]

theorem Queue.Ordered.setBank_closed {b : Bool} {v : Bank} (ho : x.openAt = none) (hv : v.Closed (bankCells q x))
    (hother : (x.bank !b).Closed (bankCells q x)) : (x.setBank b v).Ordered q :=
  (Queue.ordered_none_iff (by simpa using ho)).2 ((Bool.forall_bool' b).2 ⟨by simpa using hv, by simpa using hother⟩)

/-- Both ends of a packet, its commit and its rewind, put a closed bank in the place of the one that held it. -/
theorem Queue.Ordered.close {b : Bool} {v : Bank} {m : Option Bool} (hv : v.Closed (bankCells q x))
    (hother : (x.bank !b).Closed (bankCells q x)) :
    { x.setBank b v with openAt := none, openMark := m }.Ordered q := by
  have h : ({ x with openAt := none }.setBank b v).Ordered q := setBank_closed rfl hv (by cases b <;> exact hother)
  cases b <;> exact h

theorem Queue.Ordered.rewind (h : x.Ordered q) : x.rewind.Ordered q := by
  cases ho : x.openAt with
  | none => rwa [Queue.rewind_of_closed ho]
  | some p =>
    obtain ⟨b, start⟩ := p
    obtain ⟨hopen, hother, -⟩ := (ordered_some_iff ho).1 h
    rw [Queue.rewind_of_open ho]
    exact Ordered.close hopen.rewound hother

theorem Queue.Ordered.commitOpen (h : x.Ordered q) : x.commitOpen.Ordered q := by
  cases ho : x.openAt with
  | none => rwa [Queue.commitOpen_of_closed ho]
  | some p =>
    obtain ⟨b, start⟩ := p
    obtain ⟨hopen, hother, -⟩ := (ordered_some_iff ho).1 h
    rw [Queue.commitOpen_of_open ho]
    exact Ordered.close hopen.committed hother

/-- A dropped packet is recorded when none is open, and alters the marker of one bank at most (R136). -/
theorem Queue.Ordered.recordDrop (h : x.Ordered q) (ho : x.openAt = none) (pb : Bool) (n sec ns : Nat) :
    (x.recordDrop pb n sec ns).Ordered q := by
  have hbank := h.banks_closed ho
  unfold Queue.recordDrop
  split
  · dsimp only
    split
    · exact setBank_closed ho ((hbank _).withMarker _ _) (hbank _)
    · exact h
  · exact setBank_closed (x := x) ho ((hbank pb).withMarker _ _) (hbank !pb)

/-- The write of an accepted push, its packet still open (R119, R126). -/
def Queue.writeCell (x : Queue) (c : List Byte) : Queue :=
  let v := x.bank x.pushBank
  { x.setBank x.pushBank { v with
      cells := v.cells ++ [{ data := c, first := x.openAt.isNone, last := false }] } with
    openAt := some (x.openAt.getD (x.pushBank, v.cells.length)) }

@[simp] theorem Queue.bank_writeCell_same (x : Queue) (c : List Byte) :
    (x.writeCell c).bank x.pushBank = { x.bank x.pushBank with
      cells := (x.bank x.pushBank).cells ++ [{ data := c, first := x.openAt.isNone, last := false }] } :=
  bank_setBank_same x _ _

@[simp] theorem Queue.bank_writeCell_not (x : Queue) (c : List Byte) :
    (x.writeCell c).bank (!x.pushBank) = x.bank (!x.pushBank) := bank_setBank_not x _ _

@[simp] theorem Queue.writeCell_fill1 (x : Queue) (c : List Byte) : (x.writeCell c).fill1 = x.fill1 :=
  setBank_fill1 x _ _

@[simp] theorem bankCells_writeCell (x : Queue) (c : List Byte) (q : Nat) :
    bankCells q (x.writeCell c) = bankCells q x := bankCells_setBank x _ _ q

theorem Queue.writeCell_openAt (x : Queue) (c : List Byte) :
    (x.writeCell c).openAt = some (x.openAt.getD (x.pushBank, (x.bank x.pushBank).cells.length)) := rfl

theorem Queue.pushCell_accepted {c : List Byte} {close : Bool} {sec ns : Nat} (hd : x.discarding = false)
    (hlen : x.openLen < bankCells q x - 2) (hseal : (x.bank x.pushBank).sealed = false)
    (hfree : (x.bank x.pushBank).cells.length < bankCells q x - 1) :
    x.pushCell q c close sec ns = if close then (x.writeCell c).commitOpen else x.writeCell c :=
  (if_neg (by simp [hd])).trans ((if_neg (Nat.not_le_of_lt hlen)).trans (if_neg (by simp [hseal]; omega)))

theorem Queue.pushBank_of_closed (h : x.openAt = none) : x.pushBank = x.fill1 := by simp [Queue.pushBank, h]

theorem Queue.pushBank_of_open {b : Bool} {start : Nat} (h : x.openAt = some (b, start)) : x.pushBank = b := by
  simp [Queue.pushBank, h]

/-- A write opens a packet in the fill bank, or extends the one that is open. -/
theorem Queue.Ordered.writeCell (h : x.Ordered q) (hseal : (x.bank x.pushBank).sealed = false)
    (hfree : (x.bank x.pushBank).cells.length < bankCells q x - 1) (c : List Byte) : (x.writeCell c).Ordered q := by
  have hmark : (x.bank x.pushBank).marker = none := by simpa [Bank.sealed] using hseal
  cases ho : x.openAt with
  | none =>
    have hopened := (h.banks_closed ho x.pushBank).opens hmark hfree
      { data := c, first := x.openAt.isNone, last := false }
    refine (ordered_some_iff (by rw [writeCell_openAt, ho])).2 ⟨?_, ?_, .inl ?_⟩
    · simpa using hopened
    · simpa using h.banks_closed ho _
    · simpa using pushBank_of_closed ho
  | some p =>
    obtain ⟨b, start⟩ := p
    obtain ⟨hopen, hother, hcarried⟩ := (ordered_some_iff ho).1 h
    obtain rfl : x.pushBank = b := pushBank_of_open ho
    have hopened := hopen.extends hfree { data := c, first := x.openAt.isNone, last := false }
    refine (ordered_some_iff (by rw [writeCell_openAt, ho])).2 ⟨?_, ?_, ?_⟩
    · simpa using hopened
    · simpa using hother
    · by_cases hfill : x.pushBank = x.fill1
      · exact .inl (by simpa using hfill)
      · have hnot : x.fill1 = !x.pushBank := Bool.eq_not.2 (Ne.symm hfill)
        have hblank := hcarried.resolve_left hfill
        rw [hnot] at hblank
        exact .inr (by simpa [hnot] using hblank)

theorem Queue.Ordered.pushCell (h : x.Ordered q) (c : List Byte) (close : Bool) (sec ns : Nat) :
    (x.pushCell q c close sec ns).Ordered q := by
  unfold Queue.pushCell
  dsimp only
  split
  · exact h
  split
  · exact h.rewind
  split
  · exact h.rewind.recordDrop (rewind_openAt x) _ _ _ _
  next hfree =>
    obtain ⟨hseal, hroom⟩ : (x.bank x.pushBank).sealed = false ∧
        (x.bank x.pushBank).cells.length < bankCells q x - 1 := by
      simpa only [Bool.or_eq_true, decide_eq_true_eq, not_or, Bool.not_eq_true, Nat.not_le] using hfree
    have hw : (x.writeCell c).Ordered q := h.writeCell hseal hroom c
    split
    · exact hw.commitOpen
    · exact hw

end

/-! ## The end of a cycle -/

section
variable {q : Nat} {x : Queue}

/-- The banks are to swap (R129): the drain bank is spent and holds no open packet, and the fill bank has something
to give. -/
structure Queue.SwapDue (x : Queue) : Prop where
  spent : (x.bank x.drain).cellsLeft = 0
  notOpen : ∀ start, x.openAt ≠ some (x.drain, start)
  waiting : (x.bank x.fill1).cellsLeft ≠ 0

/-- The swap (R129): the spent bank is emptied and becomes the fill bank. -/
def Queue.swapped (x : Queue) : Queue := { x.setBank x.drain Bank.empty with fill1 := !x.fill1 }

@[simp] theorem Queue.swapped_fill1 (x : Queue) : x.swapped.fill1 = x.drain := rfl

@[simp] theorem Queue.swapped_drain (x : Queue) : x.swapped.drain = x.fill1 := Bool.not_not _

@[simp] theorem Queue.swapped_openAt (x : Queue) : x.swapped.openAt = x.openAt := setBank_openAt x _ _

@[simp] theorem Queue.bank_swapped_drain (x : Queue) : x.swapped.bank x.drain = Bank.empty :=
  bank_setBank_same x _ _

@[simp] theorem Queue.bank_swapped_fill (x : Queue) : x.swapped.bank x.fill1 = x.bank x.fill1 :=
  bank_setBank_drain_fill x _

@[simp] theorem bankCells_swapped (x : Queue) : bankCells q x.swapped = bankCells q x := bankCells_setBank x _ _ q

theorem Queue.swapIfSpent_of_due (h : x.SwapDue) : x.swapIfSpent = x.swapped := by
  obtain ⟨hspent, hopen, hfill⟩ := h
  refine if_pos ?_
  cases ho : x.openAt with
  | none => simp [hspent, Nat.pos_iff_ne_zero, hfill]
  | some p =>
    have hp : p.1 ≠ x.drain := fun hp => hopen p.2 (by rw [ho, ← hp])
    simp [hspent, Nat.pos_iff_ne_zero, hfill, hp]

theorem Queue.swapIfSpent_of_not_due (h : ¬ x.SwapDue) : x.swapIfSpent = x := by
  refine if_neg fun hc => h ?_
  simp only [Bool.and_eq_true, decide_eq_true_eq, Nat.pos_iff_ne_zero] at hc
  obtain ⟨⟨hspent, hopen⟩, hfill⟩ := hc
  exact ⟨hspent, fun start ho => by simp [ho] at hopen, hfill⟩

/-- An open packet that is not in the drain bank is in the fill bank. -/
theorem Queue.open_in_fill {b : Bool} {start : Nat} (ho : x.openAt = some (b, start))
    (h : ∀ start, x.openAt ≠ some (x.drain, start)) : b = x.fill1 := by
  have hb : b ≠ x.drain := fun hb => h start (by rw [ho, hb])
  simpa [Queue.drain] using hb

theorem Queue.Ordered.swapped (h : x.Ordered q) (hd : x.SwapDue) : x.swapped.Ordered q := by
  cases ho : x.openAt with
  | none =>
    refine (ordered_none_iff (by simpa using ho)).2 ((Bool.forall_bool' x.fill1).2 ⟨?_, ?_⟩)
    · simpa using h.banks_closed ho x.fill1
    · exact (bank_swapped_drain x).symm ▸ Bank.empty_closed _
  | some p =>
    obtain ⟨b, start⟩ := p
    obtain rfl : b = x.fill1 := open_in_fill ho hd.notOpen
    obtain ⟨hopened, -, -⟩ := (ordered_some_iff ho).1 h
    refine (ordered_some_iff (by simpa using ho)).2 ⟨by simpa using hopened, ?_, .inr ?_⟩
    · exact (bank_swapped_drain x).symm ▸ Bank.empty_closed _
    · simpa using Bank.empty_blank

/-- A cycle's effects need only keep the queue ordered: the swap at its end makes it sound. -/
theorem Queue.Ordered.sound_swapIfSpent (h : x.Ordered q) : x.swapIfSpent.sound q = true := by
  by_cases hd : x.SwapDue
  · rw [swapIfSpent_of_due hd]
    exact sound_iff.2 ⟨h.swapped hd, .inl (by simpa using hd.waiting)⟩
  · rw [swapIfSpent_of_not_due hd]
    refine sound_iff.2 ⟨h, ?_⟩
    by_cases hspent : (x.bank x.drain).cellsLeft = 0
    · refine .inr (Decidable.byContradiction fun hfill => hd ⟨hspent, fun start ho => ?_, hfill⟩)
      obtain ⟨-, -, hcarried⟩ := (ordered_some_iff ho).1 h
      have hblank := hcarried.resolve_left (by simp [Queue.drain])
      exact hfill (hblank.cellsLeft (h.bank_sound _))
    · exact .inl hspent

end

/-! ## Pops -/

/-- A bank gives a cell: the front of its line, and only the pointers of the pop side move. -/
structure Bank.Gives (q n : Nat) (b : Bank) (c : QCell) (v : Bank) : Prop where
  cells : v.cells = b.cells
  commit : v.commit = b.commit
  marker : v.marker = b.marker
  sound : v.sound n = true
  line : b.line q = c :: v.line q

section
variable {q n : Nat} {b : Bank}

theorem Bank.Gives.closed {p : Nat} {c : QCell} {v : Bank} (hv : b.Gives p n c v) (h : b.Closed n) : v.Closed n :=
  ⟨hv.sound, by rw [hv.commit, hv.cells, h.2]⟩

theorem Bank.Gives.opened {p start : Nat} {c : QCell} {v : Bank} (hv : b.Gives p n c v) (h : b.Opened n start) :
    v.Opened n start := by
  obtain ⟨-, hstart, hlt, hmark⟩ := h
  exact ⟨hv.sound, hv.commit ▸ hstart, hv.cells ▸ hlt, hv.marker.trans hmark⟩

theorem Bank.gives_data (hs : b.sound n = true) {c : QCell} (hlt : b.read < b.commit)
    (hc : b.cells[b.read]? = some c) : b.Gives q n c { b with read := b.read + 1 } where
  cells := rfl
  commit := rfl
  marker := rfl
  sound := by
    obtain ⟨-, hk, hn, hm⟩ := Bank.sound_iff.1 hs
    exact Bank.sound_iff.2 ⟨hlt, hk, hn, hm⟩
  line := by
    have hfront : (b.cells.take b.commit).drop b.read = c :: (b.cells.take b.commit).drop (b.read + 1) := by
      obtain ⟨hi, rfl⟩ := List.getElem?_eq_some_iff.1 hc
      rw [List.drop_eq_getElem_cons (by simp; omega), List.getElem_take]
    simp [Bank.line, hfront]

theorem Bank.gives_marker (hs : b.sound n = true) {m : Marker} (hle : b.commit ≤ b.read)
    (hm : b.marker = some m) (hp : b.markerPopped = false) :
    b.Gives q n { data := m.cell q, first := true, last := true } { b with markerPopped := true } where
  cells := rfl
  commit := rfl
  marker := rfl
  sound := by
    obtain ⟨hr, hk, hn, -⟩ := Bank.sound_iff.1 hs
    exact Bank.sound_iff.2 ⟨hr, hk, hn, fun _ => by simp [hm]⟩
  line := by
    have hdata : (b.cells.take b.commit).drop b.read = [] := List.drop_eq_nil_of_le (by simp; omega)
    simp [Bank.line, hdata, hm, hp]

theorem Bank.line_length (hs : b.sound n = true) : (b.line q).length = b.cellsLeft := by
  obtain ⟨-, hk, -, -⟩ := Bank.sound_iff.1 hs
  cases hm : b.marker <;> cases hp : b.markerPopped <;>
    simp [Bank.line, Bank.cellsLeft, Bank.markerWaiting, b2n, hm, hp, Nat.min_eq_left hk]

theorem Bank.line_eq_nil (hs : b.sound n = true) (h : b.cellsLeft = 0) : b.line q = [] :=
  List.length_eq_zero_iff.1 ((Bank.line_length hs).trans h)

end

section
variable {q : Nat} {x : Queue}

theorem Queue.pop_data {c : QCell} (hlt : (x.bank x.drain).read < (x.bank x.drain).commit)
    (hc : (x.bank x.drain).cells[(x.bank x.drain).read]? = some c) :
    x.pop q = some (c, x.setBank x.drain { x.bank x.drain with read := (x.bank x.drain).read + 1 }) := by
  simp [Queue.pop, hlt, hc]

theorem Queue.pop_marker {m : Marker} (hle : (x.bank x.drain).commit ≤ (x.bank x.drain).read)
    (hm : (x.bank x.drain).marker = some m) (hp : (x.bank x.drain).markerPopped = false) :
    ∃ mark, x.pop q = some ({ data := m.cell q, first := true, last := true },
      { x.setBank x.drain { x.bank x.drain with markerPopped := true } with openMark := mark }) := by
  simp only [Queue.pop, Nat.not_lt_of_le hle, if_false, hm, hp, Bool.false_eq_true]
  split
  · exact ⟨_, rfl⟩
  · exact ⟨_, rfl⟩

theorem Queue.pop_spent (hle : (x.bank x.drain).commit ≤ (x.bank x.drain).read)
    (hm : (x.bank x.drain).markerWaiting = false) : x.pop q = none := by
  cases hmark : (x.bank x.drain).marker with
  | none => simp [Queue.pop, Nat.not_lt_of_le hle, hmark]
  | some m =>
    have hp : (x.bank x.drain).markerPopped = true := by simpa [Bank.markerWaiting, hmark] using hm
    simp [Queue.pop, Nat.not_lt_of_le hle, hmark, hp]

/-- What a pop can do: nothing at depth 0, and otherwise the drain bank gives a cell (R133). -/
theorem Queue.pop_cases {n : Nat} (hs : (x.bank x.drain).sound n = true) :
    (x.pop q = none ∧ (x.bank x.drain).cellsLeft = 0) ∨
      ∃ c v mark, x.pop q = some (c, { x.setBank x.drain v with openMark := mark }) ∧
        (x.bank x.drain).Gives q n c v := by
  obtain ⟨-, hk, -, -⟩ := Bank.sound_iff.1 hs
  by_cases hlt : (x.bank x.drain).read < (x.bank x.drain).commit
  · have hc := List.getElem?_eq_getElem (Nat.lt_of_lt_of_le hlt hk)
    exact .inr ⟨_, _, _, pop_data hlt hc, Bank.gives_data hs hlt hc⟩
  have hle : (x.bank x.drain).commit ≤ (x.bank x.drain).read := Nat.not_lt.1 hlt
  cases hw : (x.bank x.drain).markerWaiting with
  | false => exact .inl ⟨pop_spent hle hw, by simp [Bank.cellsLeft, hw, b2n, hle]⟩
  | true =>
    obtain ⟨hsome, hp⟩ : (x.bank x.drain).marker.isSome = true ∧ (x.bank x.drain).markerPopped = false := by
      simpa [Bank.markerWaiting] using hw
    obtain ⟨m, hm⟩ := Option.isSome_iff_exists.1 hsome
    obtain ⟨mark, hpop⟩ := pop_marker (q := q) hle hm hp
    exact .inr ⟨_, _, mark, hpop, Bank.gives_marker hs hle hm hp⟩

/-- A pop leaves the cells, the commits and the markers where they were. -/
theorem Queue.Ordered.setBank_drain {p : Nat} {c : QCell} {v : Bank} (h : x.Ordered q)
    (hv : (x.bank x.drain).Gives p (bankCells q x) c v) : (x.setBank x.drain v).Ordered q := by
  cases ho : x.openAt with
  | none => exact setBank_closed ho (hv.closed (h.banks_closed ho _)) (h.banks_closed ho _)
  | some p =>
    obtain ⟨b, start⟩ := p
    obtain ⟨hopen, hother, hcarried⟩ := (ordered_some_iff ho).1 h
    obtain rfl | rfl : b = x.drain ∨ b = !x.drain := x.eq_drain_or_not b
    · exact (ordered_some_iff (by simpa using ho)).2
        ⟨by simpa using hv.opened hopen, by simpa using hother, by simpa using hcarried⟩
    · exact (ordered_some_iff (by simpa using ho)).2
        ⟨by simpa using hopen, by simpa using hv.closed (by simpa using hother), by simpa using hcarried⟩

/-- The queue that a cycle's pop side leaves to the rest of the cycle. -/
def Queue.afterPop (q : Nat) (x : Queue) (pop : Bool) : Queue :=
  match if pop then x.pop q else none with
  | some (_, y) => y
  | none => x

theorem Queue.afterPop_none (h : x.pop q = none) : x.afterPop q true = x := by simp [Queue.afterPop, h]

theorem Queue.afterPop_some {p : QCell × Queue} (h : x.pop q = some p) : x.afterPop q true = p.2 := by
  simp [Queue.afterPop, h]

theorem Queue.Ordered.afterPop (h : x.Ordered q) (pop : Bool) : (x.afterPop q pop).Ordered q := by
  cases pop with
  | false => exact h
  | true =>
    obtain ⟨hpop, -⟩ | ⟨c, v, mark, hpop, hv⟩ := pop_cases (q := q) (h.bank_sound x.drain)
    · rwa [afterPop_none hpop]
    · rw [afterPop_some hpop]
      exact h.setBank_drain hv

/-! ## A cycle -/

/-- The push side of a cycle that does not reset the queue (R125-R127, R130). -/
def Queue.afterPush (q : Nat) (x : Queue) (push : Option PushOp) (sec ns : Nat) : Queue :=
  match push with
  | some (.push c) => x.pushCell q c false sec ns
  | some (.pushCommit c) => x.pushCell q c true sec ns
  | some .commit => if x.discarding then { x with discarding := false } else x.commitOpen
  | some .abort => if x.discarding then { x with discarding := false } else x.rewind
  | some .reset => x
  | none => x

theorem Queue.Ordered.afterPush (h : x.Ordered q) (push : Option PushOp) (sec ns : Nat) :
    (x.afterPush q push sec ns).Ordered q := by
  cases push with
  | none => exact h
  | some op =>
    cases op with
    | push c => exact h.pushCell c false sec ns
    | pushCommit c => exact h.pushCell c true sec ns
    | commit =>
      show (if x.discarding then { x with discarding := false } else x.commitOpen).Ordered q
      split
      · exact h
      · exact h.commitOpen
    | abort =>
      show (if x.discarding then { x with discarding := false } else x.rewind).Ordered q
      split
      · exact h
      · exact h.rewind
    | reset => exact h

/-- A cycle that performs its operations: the pop, then the push side, then the swap (R128, R129). -/
theorem queueCycle_run {push : Option PushOp} (pop : Bool) (sec ns : Nat) (hb : bankLog2 q x ≠ 0)
    (ha : x.copiesAgree = true) (hp : push ≠ some .reset) :
    queueCycle q x push pop sec ns =
      (((x.afterPop q pop).afterPush q push sec ns).swapIfSpent, (if pop then x.pop q else none).map (·.1)) :=
  (if_neg hb).trans ((if_neg (by simp [ha])).trans (if_neg hp))

/-- Disagreeing pointer copies are a fault: the queue is emptied, and no operation is performed (R142). -/
theorem queueCycle_fault (push : Option PushOp) (pop : Bool) (sec ns : Nat) (hb : bankLog2 q x ≠ 0)
    (ha : x.copiesAgree = false) :
    queueCycle q x push pop sec ns =
      ({ x.emptied with copiesAgree := true, ptrFaultCt := satAdd 0xFF x.ptrFaultCt 1 }, none) :=
  (if_neg hb).trans (if_pos (by simp [ha]))

theorem Queue.emptied_sound : x.emptied.sound q = true :=
  sound_iff.2 ⟨(ordered_none_iff rfl).2 (Bool.forall_bool.2 ⟨Bank.empty_closed _, Bank.empty_closed _⟩), .inr rfl⟩

theorem queueCycle_sound (h : x.sound q = true) (push : Option PushOp) (pop : Bool) (sec ns : Nat) :
    (queueCycle q x push pop sec ns).1.sound q = true := by
  by_cases hb : bankLog2 q x = 0
  · simpa [queueCycle, hb] using h
  by_cases ha : x.copiesAgree = true
  · by_cases hp : push = some .reset
    · simpa [queueCycle, hb, ha, hp] using Queue.emptied_sound
    · rw [queueCycle_run pop sec ns hb ha hp]
      exact (((Queue.sound_iff.1 h).1.afterPop pop).afterPush push sec ns).sound_swapIfSpent
  · have he : x.emptied.sound q = true := Queue.emptied_sound
    rw [queueCycle_fault push pop sec ns hb (Bool.not_eq_true _ ▸ ha)]
    exact he

end

/-- Settles O58: each operation keeps the queue ordered, and the swap at the end of the cycle makes it sound. -/
theorem queueKeepsSound : Obligations.QueueKeepsSound :=
  fun _ sec ns _ push pop h => queueCycle_sound h push pop sec ns

end Sys2Proof.Machine
end

section
/-!
PROOFS. One cycle of a hardware queue: the order in which it gives its packets.
-/
namespace Sys2Proof.Machine

/-! ## The line of cells to be given -/

section
variable {q : Nat} {x : Queue}

/-- Cells that go to the end of one bank go to the end of the line, where nothing stands behind that bank. -/
theorem Queue.line_setBank_append {b : Bool} {v : Bank} {cs : List QCell}
    (hlast : b = x.fill1 ∨ (x.bank x.fill1).line q = []) (hv : v.line q = (x.bank b).line q ++ cs) :
    (x.setBank b v).line q = x.line q ++ cs := by
  obtain rfl | rfl : b = x.drain ∨ b = !x.drain := x.eq_drain_or_not b
  · have hfill : (x.bank x.fill1).line q = [] := hlast.resolve_left (by simp [Queue.drain])
    simp [Queue.line, hv, hfill]
  · have hdrain : (x.setBank (!x.drain) v).bank x.drain = x.bank x.drain := by
      simpa only [Bool.not_not] using bank_setBank_not x (!x.drain) v
    simp [Queue.line, Queue.fill1_eq_not_drain x, hdrain, hv]

/-- Nothing stands in the line behind the bank that takes the pushes (R119, R129). -/
theorem Queue.Ordered.pushBank_last (h : x.Ordered q) :
    x.pushBank = x.fill1 ∨ (x.bank x.fill1).line q = [] := by
  cases ho : x.openAt with
  | none => exact .inl (pushBank_of_closed ho)
  | some p =>
    obtain ⟨b, start⟩ := p
    obtain ⟨-, -, hcarried⟩ := (ordered_some_iff ho).1 h
    rw [pushBank_of_open ho]
    have hs := h.bank_sound x.fill1
    exact hcarried.imp_right fun hblank => Bank.line_eq_nil hs (hblank.cellsLeft hs)

theorem Queue.openCells_of_closed (h : x.openAt = none) : x.openCells = [] := by simp [Queue.openCells, h]

theorem Queue.openCells_of_open {b : Bool} {start : Nat} (h : x.openAt = some (b, start)) :
    x.openCells = (x.bank b).cells.drop start := by simp [Queue.openCells, h]

/-! The swap gives nothing and takes nothing. -/

theorem Queue.Ordered.line_swapIfSpent (h : x.Ordered q) : x.swapIfSpent.line q = x.line q := by
  by_cases hd : x.SwapDue
  · have hspent : (x.bank x.drain).line q = [] := Bank.line_eq_nil (h.bank_sound _) hd.spent
    have hempty : Bank.empty.line q = [] := rfl
    rw [swapIfSpent_of_due hd]
    simp [Queue.line, hspent, hempty]
  · rw [swapIfSpent_of_not_due hd]

theorem Queue.openCells_swapIfSpent (x : Queue) : x.swapIfSpent.openCells = x.openCells := by
  by_cases hd : x.SwapDue
  · rw [swapIfSpent_of_due hd]
    cases ho : x.openAt with
    | none => rw [openCells_of_closed ho, openCells_of_closed (by simpa using ho)]
    | some p =>
      obtain ⟨b, start⟩ := p
      obtain rfl : b = x.fill1 := open_in_fill ho hd.notOpen
      rw [openCells_of_open ho, openCells_of_open (by simpa using ho), bank_swapped_fill]
  · rw [swapIfSpent_of_not_due hd]

/-! A pop takes the front (R118, R133). -/

theorem Queue.line_of_gives {n : Nat} {c : QCell} {v : Bank} (hv : (x.bank x.drain).Gives q n c v) :
    x.line q = c :: (x.setBank x.drain v).line q := by
  simp [Queue.line, hv.line]

theorem Queue.line_eq_nil (h : x.sound q = true) (hspent : (x.bank x.drain).cellsLeft = 0) : x.line q = [] := by
  obtain ⟨ho, hswap⟩ := sound_iff.1 h
  have hfill : (x.bank x.fill1).cellsLeft = 0 := hswap.resolve_left (fun hne => hne hspent)
  simp [Queue.line, Bank.line_eq_nil (ho.bank_sound _) hspent, Bank.line_eq_nil (ho.bank_sound _) hfill]

theorem Queue.pop_front (h : x.sound q = true) :
    (x.pop q).map (·.1) = (x.line q).head? ∧ (x.afterPop q true).line q = (x.line q).tail := by
  obtain ⟨hpop, hspent⟩ | ⟨c, v, mark, hpop, hv⟩ := pop_cases (q := q) ((sound_iff.1 h).1.bank_sound x.drain)
  · simp [hpop, afterPop_none hpop, line_eq_nil h hspent]
  · rw [hpop, afterPop_some hpop, line_of_gives hv]
    exact ⟨rfl, rfl⟩

/-! A commit puts the open packet at the end, and a rewind forgets it (R127). -/

theorem markLast_append {l : List QCell} (r : List QCell) (h : l ≠ []) : markLast (r ++ l) = r ++ markLast l := by
  induction r with
  | nil => rfl
  | cons c r ih =>
    obtain ⟨d, t, ht⟩ := List.exists_cons_of_ne_nil (List.append_ne_nil_of_right_ne_nil r h)
    rw [List.cons_append, List.cons_append, ← ih, ht, markLast]

theorem Bank.Opened.line_rewound {n start : Nat} {b : Bank} (h : b.Opened n start) :
    { b with cells := b.cells.take start }.line q = b.line q := by
  obtain ⟨-, rfl, -, -⟩ := h
  simp [Bank.line, List.take_take]

theorem Bank.Opened.line_committed {n start : Nat} {b : Bank} (h : b.Opened n start) :
    { b with cells := markLast b.cells, commit := b.cells.length }.line q =
      b.line q ++ markLast (b.cells.drop start) := by
  obtain ⟨hs, rfl, hlt, hmark⟩ := h
  obtain ⟨hr, hk, -, -⟩ := Bank.sound_iff.1 hs
  have hcells : markLast b.cells = b.cells.take b.commit ++ markLast (b.cells.drop b.commit) := by
    rw [← markLast_append _ (by simpa using hlt), List.take_append_drop]
  have hall : (markLast b.cells).take b.cells.length = markLast b.cells := List.take_of_length_le (by simp)
  simp only [Bank.line, hmark, List.append_nil, hall]
  rw [hcells, List.drop_append_of_le_length (by rwa [List.length_take_of_le hk])]

theorem Queue.Ordered.line_rewind (h : x.Ordered q) : x.rewind.line q = x.line q := by
  cases ho : x.openAt with
  | none => rw [rewind_of_closed ho]
  | some p =>
    obtain ⟨b, start⟩ := p
    obtain ⟨hopen, -, -⟩ := (ordered_some_iff ho).1 h
    have hline := line_setBank_append (cs := []) (pushBank_of_open ho ▸ h.pushBank_last)
      (hopen.line_rewound.trans (List.append_nil _).symm)
    rw [rewind_of_open ho]
    exact hline.trans (List.append_nil _)

theorem Queue.Ordered.line_commitOpen (h : x.Ordered q) :
    x.commitOpen.line q = x.line q ++ markLast x.openCells := by
  cases ho : x.openAt with
  | none => rw [commitOpen_of_closed ho, openCells_of_closed ho, markLast, List.append_nil]
  | some p =>
    obtain ⟨b, start⟩ := p
    obtain ⟨hopen, -, -⟩ := (ordered_some_iff ho).1 h
    have hline := line_setBank_append (pushBank_of_open ho ▸ h.pushBank_last) hopen.line_committed
    rw [commitOpen_of_open ho, openCells_of_open ho]
    exact hline

/-! A push adds to the open packet only (R119, R126). -/

theorem Bank.line_write {n : Nat} {b : Bank} (hs : b.sound n = true) (c : QCell) :
    { b with cells := b.cells ++ [c] }.line q = b.line q := by
  obtain ⟨-, hk, -, -⟩ := Bank.sound_iff.1 hs
  simp [Bank.line, List.take_append_of_le_length hk]

theorem Queue.Ordered.line_writeCell (h : x.Ordered q) (c : List Byte) : (x.writeCell c).line q = x.line q := by
  have hline := line_setBank_append (cs := []) h.pushBank_last
    ((Bank.line_write (h.bank_sound x.pushBank) { data := c, first := x.openAt.isNone, last := false }).trans
      (List.append_nil _).symm)
  exact hline.trans (List.append_nil _)

theorem Queue.Ordered.openCells_writeCell (h : x.Ordered q) (c : List Byte) :
    (x.writeCell c).openCells = x.openCells ++ [{ data := c, first := x.openAt.isNone, last := false }] := by
  cases ho : x.openAt with
  | none =>
    rw [openCells_of_open (by rw [writeCell_openAt, ho, Option.getD_none]), bank_writeCell_same,
      openCells_of_closed ho, ho]
    exact List.drop_left
  | some p =>
    obtain ⟨b, start⟩ := p
    obtain ⟨⟨-, -, hlt, -⟩, -, -⟩ := (ordered_some_iff ho).1 h
    obtain rfl : x.pushBank = b := pushBank_of_open ho
    rw [openCells_of_open (by rw [writeCell_openAt, ho, Option.getD_some]), bank_writeCell_same,
      openCells_of_open ho, ho]
    exact List.drop_append_of_le_length (Nat.le_of_lt hlt)

/-! ## The order of packets -/

theorem queueCycle_pop (h : x.sound q = true) (hb : bankLog2 q x ≠ 0) (ha : x.copiesAgree = true) (sec ns : Nat) :
    (queueCycle q x none true sec ns).2 = (x.line q).head? ∧
      (queueCycle q x none true sec ns).1.line q = (x.line q).tail := by
  obtain ⟨hfront, hrest⟩ := Queue.pop_front h
  rw [queueCycle_run (push := none) true sec ns hb ha (by simp)]
  exact ⟨hfront, (((Queue.sound_iff.1 h).1.afterPop true).line_swapIfSpent).trans hrest⟩

theorem queueCycle_commit (hb : bankLog2 q x ≠ 0) (ha : x.copiesAgree = true) (hd : x.discarding = false)
    (sec ns : Nat) : (queueCycle q x (some .commit) false sec ns).1 = x.commitOpen.swapIfSpent := by
  rw [queueCycle_run (push := some .commit) false sec ns hb ha (by simp)]
  simp [Queue.afterPop, Queue.afterPush, hd]

theorem queueCycle_abort (hb : bankLog2 q x ≠ 0) (ha : x.copiesAgree = true) (hd : x.discarding = false)
    (sec ns : Nat) : (queueCycle q x (some .abort) false sec ns).1 = x.rewind.swapIfSpent := by
  rw [queueCycle_run (push := some .abort) false sec ns hb ha (by simp)]
  simp [Queue.afterPop, Queue.afterPush, hd]

theorem queueCycle_push {c : List Byte} (hb : bankLog2 q x ≠ 0) (ha : x.copiesAgree = true)
    (hd : x.discarding = false) (hlen : x.openLen < bankCells q x - 2)
    (hseal : (x.bank x.pushBank).sealed = false) (hfree : (x.bank x.pushBank).cells.length < bankCells q x - 1)
    (sec ns : Nat) : (queueCycle q x (some (.push c)) false sec ns).1 = (x.writeCell c).swapIfSpent := by
  rw [queueCycle_run (push := some (.push c)) false sec ns hb ha (by simp)]
  simp [Queue.afterPop, Queue.afterPush, Queue.pushCell_accepted hd hlen hseal hfree]

end

/-- Settles O59: what each operation does to the line and to the open packet, and that the swap which ends the cycle
touches neither. -/
theorem queueKeepsOrder : Obligations.QueueKeepsOrder := by
  intro q sec ns x h hb ha
  have ho : x.Ordered q := (Queue.sound_iff.1 h).1
  refine ⟨queueCycle_pop h hb ha sec ns, fun hd => ?_, fun c hd hlen hseal hfree => ?_⟩
  · rw [queueCycle_commit hb ha hd, queueCycle_abort hb ha hd]
    simp only [ho.commitOpen.line_swapIfSpent, ho.rewind.line_swapIfSpent, Queue.openCells_swapIfSpent]
    exact ⟨ho.line_commitOpen, Queue.openCells_of_closed (Queue.commitOpen_openAt x), ho.line_rewind,
      Queue.openCells_of_closed (Queue.rewind_openAt x)⟩
  · rw [queueCycle_push hb ha hd hlen hseal hfree, (ho.writeCell hseal hfree c).line_swapIfSpent,
      Queue.openCells_swapIfSpent]
    exact ⟨ho.line_writeCell c, ho.openCells_writeCell c⟩

end Sys2Proof.Machine
end

section
/-!
PROOFS. What a port sends, and when it rests: one equation per event of the transmit path, where the event is due.
-/
namespace Sys2Proof.Machine

section
variable {s : State} {p k t : Nat} {f : TxFrame} {rest : List TxFrame}

/-! ## Sending (R178, R179, R224, R225, R229, R231) -/

/-- On a port other than S, whose sight line would go first, the queue that is next sends its head. -/
theorem State.transmit_next (hlink : (s.port p).link = true) (hlpi : (s.port p).lpi = false) (hp : p ≠ 3)
    (hnext : ((s.settleCredit p).judgeHeads p).nextQueue p = some k) :
    s.transmit p = ((s.settleCredit p).judgeHeads p).sendHead p k := by
  have hawake : ¬ ((s.port p).link = false ∨ (s.port p).lpi = true) := by simp [hlink, hlpi]
  have hsight : ¬ (p = 3 ∧ ((s.settleCredit p).judgeHeads p).net.sight.out ≠ []) := fun h => hp h.1
  simp only [State.transmit, if_neg hawake, if_neg hsight, hnext]

theorem State.atHead_unpaused (h : s.pausedQueue p k = false) :
    s.atHead p k = ((s.settleCredit p).judgeHead p k false ((s.txQueue p k).length + 1)).sendIfNext p k := by
  simp [State.atHead, h]

theorem State.launches_held (hq : s.txQueue p k = f :: rest) (hheld : f.held = true) :
    s.launches p k = (s.settleCredit p).sendIfNext p k := by
  simp only [State.launches, hq, if_pos hheld]

/-! ## Pauses and low-power idle (R228, R229, R233) -/

theorem State.pauseEnds_due (hend : (s.port p).pauseEnd = some t) (hdue : t ≤ s.time.elapsed) :
    s.pauseEnds p = (List.range 7).foldl (fun s k => s.judgeHead p k true ((s.txQueue p k).length + 1))
      (s.modPort p fun x => { x with pauseEnd := none }) := by
  simp only [State.pauseEnds, hend, if_neg (Nat.not_lt.2 hdue)]

theorem State.lpiEnter_idle (hlpi : (s.port p).lpi = false) (hidle : s.mayIdle p (!s.overridden p) = true)
    (hfar : s.packetsFar p = true) :
    s.lpiEnter p = (s.modPort p fun x => { x with lpi := true }).countPort p Ctr.lpiEntries 1 := by
  simp [State.lpiEnter, hlpi, hidle, hfar]

end

/-- Settles O29: each event runs on a port, and a queue, that the device has, and where it is due its equation above
says what it does. -/
theorem transmissionCompletes : Obligations.TransmissionCompletes := by
  refine ⟨?transmit, ?atHead, ?launch, ?pause, ?idle⟩
  case transmit =>
    intro p k s hport hp hlink hlpi hnext
    exact (ran_next _ _ _ (decide_eq_true hport)).trans (by rw [State.transmit_next hlink hlpi hp hnext])
  case atHead =>
    intro p k s hport hk hopen
    exact (ran_next _ _ _ (by simp [hport, hk])).trans (by rw [State.atHead_unpaused hopen])
  case launch =>
    intro p k f rest s hport hk hq hheld
    exact (ran_next _ _ _ (by simp [hport, hk])).trans (by rw [State.launches_held hq hheld])
  case pause =>
    intro p t s hport hend hdue
    exact (ran_next _ _ _ (decide_eq_true hport)).trans (by rw [State.pauseEnds_due hend hdue])
  case idle =>
    intro p s hport hlpi hidle hfar
    exact (ran_next _ _ _ (decide_eq_true hport)).trans (by rw [State.lpiEnter_idle hlpi hidle hfar])

end Sys2Proof.Machine
end

section
/-!
PROOFS. The ticks of the media clock: the order of a block tick's stages, and when a direct tick runs.
-/
namespace Sys2Proof.Machine

section
variable {s : State}

/-! ## Block ticks and direct ticks (R32, R340-R343, R359, R403) -/

/-- Where blocks tick, the stages of one block tick in their order. The block is taken whole, and what is judged inside
it is judged at the tick (logs 62 and 143). -/
theorem State.blockTick_running (t : TickIn) (h : s.noBlocks = false) :
    s.blockTick t =
      let base := s.time.ri
      let n := s.blockLen
      let judged := ((s.finishBlock base n).abandon t (base + n)).judgeBlock t
        ((s.alm.flight.head?.map Flight.ri).getD base)
      let read := t.ecc.foldl (fun s e => s.eccError e.2 e.1) judged
      let captured := read.capture base n t.inputs
      let released := captured.1.releaseBlock (read.liveSource t.inputs captured.2.2) n (base + n)
      let taken := if released.isReady Rdy.fabric then released.takeBlock captured.2.1 base n else released
      (taken.enterBlock (base + n)).boundaryPassed t n := by
  have hrun : ¬ s.noBlocks = true := by simp [h]
  exact if_neg hrun

theorem exec_blockTick (t : TickIn) (s : State) : exec (.blockTick t) s = .next (s.goesTo (s.blockTick t)) := rfl

/-- A direct tick runs while blocks tick, the block has a quarter left and the fabric is ready. -/
theorem exec_directTick_running {missed : Bool} {ins : List (Nat × List Int)} (h : s.noBlocks = false)
    (hquarter : s.alm.quarter < s.blockLen) (hfabric : s.isReady Rdy.fabric = true) :
    exec (.directTick missed ins) s = .next (s.goesTo (s.directTick missed ins)) := by
  have hrun : ¬ (s.noBlocks || decide (s.blockLen ≤ s.alm.quarter) || !s.isReady Rdy.fabric) = true := by
    simp [h, hquarter, hfabric]
  show goOn s (if _ then s else s.directTick missed ins) = _
  rw [goOn_next, if_neg hrun]

end

/-- Settles O31: where blocks tick, a block tick is its stages in order, and a direct tick with a quarter left takes it. -/
theorem ticksComplete : Obligations.TicksComplete := by
  refine ⟨?block, ?direct⟩
  case block =>
    intro t s hrun
    rw [exec_blockTick, State.blockTick_running t hrun]
  case direct =>
    intro missed ins s hrun hquarter hfabric
    exact exec_directTick_running hrun hquarter hfabric

end Sys2Proof.Machine
end

section
/-!
PROOFS. Commands of the safety island (chapter 12): what each body gives once the island is ready and its own checks
pass.
-/
namespace Sys2Proof.Machine

section
variable {b : Bool} {r : Req} {s : State}

/-- What a body says behind `whenReady` is what the opcode says once the island is ready (Table 12-14). -/
theorem whenReady_ready (body : Body) (h : s.saf.ready = true) : whenReady body b r s = body b r s := if_pos h

/-! ## Requests (R507, R512, R522, R543) -/

theorem safActivateBody_host (hready : s.saf.ready = true) (hhost : r.origin = .host) (hreq : u8 r.params 0 ≤ 63)
    (hon : u8 r.params 1 ≤ 1) (hz : u16 r.params 2 = 0)
    (hused : SafCfg.reqUsed (s.saf.reqEntry (u8 r.params 0)) = true) :
    safActivateBody b r s =
      .done (s.changeReq (u8 r.params 0) 3 fun q => { q with command := u8 r.params 1 == 1 }).safRefresh [] := by
  have hparams : ¬ (63 < u8 r.params 0 ∨ 1 < u8 r.params 1 ∨ u16 r.params 2 ≠ 0 ∨
      SafCfg.reqUsed (s.saf.reqEntry (u8 r.params 0)) = false) := by
    rw [hused]; simp only [Bool.true_eq_false, or_false]; omega
  simp only [safActivateBody, whenReady_ready _ hready, if_neg hparams, hhost]

theorem safResetBody_host (hready : s.saf.ready = true) (hhost : r.origin = .host)
    (hreq : u8 r.params 0 ≤ 63 ∨ u8 r.params 0 = 0xFF) (hz : zeroAt r.params 1 3 = true) :
    safResetBody b r s =
      .done ((if u8 r.params 0 = 0xFF then List.range 64 else [u8 r.params 0]).foldl
        (fun s r => s.releaseLatch 3 r) s).safRefresh [] := by
  have hparams : ¬ ((63 < u8 r.params 0 ∧ u8 r.params 0 ≠ 0xFF) ∨ zeroAt r.params 1 3 = false) := by
    rw [hz]; simp only [Bool.true_eq_false, or_false]; omega
  have hsource : (if r.origin == .service then 4 else 3) = 3 := by rw [hhost]; rfl
  simp only [safResetBody, whenReady_ready _ hready, if_neg hparams, hsource]

theorem safHeartbeatBody_supervisor (hready : s.saf.ready = true) (hslot : r.slot = SafCfg.supSlot s.saf.general) :
    safHeartbeatBody b r s = .done ((s.safMod fun x => { x with hostLast := s.time.elapsed }).beatBack 2) [] := by
  simp only [safHeartbeatBody, whenReady_ready _ hready, hslot, ne_eq, not_true_eq_false, if_false]

/-! ## The record (R538, R539) -/

theorem safCfgWriteBody_staged (hready : s.saf.ready = true) (hlen : r.params.length = 4 + u16 r.params 2)
    (hlock : s.safetyLocked r = false) (h1 : 1 ≤ u16 r.params 0) (h9 : u16 r.params 0 ≤ 9) :
    safCfgWriteBody b r s =
      .done (s.safMod fun x => { x with
        staged := putSection (sectKey (u16 r.params 0) (r.params.drop 4)) (r.params.drop 4) x.staged }) [] := by
  have hsection : ¬ (u16 r.params 0 = 0 ∨ 9 < u16 r.params 0) := by omega
  simp only [safCfgWriteBody, whenReady_ready _ hready, if_neg hsection, hlen, hlock, ne_eq, not_true_eq_false,
    Bool.false_eq_true, if_false]

/-- A commit that is not written to flash. -/
theorem safCfgCommitBody_volatile (hready : s.saf.ready = true) (hlock : s.safetyLocked r = false)
    (hflash : u8 r.params 0 = 0) (hz : zeroAt r.params 1 3 = true) (hgood : s.recordGood s.saf.merged = true)
    (hidle : s.saf.activeReqs = []) :
    safCfgCommitBody b r s =
      .both ((s.applyRecord s.saf.merged (nextCfgId s.saf.cfgId) true).islandEvent 0x0E09 Sev.notice
        (le 8 (nextCfgId s.saf.cfgId))) (le 8 (nextCfgId s.saf.cfgId)) := by
  simp [safCfgCommitBody, whenReady_ready _ hready, hlock, hflash, hz, hgood, hidle]

/-! ## Messages (R528-R530) -/

/-- The copy goes to the lowest free run that holds it. -/
theorem safMsgLoadBody_deferred {at_ len : Nat} (hready : s.saf.ready = true) (hlock : s.safetyLocked r = false)
    (hmsg : u8 r.params 0 ≤ 63) (hflags : u8 r.params 1 ≤ 3) (hz : u16 r.params 2 = 0) (hlen : u32 r.params 12 ≠ 0)
    (hsrc : bitOf (u8 r.params 1) 0 = true ∨ r.mayRead s (u64 r.params 4) (u32 r.params 12) = true ∧
      s.unmirrored r (u64 r.params 4) (u32 r.params 12) = false)
    (hidle : s.saf.load = none) (hquiet : s.saf.playing (u8 r.params 0) = false)
    (hrun : (libraryRuns 0 (s.heldRuns (u8 r.params 0))).find? (fun x => decide (u32 r.params 12 ≤ x.2)) =
      some (at_, len)) :
    safMsgLoadBody b r s =
      .deferred ((s.putMsgEntry (u8 r.params 0) at_ (u32 r.params 12) 1 []).safMod fun x => { x with
        load := some { msg := u8 r.params 0, persist := bitOf (u8 r.params 1) 1, flash := bitOf (u8 r.params 1) 0
                       src := u64 r.params 4, len := u32 r.params 12, offset := at_, req := r } }) := by
  have hparams : ¬ (63 < u8 r.params 0 ∨ 3 < u8 r.params 1 ∨ u16 r.params 2 ≠ 0 ∨ u32 r.params 12 = 0) := by omega
  have hread : (!bitOf (u8 r.params 1) 0 && !r.mayRead s (u64 r.params 4) (u32 r.params 12)) = false := by
    rcases hsrc with h | ⟨h, -⟩ <;> simp [h]
  have hpair : (!bitOf (u8 r.params 1) 0 && s.unmirrored r (u64 r.params 4) (u32 r.params 12)) = false := by
    rcases hsrc with h | ⟨-, h⟩ <;> simp [h]
  simp only [safMsgLoadBody, whenReady_ready _ hready, if_neg hparams, hlock, hread, hpair, hidle, hquiet, hrun,
    Option.isSome_none, Bool.or_false, Bool.false_eq_true, if_false]

/-- A message deleted from the SRAM alone. -/
theorem safMsgDeleteBody_deleted (hready : s.saf.ready = true) (hlock : s.safetyLocked r = false)
    (hmsg : u8 r.params 0 ≤ 63) (hflags : u8 r.params 1 = 0) (hz : u16 r.params 2 = 0)
    (hquiet : s.saf.playing (u8 r.params 0) = false) (hidle : s.saf.load = none) :
    safMsgDeleteBody b r s =
      .done ({ s with mem := writeBytes s.mem (0x40000000 + 32 * u8 r.params 0) (zeros 32) }.judgeBadMessages
        (u8 r.params 0)) [] := by
  have hparams : ¬ (63 < u8 r.params 0 ∨ 1 < u8 r.params 1 ∨ u16 r.params 2 ≠ 0) := by omega
  have hflash : ¬ u8 r.params 1 = 1 := by omega
  simp only [safMsgDeleteBody, whenReady_ready _ hready, if_neg hparams, if_neg hflash, hlock, hquiet, hidle,
    Option.any_none, Bool.or_self, Bool.false_eq_true, if_false]

end

theorem carryOut_both {t : State} {i : OpInfo} {r : Req} (u : State) (d : List Byte) (h : t.mirrors i r = false) :
    t.carryOut i r (.both u d) = ((u.accept r).reply r Status.accepted [] false).finish r Status.ok d := by
  simp [State.carryOut, h]

theorem exec_safCfgCommit (q : Nat) (s : State) :
    exec (.safCfgCommit q) s = commandRow "SAF_CFG_COMMIT" 0x0A07 safCfgCommitBody q s := rfl

theorem exec_safMsgLoad (q : Nat) (s : State) :
    exec (.safMsgLoad q) s = commandRow "SAF_MSG_LOAD" 0x0A08 safMsgLoadBody q s := rfl

/-- Settles O21, by the bodies' equations above. That CFG_ID counts up by one is log 105, the model's reading; a load
is noted with the run it goes to, which its clause names, so it is not of the form `Defers`. -/
theorem islandCommandsComplete : Obligations.IslandCommandsComplete := by
  refine ⟨finishes_of (fun _ _ => rfl) fun _ _ _ ⟨hready, hhost, hreq, hon, hz, hused⟩ =>
      safActivateBody_host hready hhost hreq hon hz hused,
    finishes_of (fun _ _ => rfl) fun _ _ _ ⟨hready, hhost, hreq, hz⟩ => safResetBody_host hready hhost hreq hz,
    finishes_of (fun _ _ => rfl) fun _ _ _ ⟨hready, hslot⟩ => safHeartbeatBody_supervisor hready hslot,
    finishes_of (fun _ _ => rfl) fun _ _ _ ⟨hready, hlen, hlock, h1, h9⟩ =>
      safCfgWriteBody_staged hready hlen hlock h1 h9,
    ?commit, ?load,
    finishes_of (fun _ _ => rfl) fun _ _ _ ⟨hready, hlock, hmsg, hflags, hz, hquiet, hidle⟩ =>
      safMsgDeleteBody_deleted hready hlock hmsg hflags hz hquiet hidle⟩
  case commit =>
    intro q s t i r hoffer hready hlock hflash hz hgood hidle hm
    rw [exec_safCfgCommit, commandRow_offer _ _ hoffer,
      safCfgCommitBody_volatile hready hlock hflash hz hgood hidle, carryOut_both _ _ hm]
  case load =>
    intro q s t i r at_ len hoffer hready hlock hmsg hflags hz hlen hsrc hidle hquiet hrun hm
    rw [exec_safMsgLoad, commandRow_offer _ _ hoffer,
      safMsgLoadBody_deferred hready hlock hmsg hflags hz hlen hsrc hidle hquiet hrun, carryOut_deferred _ hm]

end Sys2Proof.Machine
end

section
/-!
PROOFS. SAF_SVC_SET_KEY: no opcode of a host slot (R543), and the key of the service port (R536, R537).
-/
namespace Sys2Proof.Machine

section
variable {s : State} {q : Nat} {body : Body} {r : Req} {p : List Byte}

/-! ## On a host slot -/

/-- A packet of the row's opcode that does not ask for ORDERED, and passes its length and CRC checks, is taken at once
and judged. -/
theorem State.takeCommand_unordered {op : Nat} (release : Bool) (htakes : s.takesCommands (q / 4) = true)
    (hcells : ((s.dropMarkers q 2).headPacket q).length ≠ 0) (hop : u16 ((s.dropMarkers q 2).headBytes q) 4 = op)
    (hordered : bitOf (u16 ((s.dropMarkers q 2).headBytes q) 6) 1 = false)
    (hpacket : packetCheck ((s.dropMarkers q 2).headBytes q) ((s.dropMarkers q 2).headPacket q).length = none) :
    s.takeCommand q op body release =
      let u := s.dropMarkers q 2
      let order := (u.waitingOrder q).getD (u.host.takeCount + 1)
      (u.afterPacket q order).judge body (parseReq q order (u.headBytes q)) (u.headBytes q) := by
  simp only [State.takeCommand, htakes, hcells, hop, hordered, ne_eq, not_true_eq_false, false_and, Bool.and_false,
    Bool.false_and, Bool.true_eq_false, Bool.false_eq_true, if_false, State.popAndJudge, hpacket]
  rfl

/-- Past the header and the sequence number, a packet goes on to the checks of its opcode (Table 2-7). -/
theorem State.judge_of_header (hver : u8 p 0 = 3) (hslot : u8 p 1 = r.slot) (hz : u16 p 14 = 0)
    (hflags : r.flags < 16) (hseq : s.seqFollows r = true) : s.judge body r p = s.judgeOpcode body r p := by
  have hhead : ¬ (u8 p 1 ≠ r.slot ∨ u16 p 14 ≠ 0 ∨ 16 ≤ r.flags) := by omega
  simp only [State.judge, hver, ne_eq, not_true_eq_false, if_false, if_neg hhead]
  cases hl : (s.cmdQueue r.queue).lastSeq with
  | none => rfl
  | some last =>
    simp only [State.seqFollows, hl, Bool.and_eq_true, decide_eq_true_eq] at hseq
    simp only [if_neg hseq.1, if_pos hseq.2]

theorem State.judgeOpcode_undefined (hthawed : (s.slot r.slot).frozen = false) (hop : opInfo r.op = none) :
    s.judgeOpcode body r p = s.reply r Status.badOpcode [] false := by
  simp only [State.judgeOpcode, hthawed, Bool.false_eq_true, if_false, hop]

theorem exec_safSvcSetKey (q : Nat) (s : State) : exec (.safSvcSetKey q) s =
    commandRow "SAF_SVC_SET_KEY" 0x0A10 (fun _ _ _ => .bad Status.badOpcode) q s := rfl

theorem opInfo_safSvcSetKey : opInfo 0x0A10 = none := by decide

/-! ## On the service port -/

variable {d : List Byte} {i : OpInfo}

/-- A packet whose wrapper is good, and newer than the port's floor, raises the floor and gives its command
(R72, R536). -/
theorem State.servicePacket_fresh (hready : s.saf.ready = true) (hlen : 64 ≤ d.length) (htag : s.saf.tagOk d = true)
    (hver : u8 d 0 = 2) (hk : u8 d 1 < 4) (hz : u16 d 2 = 0) (hboot : u32 d 8 = s.saf.bootCount)
    (hnew : s.saf.svcFloor < u32 d 4) :
    s.servicePacket d = (s.safMod fun x => { x with svcFloor := u32 d 4 }).serviceCommand
      ((d.take (d.length - 32)).drop 12) := by
  have hshort : (!s.saf.ready || decide (d.length < 64) || !s.saf.tagOk d) = false := by
    simp only [hready, htag, decide_eq_false (Nat.not_lt.2 hlen), Bool.not_true, Bool.or_self]
  have hwrap : ¬ (u8 d 0 ≠ 2 ∨ 4 ≤ u8 d 1 ∨ u16 d 2 ≠ 0) := by omega
  simp only [State.servicePacket, hshort, Bool.false_eq_true, if_false, if_neg hwrap, hboot, ne_eq,
    not_true_eq_false, if_neg (Nat.not_le.2 hnew)]

/-- A command of the port that passes its checks settles at once, as its opcode's body says. -/
theorem State.serviceCommand_body (hpacket : packetCheck p ((20 + u16 p 12 + 63) / 64) = none)
    (hlen : p.length = 20 + u16 p 12) (hbody : serviceBody (serviceReq p).op = some body)
    (hinfo : serviceInfo (serviceReq p).op = some i) (hgood : serviceFail s i (serviceReq p) p = none) :
    s.serviceCommand p = s.settle (serviceReq p) false (body false (serviceReq p) s).onPort := by
  simp only [State.serviceCommand, hpacket, hlen, ne_eq, not_true_eq_false, if_false, hbody, hinfo, hgood]

end

/-- Settles O22. On a host slot the opcode has no row in the table, so check 7 answers it whatever the row's body
(log 31); on the port its body stores the key. -/
theorem serviceKeyCompletes : Obligations.ServiceKeyCompletes := by
  refine ⟨?slot, ?port⟩
  case slot =>
    intro q s u o p r t hq htakes hcells hop hordered hpacket hver hslot hz hflags hseq hthawed
    have hundefined : opInfo r.op = none := (congrArg opInfo hop).trans opInfo_safSvcSetKey
    have htaken : s.takeCommand q 0x0A10 (fun _ _ _ => .bad Status.badOpcode) false =
        t.reply r Status.badOpcode [] false := calc
      _ = t.judge (fun _ _ _ => .bad Status.badOpcode) r p :=
        State.takeCommand_unordered false htakes hcells hop hordered hpacket
      _ = t.judgeOpcode (fun _ _ _ => .bad Status.badOpcode) r p :=
        State.judge_of_header hver hslot hz hflags hseq
      _ = t.reply r Status.badOpcode [] false := State.judgeOpcode_undefined hthawed hundefined
    rw [exec_safSvcSetKey, commandRow, ran_next _ _ _ (decide_eq_true hq), htaken]
  case port =>
    intro d s i t p hready hlen htag hver hk hz hboot hnew hpacket hplen hop hinfo hgood
    have hbody : serviceBody (serviceReq p).op = some setKeyBody := by rw [hop]; rfl
    show goOn s (s.servicePacket d) = _
    rw [goOn_next, State.servicePacket_fresh hready hlen htag hver hk hz hboot hnew,
      State.serviceCommand_body hpacket hplen hbody (hop ▸ hinfo) hgood]
    rfl

end Sys2Proof.Machine
end

section
/-!
PROOFS. The island's supplies, restarts and message loads (chapter 12): each event where it is due.
-/
namespace Sys2Proof.Machine

section
variable {s t u : State} {c : Prop} [Decidable c]

/-- An event that its condition guards happens where the condition holds. -/
theorem goOn_guarded (h : c) : goOn s (if c then t else u) = .next (s.goesTo t) := by rw [if_pos h, goOn_next]

/-- An event that its condition bars happens where the condition does not hold. -/
theorem goOn_unbarred (h : ¬ c) : goOn s (if c then t else u) = .next (s.goesTo u) := by rw [if_neg h, goOn_next]

end

section
variable {s : State} {t : Nat}

/-! ## Start and restarts (R495, R496, R544) -/

theorem State.islandBoots_due {k : Nat} (hdue : s.saf.readyDue = some t) (hdown : s.saf.ready = false)
    (hpower : s.saf.present = true) (hnow : t ≤ s.time.elapsed)
    (hbank : s.saf.bankOrder.find? s.saf.bankOk = some k) : s.islandBoots = s.islandUp k := by
  simp only [State.islandBoots, hdue, hdown, hpower, decide_eq_false (Nat.not_lt.2 hnow), Bool.not_true,
    Bool.or_self, Bool.false_eq_true, if_false, hbank]

theorem State.islandRestarts_due (hdue : s.sys.islandDue = some t) (hnow : t ≤ s.time.elapsed) :
    s.islandRestarts = ({ s with sys := { s.sys with islandDue := none } }).islandStops 4 := by
  simp only [State.islandRestarts, hdue, if_pos hnow]

/-! ## The service port and the library (R530, R535) -/

theorem State.serviceRead_oldest {m : List Byte} {ms : List (List Byte)} (h : s.saf.svcOut = m :: ms) :
    s.serviceRead = s.safMod fun x => { x with svcOut := ms, svcRead := le 2 m.length ++ m } := by
  simp only [State.serviceRead, h]

/-- A sound message from the flash library is VALID in the SRAM, and the load ends. -/
theorem State.messageLoaded_sound {j : MsgLoad} (hload : s.saf.load = some j) (hflash : j.flash = true)
    (hgood : messageOk j.msg (s.loadBytes j) = true) (hkeep : j.persist = false) :
    s.messageLoaded =
      let b := s.loadBytes j
      let t := s.safMod fun x => { x with load := none }
      let u := ({ t with mem := writeBytes t.mem (messageArea + j.offset) b }).putMsgEntry j.msg j.offset j.len 2
        (Msg.tag b)
      (u.judgeBadMessages j.msg).finish j.req Status.ok (le 1 2 ++ zeros 3) := by
  simp only [State.messageLoaded, hload, hflash, hgood, hkeep, Bool.true_or, Bool.and_true, Bool.and_false,
    Bool.false_eq_true, if_false, if_true]

end

/-- Settles O45: an event of the supply, of LS_RESET_N or of the watchdog needs its own condition only, and a start, a
restart, a reply and a load are those of the equations above. -/
theorem islandLifeCompletes : Obligations.IslandLifeCompletes := by
  refine ⟨?powerGood, ?loss, ?assert, ?release, ?watchdog, ?lockstep, ?ready, ?verified, ?restart, ?reply, ?load⟩
  case powerGood =>
    intro s habsent
    exact goOn_unbarred (by simp [habsent])
  case loss =>
    intro s hpresent
    exact goOn_guarded hpresent
  case assert =>
    intro s
    exact goOn_next s _
  case release =>
    intro s hlow
    exact goOn_unbarred (by simp [hlow])
  case watchdog =>
    intro s hready
    exact goOn_guarded hready
  case lockstep =>
    intro s hpresent
    exact goOn_guarded hpresent
  case ready =>
    intro t k s hdue hdown hpower hnow hbank
    exact (goOn_next s _).trans (by rw [State.islandBoots_due hdue hdown hpower hnow hbank])
  case verified =>
    intro s hready hnow
    exact goOn_guarded (by simp [hready, hnow])
  case restart =>
    intro t s hdue hnow
    exact (goOn_next s _).trans (by rw [State.islandRestarts_due hdue hnow])
  case reply =>
    intro m ms s hpresent hout
    exact (goOn_guarded hpresent).trans (by rw [State.serviceRead_oldest hout])
  case load =>
    intro j s b t u hload hflash hgood hkeep
    exact (goOn_next s _).trans (by rw [State.messageLoaded_sound hload hflash hgood hkeep])

end Sys2Proof.Machine
end

section
/-!
PROOFS. Plain contacts: an input with SUPERVISED clear (R506).
-/
namespace Sys2Proof.Machine

/-! ## The band of a plain contact -/

section
variable {e : List Byte} (mv : Nat)

theorem bandOf_plain (h : SafCfg.inSupervised e = false) : bandOf e mv = if mv ≤ u16 e 4 then 1 else 0 := by
  simp [bandOf, h]

/-- No voltage is in BETWEEN. -/
theorem bandOf_plain_ne_between (h : SafCfg.inSupervised e = false) : bandOf e mv ≠ 4 := by
  rw [bandOf_plain mv h]
  split <;> decide

theorem ofBand_plain (h : SafCfg.inSupervised e = false) :
    InState.ofBand (bandOf e mv) = if mv ≤ u16 e 4 then .active else .normal := by
  rw [bandOf_plain mv h]
  split <;> rfl

end

/-! ## A sample (R504) -/

section
variable {s : State} {i mv : Nat}

@[simp] theorem State.safIn_setSafIn_same (s : State) (i : Nat) (x : SafInput) : (s.setSafIn i x).safIn i = x :=
  tget_tput_same s.saf.inputs i x

theorem State.inputEntry_sampleInput (s : State) (i mv : Nat) (j : Nat) :
    (s.sampleInput i mv).saf.inputEntry j = s.saf.inputEntry j := by
  unfold State.sampleInput
  dsimp only
  split <;> rfl

theorem State.safIn_sampleInput_disabled (h : SafCfg.inEnabled (s.saf.inputEntry i) = false) :
    (s.sampleInput i mv).safIn i = { SafInput.reset with mv := mv } := by
  simp [State.sampleInput, h]

/-- A sample of an enabled plain contact is outside BETWEEN. -/
theorem State.safIn_sampleInput_plain (h : SafCfg.inEnabled (s.saf.inputEntry i) = true)
    (hplain : SafCfg.inSupervised (s.saf.inputEntry i) = false) :
    (s.sampleInput i mv).safIn i =
      let b := bandOf (s.saf.inputEntry i) mv
      { s.safIn i with
        band := b, mv := mv, run := if b = (s.safIn i).band then min 65535 ((s.safIn i).run + 1) else 1
        between := none } := by
  simp [State.sampleInput, h, bandOf_plain_ne_between mv hplain]

theorem State.between_sampleInput_plain (hplain : SafCfg.inSupervised (s.saf.inputEntry i) = false) :
    ((s.sampleInput i mv).safIn i).between = none := by
  cases h : SafCfg.inEnabled (s.saf.inputEntry i) with
  | false => rw [State.safIn_sampleInput_disabled h]; rfl
  | true => rw [State.safIn_sampleInput_plain h hplain]

/-! ## The events of an input (R505-R507) -/

theorem State.inputBandOut_settled (h : (s.safIn i).between = none) : s.inputBandOut i = s := by
  simp only [State.inputBandOut, h]

theorem State.inputDue_enabled (h : s.inputDue i = true) : SafCfg.inEnabled (s.saf.inputEntry i) = true := by
  simp only [State.inputDue, Bool.and_eq_true] at h
  obtain ⟨⟨⟨⟨-, henabled⟩, -⟩, -⟩, -⟩ := h
  exact henabled

/-- The state that a plain contact takes is that of its last sample. -/
theorem State.ofBand_sampleInput_plain (h : SafCfg.inEnabled (s.saf.inputEntry i) = true)
    (hplain : SafCfg.inSupervised (s.saf.inputEntry i) = false) :
    InState.ofBand ((s.sampleInput i mv).safIn i).band =
      if ((s.sampleInput i mv).safIn i).mv ≤ u16 (s.saf.inputEntry i) 4 then .active else .normal := by
  rw [State.safIn_sampleInput_plain h hplain]
  exact ofBand_plain mv hplain

theorem exec_inputBandTimeout (h : i < 8) : exec (.inputBandTimeout i) s = .next (s.goesTo (s.inputBandOut i)) :=
  ran_next _ _ _ (decide_eq_true h)

theorem exec_inputStateChange_due (h : i < 8) (hdue : s.inputDue i = true) :
    exec (.inputStateChange i) s = .next (s.goesTo (s.inputTakes i (InState.ofBand (s.safIn i).band))) :=
  (ran_next _ _ _ (decide_eq_true h)).trans (by rw [if_pos hdue])

end

/-- Settles O55: a plain contact has two bands, neither of them BETWEEN, and only an enabled input is due. -/
theorem plainContact : Obligations.PlainContact := by
  refine ⟨fun _ mv hplain => ofBand_plain mv hplain, fun _ _ _ hplain => State.between_sampleInput_plain hplain,
    ?events⟩
  intro i mv s hi hplain u
  refine ⟨?timeout, ?change⟩
  case timeout =>
    rw [exec_inputBandTimeout hi, State.inputBandOut_settled (State.between_sampleInput_plain hplain)]
  case change =>
    intro hdue
    have henabled : SafCfg.inEnabled (s.saf.inputEntry i) = true :=
      State.inputEntry_sampleInput s i mv i ▸ State.inputDue_enabled hdue
    rw [exec_inputStateChange_due hi hdue, State.ofBand_sampleInput_plain henabled hplain]

end Sys2Proof.Machine
end

section
/-!
PROOFS. Commands that a Foresight passes on to its Backsight (chapter 14): numbered, sent, and kept for one boundary.
-/
namespace Sys2Proof.Machine

theorem atBoundary_accepted {check : Req → State → Option Nat} {effect : Req → State → State} {r : Req} {s : State}
    (h : check r s = none) : atBoundary check effect false r s = .boundary := by
  simp [atBoundary, h]

theorem offer_at_none {s t : State} {q op : Nat} {i : OpInfo} {r : Req} (h : s.offer q op = some (t, i, r))
    (hatRi : r.atRi = false) : r.at? = none := by
  obtain ⟨-, -, -, hat⟩ := offer_facts h
  exact Option.not_isSome_iff_eq_none.mp (by simp [← hat, hatRi])

/-- Where a command is mirrored, its boundary is LEAD_US on, not the next one (R591). -/
theorem carryOut_boundary_mirrored {t : State} {i : OpInfo} {r : Req} (hm : t.mirrors i r = true)
    (hatRi : r.atRi = false) (hat : r.at? = none) :
    t.carryOut i r .boundary =
      let m := { r with mseq := some (t.pair.mseq + 1) }
      let due := t.boundaryAfterUs t.leadUs
      ((t.accept r).mirrorCommand m due).addPending { req := m, due := due, atRi := false, acked := false } := by
  have hnumbered : ({ r with mseq := some (t.pair.mseq + 1) } : Req).atRi = false := hatRi
  simp only [State.carryOut, hm, hnumbered, Bool.false_eq_true, if_true, if_false]
  simp only [hat]

/-- A row whose body defers to a boundary behind one check passes its command on, once that check passes. -/
theorem mirrors_atBoundary {c : Nat → Instr} {op : Nat} {check : Req → State → Option Nat} {effect : Req → State → State}
    {name : String} (he : ∀ q s, exec (c q) s = commandRow name op (atBoundary check effect) q s) :
    Mirrors c op (passes check) := by
  intro q s t i r m due hoffer hpass hm hatRi
  rw [he, commandRow_offer name _ hoffer, atBoundary_accepted hpass,
    carryOut_boundary_mirrored hm hatRi (offer_at_none hoffer hatRi)]

/-- Settles O52: each of these rows defers to a boundary behind one check, and what `carryOut` does with a mirrored
command that waits for a boundary is the same for all of them (R588, R590, R591). -/
theorem commandsMirrored : Obligations.CommandsMirrored := by
  unfold Obligations.CommandsMirrored
  and_intros
  all_goals exact mirrors_atBoundary fun _ _ => rfl

end Sys2Proof.Machine
end

section
/-!
PROOFS. Firmware in service (chapters 13 and 15): the commands that stage it and program the OTP, the ROM's choice of a
bank, and the ends of trials.
-/
namespace Sys2Proof.Machine

section
variable {b : Bool} {r : Req} {s : State}

/-! ## Commands (R617, R626, R574) -/

/-- With a boot record in force, its 64 bytes are those that are answered. -/
theorem sysFwStatusBody_recorded (h : s.bootRecord.isSome = true) :
    sysFwStatusBody b r s =
      .done s (((s.bootRecord.map (·.2)).getD []) ++ (le 1 s.sys.fwBank ++ le 1 (s.sys.staged.getD 0xFF)
        ++ le 2 s.trialLeft ++ le 4 (s.bankVersion 0) ++ le 4 (s.bankVersion 1))) := by
  obtain ⟨x, hx⟩ := Option.isSome_iff_exists.1 h
  simp only [sysFwStatusBody, hx, Option.map_some, Option.getD_some]

theorem sysFwStageBody_deferred (hsrc : u8 r.params 0 ≤ 1) (hz : zeroAt r.params 1 3 = true)
    (hz16 : zeroAt r.params 16 4 = true) (hstage : s.sys.stage = none) (htrial : s.sys.trial = none)
    (hlong : s.isReady Rdy.longStore = true) :
    sysFwStageBody b r s = .deferred (s.beginStage r) := by
  have h : ¬ 1 < u8 r.params 0 := Nat.not_lt.2 hsrc
  simp [sysFwStageBody, h, hz, hz16, hstage, htrial, hlong]

theorem sysFwConfirmBody_inTrial (h : s.sys.trial.isSome = true) :
    sysFwConfirmBody b r s = .done s.confirmTrial [] := by
  simp only [sysFwConfirmBody, if_pos h]

theorem otpProgramBody_deferred (hidle : s.otp.job = none) (hblank : s.otp.blank.isSome = true)
    (hrec : baseRecordOk (slice r.params 4 512) = true) (hid : u32 r.params 0 = u32 s.otp.ident 0)
    (htemp : s.fab.tjMax ≤ 340) :
    otpProgramBody b r s = .deferred { s with
      otp := { s.otp with
        job := some (s.otp.blank.getD 0, filledRecord (s.otp.blank.getD 0) (slice r.params 4 512), r) } } := by
  obtain ⟨g, hg⟩ := Option.isSome_iff_exists.1 hblank
  simp [otpProgramBody, hidle, hg, hrec, hid, Int.not_lt.2 htemp]

end

/-- Settles O11, by the bodies' equations above; SYS_FW_CHUNK writes at once behind its one check. -/
theorem firmwareCommandsComplete : Obligations.FirmwareCommandsComplete :=
  ⟨finishes_of (fun _ _ => rfl) fun _ _ _ h => sysFwStatusBody_recorded h,
    finishes_atOnce fun _ _ => rfl,
    defers_of (fun _ _ => rfl) fun _ _ _ ⟨hsrc, hz, hz16, hstage, htrial, hlong⟩ =>
      .inl (sysFwStageBody_deferred hsrc hz hz16 hstage htrial hlong),
    finishes_of (fun _ _ => rfl) fun _ _ _ h => sysFwConfirmBody_inTrial h,
    defers_of (fun _ _ => rfl) fun _ _ _ ⟨hidle, hblank, hrec, hid, htemp⟩ =>
      .inl (otpProgramBody_deferred hidle hblank hrec hid htemp)⟩

section
variable {s : State}

/-! ## The ROM's choice of a bank (R617, R620) -/

/-- After a main reset the ROM boots the bank it chooses. -/
theorem State.romBoots_chosen {k : Nat} (hout : s.sys.inReset = false) (hfirst : s.sys.booted = false)
    (hrec : s.sys.recovery = false) (hhalt : s.sys.halted = false) (hpins : s.sys.bootPins ≠ 4)
    (hk : ((s.sysMod fun x => { x with keyBoot := s.host.bootCount }).noteFailed
      (s.sysMod fun x => { x with keyBoot := s.host.bootCount }).romFailed).romChoice = some k) :
    s.romBoots =
      let t := s.sysMod fun x => { x with keyBoot := s.host.bootCount }
      (t.noteFailed t.romFailed).firstBoot k t.romFailed := by
  simp only [State.romBoots, hout, hfirst, hrec, hhalt, Bool.or_self, Bool.false_eq_true, if_false,
    State.sysMod_sys, hpins, false_and, hk]

/-- After a restart of the cluster the ROM boots the bank it chooses. -/
theorem State.clusterBoots_chosen {k : Nat} (hout : s.sys.inReset = false) (hbooted : s.sys.booted = true)
    (hdown : s.sys.running = false) (hrec : s.sys.recovery = false) (hhalt : s.sys.halted = false)
    (hk : (s.noteFailed s.romFailed).romChoice = some k) :
    s.clusterBoots = (s.noteFailed s.romFailed).clusterBack k s.romFailed := by
  simp only [State.clusterBoots, hout, hbooted, hdown, hrec, hhalt, Bool.not_true, Bool.or_self, Bool.false_eq_true,
    if_false, hk]

/-! ## The end of a stage (R626) -/

/-- Outside recovery a sound image is placed and answered, and nothing boots. -/
theorem State.stageEnds_placed {j : StageJob} (hstage : s.sys.stage = some j)
    (hgood : (s.sysMod fun x => { x with stage := none }).stageFail j = none) (hrec : s.sys.recovery = false) :
    s.stageEnds = ((s.sysMod fun x => { x with stage := none }).placeImage j.image).finish j.req Status.ok
      (zeros 1 ++ (le 1 (Fw.target j.image) ++ zeros 2 ++ le 4 (Fw.version j.image))) := by
  simp only [State.stageEnds, hstage, hgood, State.sysMod_sys, hrec, Bool.false_and, Bool.false_eq_true, if_false]

/-! ## The ends of a trial (R627) -/

theorem State.trialConfirms_due {t : Trial} (htrial : s.sys.trial = some t) (hauto : t.auto = true)
    (hrun : s.sys.running = true) (hdue : s.sys.clusterAt + 60 * second ≤ s.time.elapsed) :
    s.trialConfirms = s.confirmTrial := by
  simp only [State.trialConfirms, htrial, if_pos (And.intro hauto (And.intro hrun hdue))]

theorem State.trialTimesOut_due {t : Trial} (htrial : s.sys.trial = some t) (hauto : t.auto = false)
    (hrun : s.sys.running = true) (hdue : t.from_ + 600 * second ≤ s.time.elapsed) :
    s.trialTimesOut = (((s.settleBoot s.verifiedBank).markFirmware 2).sysMod fun x =>
      { x with trial := none, reverted := some 0x14 }).clusterRestart 0x14 := by
  simp only [State.trialTimesOut, htrial, if_pos (And.intro hauto (And.intro hrun hdue))]

/-! ## The end of OTP programming (R574) -/

section
variable {g : Nat} {content : List Byte} {r : Req}

theorem State.otpEnds_valid (hjob : s.otp.job = some (g, content, r)) :
    s.otpEnds 0 = ((({ s with otp := { s.otp with job := none } }).setGen g
      { state := .valid, record := content }).event 0x0C01 Sev.notice 0x0C 0x0000 (le 1 g)).finish r
        Status.ok (le 1 g ++ zeros 3) := by
  simp only [State.otpEnds, hjob, if_true]

/-- A read-back that fails spends the generation. -/
theorem State.otpEnds_spent {step : Nat} (hjob : s.otp.job = some (g, content, r)) (hstep : step ≠ 0) :
    s.otpEnds step = ((({ s with otp := { s.otp with job := none } }).setGen g
      { state := .spent, record := content }).event 0x0C02 Sev.error 0x0C 0x0000 (le 1 g ++ le 1 step)).finish r
        Status.internal (le 1 g ++ zeros 3) := by
  simp only [State.otpEnds, hjob, if_neg hstep]

/-- Programming ends well, or at the read-back of step 3 or 4. -/
theorem exec_otpProgramDone {step : Nat} (h : step = 0 ∨ step = 3 ∨ step = 4) :
    exec (.otpProgramDone step) s = .next (s.goesTo (s.otpEnds step)) :=
  ran_next _ _ _ (by simpa [or_assoc] using h)

end

end

/-- Settles O33: each event where it is due is that of its equation above. That FIRMWARE_BOOT stores the boot count is
log 124, and that a trial that times out sets the sticky bit is log 123, both deduced. -/
theorem firmwareEventsComplete : Obligations.FirmwareEventsComplete := by
  refine ⟨?boot, ?fails, ?ready, ?staged, ?confirm, ?timeout, ?otp⟩
  case boot =>
    intro k s hout hfirst hrec hhalt hpins t hk
    exact (goOn_next s _).trans (by rw [State.romBoots_chosen hout hfirst hrec hhalt hpins hk])
  case fails =>
    intro s hrun
    exact ⟨goOn_guarded hrun, goOn_guarded hrun⟩
  case ready =>
    intro k s hout hbooted hdown hrec hhalt hk
    exact (goOn_next s _).trans (by rw [State.clusterBoots_chosen hout hbooted hdown hrec hhalt hk])
  case staged =>
    intro j s t hstage hgood hrec _
    exact (goOn_next s _).trans (by rw [State.stageEnds_placed hstage hgood hrec])
  case confirm =>
    intro t s htrial hauto hrun hdue
    exact (goOn_next s _).trans (by rw [State.trialConfirms_due htrial hauto hrun hdue])
  case timeout =>
    intro t s htrial hauto hrun hdue
    exact (goOn_next s _).trans (by rw [State.trialTimesOut_due htrial hauto hrun hdue])
  case otp =>
    intro g content r s hjob
    exact ⟨by rw [exec_otpProgramDone (.inl rfl), State.otpEnds_valid hjob],
      by rw [exec_otpProgramDone (.inr (.inl rfl)), State.otpEnds_spent hjob (by decide)]⟩

end Sys2Proof.Machine
end

section
/-!
PROOFS. Reset, release and the self-tests (chapter 15), and what State.reset holds.
-/
namespace Sys2Proof.Machine

section
variable {s : State}

/-! ## Temperature (R354, R662) -/

theorem State.thermalRead_below {t : List Int} (hcool : s.sys.hot = false) (hout : s.sys.inReset = false)
    (htop : hottest t ≤ 500) : s.thermalRead t = s.readSensors t := by
  simp only [State.thermalRead, hcool, hout, Bool.false_eq_true, if_false, if_neg (Int.not_lt.2 htop)]

theorem State.thermalRead_above {t : List Int} (hcool : s.sys.hot = false) (hout : s.sys.inReset = false)
    (htop : 500 < hottest t) :
    s.thermalRead t = (s.mainReset 4).sysMod fun x => { x with hot := true } := by
  simp only [State.thermalRead, hcool, hout, Bool.false_eq_true, if_false, if_pos htop]

/-! ## Main resets and their release (R611, R612, R634) -/

theorem State.resetFalls_running (hout : s.sys.inReset = false) :
    s.resetFalls = (s.mainReset 2).sysMod fun x => { x with resetLow := true } := by
  simp only [State.resetFalls, hout, Bool.false_eq_true, if_false]

theorem State.resetRises_cool (boot : Nat) (pair : Bool) (hin : s.sys.inReset = true) (hcool : s.sys.hot = false) :
    s.resetRises boot pair =
      (s.sysMod fun x => { x with resetLow := false, bootPins := boot, pairPin := pair }).released boot pair := by
  simp only [State.resetRises, State.sysMod_sys, hin, hcool, Bool.not_false, Bool.and_self, if_true]

theorem State.commandReset_due {t : Nat} (boot : Nat) (pair : Bool) (hdue : s.sys.resetDue = some t)
    (hnow : t ≤ s.time.elapsed) (hout : s.sys.inReset = false) :
    s.commandReset boot pair = (s.mainReset 3).released boot pair := by
  simp only [State.commandReset, hdue, if_pos (And.intro hnow hout)]

/-! ## The self-tests (R370, R624) -/

theorem State.fieldTested_pending (ok : Bool) (hout : s.sys.inReset = false)
    (hwait : s.isReady Rdy.fieldStore = false) :
    s.fieldTested ok = if ok then
      ({ s with mem := s.mem.filter fun x => !isField x.1 }).setReady Rdy.fieldStore true else s.markMemory 4 := by
  simp only [State.fieldTested, hout, hwait, Bool.or_self, Bool.false_eq_true, if_false]

theorem State.longTrained_pending (ok : Bool) (hout : s.sys.inReset = false)
    (hwait : s.isReady Rdy.longStore = false) :
    s.longTrained ok = if ok then s.setReady Rdy.longStore true else s.markMemory 5 := by
  simp only [State.longTrained, hout, hwait, Bool.or_self, Bool.false_eq_true, if_false]

/-- Where no partition fails, every partition of the profile is powered and usable. -/
theorem State.fabricTested_allPass (hout : s.sys.inReset = false) (hwait : s.isReady Rdy.fabric = false)
    (hfresh : s.fab.failed = 0) :
    s.fabricTested 0 =
      let w : Word := BitVec.ofNat 32 (profPowered s.fab.active) ||| 1
      (((s.fabMod fun f => { f with
        powered := w, usable := w, ceil := f.ceilNow, floor := bandFloor (profBand f.active) }).setReady
          Rdy.fabric true).setReady Rdy.dynamics true).aimVcode := by
  simp only [State.fabricTested, State.fabMod, hout, hwait, hfresh, BitVec.ofNat_eq_ofNat, BitVec.not_zero,
    BitVec.and_allOnes, bne_self_eq_false, Bool.or_self, Bool.false_eq_true, if_false, if_true, Nat.zero_mod,
    Nat.zero_ne_one]

theorem exec_fabricSelftestDone {failed : Nat} (h : failed < 65536) :
    exec (.fabricSelftestDone failed) s = .next (s.goesTo (s.fabricTested failed)) :=
  ran_next _ _ _ (decide_eq_true h)

end

/-- Settles O32, by the equations above; a loss of a main supply needs no condition. -/
theorem startCompletes : Obligations.StartCompletes := by
  refine ⟨?below, ?above, ?supply, ?assert, ?release, ?command, ?field, ?long, ?fabric⟩
  case below =>
    intro t s hcool hout htop
    exact (goOn_next s _).trans (by rw [State.thermalRead_below hcool hout htop])
  case above =>
    intro t s hcool hout htop
    exact (goOn_next s _).trans (by rw [State.thermalRead_above hcool hout htop])
  case supply =>
    intro s
    exact goOn_next s _
  case assert =>
    intro s hout
    exact (goOn_next s _).trans (by rw [State.resetFalls_running hout])
  case release =>
    intro boot pair s hboot hin hcool
    exact (ran_next _ s _ (decide_eq_true hboot)).trans (by rw [State.resetRises_cool boot pair hin hcool])
  case command =>
    intro boot t pair s hboot hdue hnow hout
    exact (ran_next _ s _ (decide_eq_true hboot)).trans (by rw [State.commandReset_due boot pair hdue hnow hout])
  case field =>
    intro s hout hwait
    exact ⟨(goOn_next s _).trans (by rw [State.fieldTested_pending true hout hwait, if_pos rfl]),
      (goOn_next s _).trans (by rw [State.fieldTested_pending false hout hwait, if_neg Bool.false_ne_true])⟩
  case long =>
    intro s hout hwait
    exact ⟨(goOn_next s _).trans (by rw [State.longTrained_pending true hout hwait, if_pos rfl]),
      (goOn_next s _).trans (by rw [State.longTrained_pending false hout hwait, if_neg Bool.false_ne_true])⟩
  case fabric =>
    intro s hout hwait hfresh w
    rw [exec_fabricSelftestDone (by decide), State.fabricTested_allPass hout hwait hfresh]

/-! ## The reset state (R612) -/

theorem State.queue_reset (q : Nat) : State.reset.queue q = Queue.reset := rfl

/-- An empty queue is in order, whatever the size of its banks. -/
theorem Queue.reset_sound (q : Nat) : Queue.reset.sound q = true :=
  sound_iff.2 ⟨(ordered_none_iff rfl).2 (Bool.forall_bool.2 ⟨Bank.empty_closed _, Bank.empty_closed _⟩), .inr rfl⟩

theorem State.queueOk_of_idle {s : State} (h : s.pending = []) : s.queueOk := by simp [State.queueOk, h]

/-- Settles O5: nothing is listed at reset, and an empty queue is in order. What `State.reset` holds, and that
memory nothing has written reads 0, so that none of it is listed, are the model's choices (logs 6 and 7). -/
theorem resetInvariants : Obligations.ResetInvariants :=
  ⟨rfl, State.queueOk_of_idle rfl, wf_reset, rfl, rfl, rfl, fun q => State.queue_reset q ▸ Queue.reset_sound q⟩

end Sys2Proof.Machine
end

section
/-!
PROOFS. One step, with a command waiting and with none, and the rows whose event a condition guards.
-/
namespace Sys2Proof.Machine

/-- Settles O1: a step at a queue with a front is that command's `exec`. -/
theorem stepRunsFront : Obligations.StepRunsFront := fun _ _ _ => step_of_front

/-- A tick moves the clocks of the device and of the island alone. -/
theorem State.tick_clocks (s : State) : ∃ (now : DevTime) (slew : Nat) (island : DevTime), s.tick = { s with
    time := { s.time with now := now, slewLeft := slew, elapsed := s.time.elapsed + s.cycleNs }
    saf := { s.saf with time := island } } := by
  have hisland : s.tick.saf = { s.saf with time := s.tick.saf.time } := by
    unfold State.tick
    dsimp only
    split <;> rfl
  refine ⟨s.tick.time.now, s.tick.time.slewLeft, s.tick.saf.time, ?_⟩
  rw [← hisland]
  rfl

/-- Settles O2. That a cycle passes where no command waits is the model's choice (log 2). -/
theorem emptyQueueTicks : Obligations.EmptyQueueTicks := by
  intro s hidle
  obtain ⟨now, slew, island, htick⟩ := s.tick_clocks
  exact ⟨now, slew, island, htick ▸ step_of_idle hidle⟩

/-! ## Rows with a guard -/

section
variable {s t u : State} {c : Prop} [Decidable c] {wf : Bool} {name : String}

/-- A row with operands whose event is guarded happens where they name units and the guard holds. -/
theorem ran_guarded (hwf : wf = true) (h : c) : ran wf name s (if c then t else u) = .next (s.goesTo t) := by
  rw [if_pos h, ran_next _ _ _ hwf]

/-- A row with operands whose event is barred happens where they name units and the bar does not hold. -/
theorem ran_unbarred (hwf : wf = true) (h : ¬ c) : ran wf name s (if c then t else u) = .next (s.goesTo u) := by
  rw [if_neg h, ran_next _ _ _ hwf]

end

end Sys2Proof.Machine
end

section
/-!
PROOFS. Commands of the clock (chapter 4) and of the network ports (chapter 5).
-/
namespace Sys2Proof.Machine

section
variable {b : Bool} {r : Req} {s : State}

/-! ## Clock commands (R197, R203) -/

theorem notMediaLoop_eq_false {l : Nat} (h : l = 1 ∨ l = 2) : (l != 1 && l != 2) = false := by
  rcases h with h | h <;> simp [h]

theorem merHopLearnBody_deferred (hl : u8 r.params 0 = 1 ∨ u8 r.params 0 = 2) (hmode : u8 r.params 1 ≤ 3)
    (hkind : u8 r.params 2 ≠ 0) (href : referenceOk (u8 r.params 2) (u8 r.params 3) 0 (u32 r.params 4) = true)
    (hlow : u16 r.params 8 ≠ 0) (hhigh : u16 r.params 10 ≠ 0)
    (hsearch : (s.loop (u8 r.params 0)).state ≠ .search) (hlearn : (s.loop (u8 r.params 0)).learn = none) :
    merHopLearnBody b r s = .deferred (s.modLoop (u8 r.params 0) fun x =>
      { x with learn := some (u8 r.params 1, learnCfg r.params x.cfg, r) }) := by
  have h3 : ¬ 3 < u8 r.params 1 := Nat.not_lt.2 hmode
  simp [merHopLearnBody, notMediaLoop_eq_false hl, h3, hkind, href, hlow, hhigh, hsearch, hlearn]

theorem merLoopRealignBody_deferred (hl : u8 r.params 0 = 1 ∨ u8 r.params 0 = 2)
    (hz : zeroAt r.params 1 3 = true)
    (hstate : (s.loop (u8 r.params 0)).state = .locked ∨ (s.loop (u8 r.params 0)).state = .coast ∨
      (s.loop (u8 r.params 0)).state = .holdover) :
    merLoopRealignBody b r s =
      .deferred ((s.modLoop (u8 r.params 0) fun x => { x with realignReq := some r }).realign (u8 r.params 0)
        (s.loop (u8 r.params 0)).phaseErr) := by
  rcases hstate with h | h | h <;> simp [merLoopRealignBody, notMediaLoop_eq_false hl, hz, h]

/-! ## Ports, frames and nodes (R210, R215, R226, R232, R243) -/

theorem netPortConfigBody_done (h : portConfigBad r.params = false) :
    netPortConfigBody b r s = .done (s.configPort r.params) [] := by
  simp [netPortConfigBody, atOnce, firstFail, h]

theorem netSendBody_done (hport : u8 r.params 0 ≤ 2 ∨ u8 r.params 0 = 4) (hflags : u8 r.params 1 < 8)
    (hz : zeroAt r.params 14 2 = true) (hlaunch : bitOf (u8 r.params 1) 2 = true → u32 r.params 10 < second)
    (hmac : slice (r.params.drop 16) 6 6 = s.macOf (u8 r.params 0))
    (hlen : wireLen (r.params.drop 16) ≤ s.maxFrame (u8 r.params 0)) :
    netSendBody b r s = .done (s.queueTx (u8 r.params 0) 6
      { bytes := r.params.drop 16
        launch := if bitOf (u8 r.params 1) 2 then some (u48 r.params 4, u32 r.params 10) else none
        stamp := bitOf (u8 r.params 1) 0, oneStep := bitOf (u8 r.params 1) 1, tag := u16 r.params 2
        slot := some r.slot, lastRi := none, held := false, replay := false }) [] := by
  have hp : ¬ (u8 r.params 0 = 3 ∨ 4 < u8 r.params 0 ∨ 8 ≤ u8 r.params 1) := by omega
  have hl : ¬ (bitOf (u8 r.params 1) 2 = true ∧ second ≤ u32 r.params 10) :=
    fun ⟨hbit, hle⟩ => Nat.not_le.2 (hlaunch hbit) hle
  have hbad : ¬ (u8 r.params 0 = 3 ∨ 4 < u8 r.params 0 ∨ 8 ≤ u8 r.params 1 ∨ zeroAt r.params 14 2 = false ∨
      (bitOf (u8 r.params 1) 2 = true ∧ second ≤ u32 r.params 10) ∨
      slice (r.params.drop 16) 6 6 ≠ s.macOf (u8 r.params 0)) := by
    simp only [hz, hl, hmac, ne_eq, not_true_eq_false, Bool.true_eq_false, or_false]
    exact hp
  simp only [netSendBody, if_neg hbad, if_neg (Nat.not_lt.2 hlen)]

theorem netFbForgetBody_known (habsent : (s.node r.index).present = false)
    (hknown : (s.node r.index).known = true) :
    netFbForgetBody b r s =
      .done ((s.setNode r.index { s.node r.index with known := false }).bumpGen r.target) [] := by
  simp only [netFbForgetBody, habsent, hknown, Bool.false_eq_true, if_false, if_true]

end

/-- Settles O12, by the bodies' equations above; the commands of device time and of launches take effect at once behind
one check each, and MER_LOOP_CONFIG at its boundary. -/
theorem clockCommandsComplete : Obligations.ClockCommandsComplete :=
  ⟨finishes_atOnce fun _ _ => rfl, finishes_atOnce fun _ _ => rfl, finishes_atOnce fun _ _ => rfl,
    finishes_atOnce fun _ _ => rfl, finishes_atOnce fun _ _ => rfl, finishes_atOnce fun _ _ => rfl,
    finishes_of (fun _ _ => rfl) fun _ _ _ _ => rfl,
    finishes_atOnce fun _ _ => rfl, finishes_atOnce fun _ _ => rfl,
    boundaryCommand_of (fun _ _ => rfl) rfl rfl,
    defers_of (fun _ _ => rfl) fun _ _ _ ⟨hl, hmode, hkind, href, hlow, hhigh, hsearch, hlearn⟩ =>
      .inl (merHopLearnBody_deferred hl hmode hkind href hlow hhigh hsearch hlearn),
    defers_of (fun _ _ => rfl) fun _ _ _ ⟨hl, hz, hstate⟩ => .inl (merLoopRealignBody_deferred hl hz hstate)⟩

/-- Settles O13, by the bodies' equations above. That NET_SEND fills queue 6, and that its port code 4 is Port F, are
the model's presumptions (logs 36 and 35). -/
theorem networkCommandsComplete : Obligations.NetworkCommandsComplete :=
  ⟨finishes_of (fun _ _ => rfl) fun _ _ _ h => netPortConfigBody_done h,
    finishes_atOnce fun _ _ => rfl, finishes_atOnce fun _ _ => rfl, finishes_atOnce fun _ _ => rfl,
    finishes_of (fun _ _ => rfl) fun _ _ _ ⟨hport, hflags, hz, hlaunch, hmac, hlen⟩ =>
      netSendBody_done hport hflags hz hlaunch hmac hlen,
    finishes_atOnce fun _ _ => rfl,
    finishes_of (fun _ _ => rfl) fun _ _ _ ⟨habsent, hknown⟩ => netFbForgetBody_known habsent hknown⟩

end Sys2Proof.Machine
end

section
/-!
PROOFS. Commands of a pair (chapter 14), and what the island answers (chapter 12).
-/
namespace Sys2Proof.Machine

section
variable {b : Bool} {r : Req} {s : State}

/-! ## Commands of a pair (R592, R605, R606, R609) -/

theorem pairHandoverBody_held (hrole : s.pair.state = .foresight) (hpeer : s.peerTakes = true)
    (hidle : s.pair.handover = none) :
    pairHandoverBody b r s =
      (let h := r.at?.getD (s.boundaryAfterUs s.leadUs)
       .hold true ((s.pairMod fun p => { p with handover := some { h := h, req := some r, acked := false } }).sendRole
        4 0 h s.pair.state.code s.dat.id)) := by
  simp [pairHandoverBody, hrole, hpeer, hidle]

theorem pairPeerLoadBody_deferred (hhost : r.origin = .host) (hrole : s.pair.state = .foresight)
    (hz : zeroAt r.params 12 4 = true) (hlen : u32 r.params 8 ≠ 0)
    (hregion : oneRegion (u64 r.params 0) (u32 r.params 8) = true)
    (hplace : inHostMemory (u64 r.params 0) (u32 r.params 8) = true ∨
      mirroredAddr (u64 r.params 0) = true ∧ mirroredAddr (u64 r.params 0 + u32 r.params 8 - 1) = true)
    (hread : r.mayRead s (u64 r.params 0) (u32 r.params 8) = true) (hsettled : s.pair.settled = true)
    (hidle : s.pair.peerLoad = false) (hphase : s.dat.phase = 0) :
    pairPeerLoadBody b r s = .deferred (s.sendPeerLoad r) := by
  have hboth : (inHostMemory (u64 r.params 0) (u32 r.params 8) ||
      (mirroredAddr (u64 r.params 0) && mirroredAddr (u64 r.params 0 + u32 r.params 8 - 1))) = true := by
    simpa only [Bool.or_eq_true, Bool.and_eq_true] using hplace
  simp [pairPeerLoadBody, hhost, hrole, hz, hlen, hregion, hboth, hread, hsettled, hidle, hphase]

theorem pairRejoinBody_apart (h : s.pair.state = .seeking ∨ s.pair.state = .isolated) :
    pairRejoinBody b r s = .done s.requestJoin [] := by
  simp only [pairRejoinBody, if_pos h]

/-! ## Queries of the island (R531, R532, R539, R540) -/

theorem safCfgReadBody_done (hready : s.saf.ready = true) (h1 : 1 ≤ u16 r.params 0) (h9 : u16 r.params 0 ≤ 9)
    (hsel : u8 r.params 2 ≤ 1) (hz : u8 r.params 3 = 0) :
    safCfgReadBody b r s =
      .done s (readSection (if u8 r.params 2 = 1 then s.saf.staged else s.saf.cfg) (u16 r.params 0)) := by
  have hparams : ¬ (u16 r.params 0 = 0 ∨ 9 < u16 r.params 0 ∨ 1 < u8 r.params 2 ∨ u8 r.params 3 ≠ 0) := by omega
  simp only [safCfgReadBody, whenReady_ready _ hready, if_neg hparams]

theorem safLogReadBody_done (hready : s.saf.ready = true) (hsel : u8 r.params 0 ≤ 1) (hz : u8 r.params 1 = 0)
    (h1 : 1 ≤ u16 r.params 2) (h64 : u16 r.params 2 ≤ 64) (hfrom : u32 r.params 4 ≤ 65535) :
    safLogReadBody b r s =
      .done s ((((if u8 r.params 0 = 0 then s.saf.log else s.saf.flashLog).filter fun e =>
        decide ((e.lseq + 65536 - u32 r.params 4) % 65536 < 32768)).take (u16 r.params 2)).flatMap
          SafLogEntry.bytes) := by
  have hparams : ¬ (1 < u8 r.params 0 ∨ u8 r.params 1 ≠ 0 ∨ u16 r.params 2 = 0 ∨ 64 < u16 r.params 2 ∨
      65535 < u32 r.params 4) := by omega
  simp only [safLogReadBody, whenReady_ready _ hready, if_neg hparams]

theorem safLinesBody_done (hready : s.saf.ready = true) (hfirst : u16 r.params 0 ≤ 127) (hz : u16 r.params 2 = 0) :
    safLinesBody b r s =
      .done s (((List.range s.saf.lineEntries.length).drop (u16 r.params 0)).flatMap (lineData s)) := by
  have hparams : ¬ (127 < u16 r.params 0 ∨ u16 r.params 2 ≠ 0) := by omega
  simp only [safLinesBody, whenReady_ready _ hready, if_neg hparams]

end

/-- Settles O19, by the bodies' equations above; PAIR_CONFIG takes effect at once behind one check, and PAIR_LEAVE
whatever the state. -/
theorem pairCommandsComplete : Obligations.PairCommandsComplete :=
  ⟨finishes_atOnce fun _ _ => rfl,
    defers_of (fun _ _ => rfl) fun _ _ _ ⟨hrole, hpeer, hidle⟩ => .inr (pairHandoverBody_held hrole hpeer hidle),
    defers_of (fun _ _ => rfl)
      fun _ _ hhost ⟨hrole, hz, hlen, hregion, hplace, hread, hsettled, hidle, hphase⟩ =>
        .inl (pairPeerLoadBody_deferred hhost hrole hz hlen hregion hplace hread hsettled hidle hphase),
    finishes_of (fun _ _ => rfl) fun _ _ _ _ => rfl,
    finishes_of (fun _ _ => rfl) fun _ _ _ h => pairRejoinBody_apart h⟩

/-- Settles O20: once the island is ready, each of these rows answers with its data (`whenReady_ready`). -/
theorem islandQueriesComplete : Obligations.IslandQueriesComplete :=
  ⟨finishes_of (fun _ _ => rfl) fun _ _ _ hready => whenReady_ready _ hready,
    finishes_of (fun _ _ => rfl) fun _ _ _ hready => whenReady_ready _ hready,
    finishes_of (fun _ _ => rfl) fun _ _ _ hready => whenReady_ready _ hready,
    finishes_of (fun _ _ => rfl) fun _ _ _ ⟨hready, h1, h9, hsel, hz⟩ => safCfgReadBody_done hready h1 h9 hsel hz,
    finishes_of (fun _ _ => rfl) fun _ _ _ ⟨hready, hsel, hz, h1, h64, hfrom⟩ =>
      safLogReadBody_done hready hsel hz h1 h64 hfrom,
    finishes_of (fun _ _ => rfl) fun _ _ _ ⟨hready, hfirst, hz⟩ => safLinesBody_done hready hfirst hz⟩

end Sys2Proof.Machine
end

section
/-!
PROOFS. The traverse engine (chapter 3): doorbells, grants, fetches, and the ends of a station.
-/
namespace Sys2Proof.Machine

section
variable {s : State} {ch : Nat} {st : Station}

/-! ## Doorbells (R152-R154) -/

/-- A slot rings the doorbell of a channel that it owns. -/
theorem State.chanDoorbell_owner {who : Nat} (v : Nat) (hwho : who < 6) (hch : ch < 32)
    (hf : (s.slot who).frozen = false) (hown : (s.chan ch).owner = who) :
    s.chanDoorbell who ch v = s.modChan ch fun x => x.doorbell v := by
  have hoff : 0x200C + 32 * ch = 0x2000 + 32 * ch + 12 := by omega
  simp only [State.chanDoorbell, if_pos hwho, if_pos hch]
  rw [hoff, State.regWrite_channel v hch (by decide) (by decide) hf hown]
  rfl

/-! ## Grants (R155, R156) -/

theorem State.grant_main {c : Nat} (hfree : s.trav.busy = none)
    (hnext : s.firstWaiting (grantOrder s.trav.lastGrant 0 32) = some c) :
    s.grant false = ({ s with trav := { s.trav with busy := some c, lastGrant := some c } }).modChan c fun x =>
      { x with state := .fetch } := by
  simp only [State.grant, Bool.false_eq_true, if_false, hfree, hnext]

theorem State.grant_island {c : Nat} (hfree : s.trav.busyL = none)
    (hnext : s.firstWaiting (grantOrder s.trav.lastGrantL 32 4) = some c) :
    s.grant true = ({ s with trav := { s.trav with busyL := some c, lastGrantL := some c } }).modChan c fun x =>
      { x with state := .fetch } := by
  simp only [State.grant, if_true, hfree, hnext]

/-! ## Fetches (R144, R148, R158) -/

/-- A station that the owner may read, and that no bus error stops, is fetched and judged. -/
theorem State.fetchStation_judged (hstate : (s.chan ch).state = .fetch) (hreread : (s.chan ch).reread = false)
    (hnone : (s.chan ch).station = none) (hal : (s.chan ch).nextFetch % 32 = 0)
    (hmay : ownerMay s ch false ((s.chan ch).tbase + (s.chan ch).nextFetch) 32 = true)
    (hbus : busFault s ch false ((s.chan ch).tbase + (s.chan ch).nextFetch) 32 = 0) :
    s.fetchStation ch =
      (s.modChan ch fun y => { y with current := (s.chan ch).nextFetch, extPending := false }).judgeStation ch
        (parseStation (s.chan ch).nextFetch s.time.elapsed
          (s.chanRead ch ((s.chan ch).tbase + (s.chan ch).nextFetch) 32)) := by
  simp [State.fetchStation, hstate, hreread, hnone, hal, hmay, hbus]

/-- The tail is still the last station: the channel parks. -/
theorem State.rereadControl_last (hstate : (s.chan ch).state = .fetch) (hreread : (s.chan ch).reread = true)
    (hhold : (s.chan ch).holdAfter = false)
    (hmay : ownerMay s ch false ((s.chan ch).tbase + (s.chan ch).current) 4 = true)
    (hbus : busFault s ch false ((s.chan ch).tbase + (s.chan ch).current) 4 = 0)
    (hlast : bitOf (leNat (s.chanRead ch ((s.chan ch).tbase + (s.chan ch).current) 4)) 31 = true) :
    s.rereadControl ch = s.settleChan ch
      { s.chan ch with reread := false, extPending := false, lastLast := true, state := .parked } := by
  simp [State.rereadControl, hstate, hreread, hhold, hmay, hbus, hlast]

/-! ## The ends of a station (R149, R150, R161, Table 3-15) -/

theorem State.completeStation_running (d : List Byte) (hst : (s.chan ch).station = some st)
    (hres : st.result = none) (hf : (s.chan ch).frozen = false) (ht : (s.chan ch).thawed = false) :
    s.completeStation ch d = s.complete ch st (runStation s ch st d st.length 0) := by
  simp only [State.completeStation, hst, hres, hf, ht, Bool.or_self, Bool.false_eq_true, if_false]

theorem State.breakStation_running (code moved : Nat) (d : List Byte) (hst : (s.chan ch).station = some st)
    (hres : st.result = none) (hf : (s.chan ch).frozen = false) (ht : (s.chan ch).thawed = false) :
    s.breakStation ch code moved d = s.complete ch st (runStation s ch st d moved code) := by
  simp only [State.breakStation, hst, hres, hf, ht, Bool.or_self, Bool.false_eq_true, if_false,
    Option.isSome_none]

/-- A bus error other than a corrected or an uncorrectable ECC error breaks the station off. -/
theorem State.busErrorBeat_breaks {code : Nat} (moved : Nat) (hst : (s.chan ch).station = some st) (h0 : code ≠ 0)
    (hecc : code ≠ Bus.ecc) : s.busErrorBeat ch code moved = s.breakStation ch code moved [] := by
  simp [State.busErrorBeat, hst, h0, hecc]

theorem State.requestTimeout_late (hst : s.periphStation ch = some st) (hlate : st.start + milli ≤ s.time.elapsed) :
    s.requestTimeout ch = s.breakStation ch Bus.timeout 0 [] := by
  simp only [State.requestTimeout, hst, if_pos hlate]

end

/-- Settles O26: each event runs on a channel that the device has, and where it is due its equation above says what it
does. -/
theorem channelsComplete : Obligations.ChannelsComplete := by
  refine ⟨?doorbells, ?main, ?island, ?fetch, ?done, ?reread, ?broken, ?request, ?withdrawn⟩
  case doorbells =>
    intro who ch s hwho hch hf hown
    have hring (name : String) (v : Nat) :
        ran (decide (who < 10) && decide (ch < 36)) name s (s.chanDoorbell who ch v) =
          .next (s.goesTo (s.modChan ch fun x => x.doorbell v)) := by
      rw [ran_next _ _ _ (by simp only [Bool.and_eq_true, decide_eq_true_eq]; omega),
        State.chanDoorbell_owner v hwho hch hf hown]
    exact ⟨hring _ 1, hring _ 2, hring _ 4⟩
  case main =>
    intro c s hfree hnext
    exact (goOn_next s _).trans (by rw [State.grant_main hfree hnext])
  case island =>
    intro c s hfree hnext
    exact (goOn_next s _).trans (by rw [State.grant_island hfree hnext])
  case fetch =>
    intro ch s x a hch hstate hreread hnone hal hmay hbus
    exact (ran_next _ _ _ (decide_eq_true hch)).trans
      (by rw [State.fetchStation_judged hstate hreread hnone hal hmay hbus])
  case done =>
    intro ch st d s hch hst hres hf ht
    exact (ran_next _ _ _ (decide_eq_true hch)).trans (by rw [State.completeStation_running d hst hres hf ht])
  case reread =>
    intro ch s x a hch hstate hreread hhold hmay hbus hlast
    exact (ran_next _ _ _ (decide_eq_true hch)).trans
      (by rw [State.rereadControl_last hstate hreread hhold hmay hbus hlast])
  case broken =>
    intro ch code moved st s hch hst hres hf ht
    have hbreak (code : Nat) : s.breakStation ch code moved [] = s.complete ch st (runStation s ch st [] moved code) :=
      State.breakStation_running code moved [] hst hres hf ht
    refine ⟨fun h1 h4 hecc => ?_, ?_, fun hhost => ?_⟩
    · exact (ran_guarded (decide_eq_true hch) h4).trans
        (by rw [State.busErrorBeat_breaks moved hst (by omega) hecc, hbreak])
    · exact (ran_next _ _ _ (decide_eq_true hch)).trans (by rw [hbreak])
    · exact (ran_guarded (decide_eq_true hch) hhost).trans (by rw [hbreak])
  case request =>
    intro ch st s hch hperiph hst hres hf ht hlate
    exact (ran_next _ _ _ (decide_eq_true hch)).trans
      (by rw [State.requestTimeout_late hperiph hlate, State.breakStation_running _ _ _ hst hres hf ht])
  case withdrawn =>
    intro ch taken d st s hch _
    exact ⟨ran_next _ _ _ (decide_eq_true hch), ran_next _ _ _ (decide_eq_true hch)⟩

end Sys2Proof.Machine
end

section
/-!
PROOFS. Time, launches, references and loops (chapter 4): each event where it is due.
-/
namespace Sys2Proof.Machine

section
variable {s : State} {l : Nat}

/-! ## Device time and launch slots (R166, R169, R180, R181) -/

theorem State.timeStarts_due (hstopped : s.time.running = false) (hout : s.sys.inReset = false)
    (hdue : s.sys.releaseAt + 20 * milli ≤ s.time.elapsed) :
    s.timeStarts =
      ({ s with time := { s.time with running := true, now := DevTime.zero } }).setReady Rdy.time true := by
  simp only [State.timeStarts, hout, hstopped, decide_eq_false (Nat.not_lt.2 hdue), Bool.or_self,
    Bool.false_eq_true, if_false]

/-- One firing time of a slot without a period is due, within the tolerance: the slot fires and stops. -/
theorem State.settleLaunch_once {k : Nat} (hdue : (s.launch k).due s.time.now.nanos = 1)
    (honce : (s.launch k).period = 0)
    (hfires : (s.launch k).fires 1 (s.time.now.nanos - ((s.launch k).sec * second + (s.launch k).ns))
      (s.lateTolerance 4) = true) :
    s.settleLaunch k =
      (s.setLaunch k { s.launch k with
        armed := false, left := (s.launch k).left.map (· - 1), firings := (s.launch k).firings + 1 }).pulse
        ((s.launch k).line.getD 0) := by
  simp [State.settleLaunch, hdue, honce, hfires, b2n]

/-! ## References (R187-R191, R201, Table 4-2) -/

theorem State.referenceRate_followed (hedges : hasEdges l (s.loop l) = true)
    (hfollows : followsReference (s.loop l) = true) :
    s.referenceRate l = (s.coast l 2).modLoop l fun x => { x with measuring := true } := by
  simp only [State.referenceRate, hedges, hfollows, Bool.and_self, if_true]

/-- The reference of a loop that does not follow it stops. -/
theorem State.referenceStop_unfollowed (hl : l ≠ 0) (hedges : hasEdges l (s.loop l) = true)
    (hfollows : followsReference (s.loop l) = false) :
    s.referenceStop l = s.modLoop l fun x => { x with measuring := false } := by
  simp only [State.referenceStop, hedges, hfollows, if_neg hl, Bool.not_true, Bool.false_eq_true, if_false]

/-- With AUTO_HOP off, a measured rate is reported only (R188). -/
theorem State.rateMeasured_reported (mhz : Nat) (hmeasuring : (s.loop l).measuring = true)
    (hhop : bitOf (s.loop l).cfg.lflags 0 = false) :
    s.rateMeasured l mhz = (s.modLoop l fun x => { x with measuring := false }).loopEvent 0x0704 Sev.warning l
      (zeros 3 ++ leI 4 (sat32 (ppmOffset mhz (nominalHz l (s.loop l))))) := by
  simp only [State.rateMeasured, hmeasuring, hhop, Bool.false_and, Bool.false_eq_true, if_false, if_true]

/-- A fixed loop locks to its reference again. -/
theorem State.referenceReturn_fixed (err : Int)
    (haway : (s.loop l).state = .coast ∨ (s.loop l).state = .holdover) (h1 : l ≠ 1) (h2 : l ≠ 2) :
    s.referenceReturn l err = (s.modLoop l fun x => { x with phaseErr := err }).enterLoop l .locked := by
  have h : ((s.loop l).state == .coast || (s.loop l).state == .holdover) = true := by simpa using haway
  simp only [State.referenceReturn, h, Bool.not_true, Bool.false_eq_true, if_false, if_pos (And.intro h1 h2)]

/-! ## Locks, losses and searches (R190, R191, R196, R199, Table 4-6) -/

/-- In reset only the island's loop locks (R190). -/
theorem State.lockFound_free (h : s.sys.inReset = false ∨ l = 5) :
    s.lockFound l = ((s.loopLocks l).domainBack l).loopsJudged := by
  have hfree : (s.sys.inReset && l != 5) = false := by rcases h with h | h <;> simp [h]
  simp only [State.lockFound, hfree, Bool.false_eq_true, if_false]

/-- Only the expiry of LS's window moves CD7 to the crystal (R501). -/
theorem State.windowExpires_main (sec : Bool) (hl : l < 5) :
    s.windowExpires l sec = (s.coastExpires l sec).loopsJudged := by
  have h5 : (l == 5) = false := beq_eq_false_iff_ne.2 (by omega)
  simp only [State.windowExpires, h5, Bool.and_false, Bool.false_eq_true, if_false]

theorem State.bandFound_search (band centre : Nat) (hmedia : l = 1 ∨ l = 2) (hsearch : (s.loop l).state = .search) :
    s.bandFound l band centre =
      (s.setLoop l (learnResult (s.loop l) (s.loop l).cfg band centre)).enterLoop l .acquire := by
  have h : ¬ (l ≠ 1 ∧ l ≠ 2) := by omega
  simp only [State.bandFound, if_neg h, hsearch]

theorem State.bandFound_hop (band centre : Nat) (hmedia : l = 1 ∨ l = 2) (hhop : (s.loop l).state = .hop) :
    s.bandFound l band centre = s.enterLoop l .acquire := by
  have h : ¬ (l ≠ 1 ∧ l ≠ 2) := by omega
  simp only [State.bandFound, if_neg h, hhop]

/-- A search that finds nothing ends a MER_HOP_LEARN with TIMEOUT, and writes no entry (R197). -/
theorem State.learnEnds_unfound {i : Nat} {c : LoopCfg} {r : Req} (band centre : Nat)
    (h : (s.loop l).learn = some (i, c, r)) :
    s.learnEnds l false band centre =
      (s.modLoop l fun x => { x with learn := none }).finish r Status.timeout [] := by
  simp only [State.learnEnds, h, Bool.false_eq_true, if_false]

/-! ## Realignment (R203, R204, Table 4-9) -/

/-- Off the render loop the phase steps, and the render index stands. -/
theorem State.realignBoundaryMet_plain {b : Nat} {e : Int} (hrealign : (s.loop l).realign = some (b, e))
    (hdue : b ≤ s.time.ri) (hplain : l ≠ s.time.render) :
    s.realignBoundaryMet l =
      s.modLoop l fun x => { x with realign := none, phaseErr := 0, fade := Fade.start 64 } := by
  have hrender : ¬ l = (s.modLoop l fun x =>
      { x with realign := none, phaseErr := 0, fade := Fade.start 64 }).time.render := hplain
  have hstep : s.realignStep l =
      s.modLoop l fun x => { x with realign := none, phaseErr := 0, fade := Fade.start 64 } := by
    simp only [State.realignStep, hrealign, if_neg (Nat.not_lt.2 hdue)]
    rw [if_neg hrender]
  rw [State.realignBoundaryMet, hstep]
  exact if_pos rfl

theorem State.ticksResume_due (hwithheld : s.time.withheld = true) (hpast : s.time.lastUsed < s.floorTr) :
    s.ticksResume = s.timeMod fun t => { t.atRi ((t.lastUsed / s.blockLen + 1) * s.blockLen) with
      withheld := false } := by
  simp only [State.ticksResume, hwithheld, decide_eq_true hpast, Bool.and_self, if_true]

theorem State.realignEnds_silent (hstate : (s.loop l).state = .realign) (hdone : (s.loop l).realign = none)
    (hreq : (s.loop l).realignReq = none) :
    s.realignEnds l = (s.modLoop l fun x => { x with realignReq := none }).enterLoop l .locked := by
  simp only [State.realignEnds, if_pos (And.intro hstate hdone), hreq]

end

/-- Settles O27: where an event is due its equation above says what it does, and a glitch is counted wherever a
reference has edges. -/
theorem referencesComplete : Obligations.ReferencesComplete := by
  refine ⟨?start, ?slew, ?launch, ?edges, ?measured, ?back⟩
  case start =>
    intro s hstopped hout hdue
    exact (goOn_next s _).trans (by rw [State.timeStarts_due hstopped hout hdue])
  case slew =>
    intro s hleft
    exact goOn_guarded hleft
  case launch =>
    intro k s x hk hdue honce hfires
    exact (ran_next _ _ _ (decide_eq_true hk)).trans (by rw [State.settleLaunch_once hdue honce hfires])
  case edges =>
    intro l s hl hedges
    refine ⟨ran_guarded (decide_eq_true hl) hedges, fun hfollows => ?_, fun h0 hfollows => ?_⟩
    · exact (ran_next _ _ _ (decide_eq_true hl)).trans (by rw [State.referenceRate_followed hedges hfollows])
    · exact (ran_next _ _ _ (decide_eq_true hl)).trans (by rw [State.referenceStop_unfollowed h0 hedges hfollows])
  case measured =>
    intro l mhz s hl hmeasuring hhop
    exact (ran_next _ _ _ (decide_eq_true hl)).trans (by rw [State.rateMeasured_reported mhz hmeasuring hhop])
  case back =>
    intro l err s hl haway h1 h2
    exact (ran_next _ _ _ (decide_eq_true hl)).trans (by rw [State.referenceReturn_fixed err haway h1 h2])

/-- Settles O28: each event runs on a loop that the device has, and where it is due its equation above says what it
does. -/
theorem loopsComplete : Obligations.LoopsComplete := by
  refine ⟨?lock, ?loss, ?window, ?band, ?search, ?learn, ?boundary, ?resume, ?fadeIn⟩
  case lock =>
    intro l s hl hfree
    exact (ran_next _ _ _ (decide_eq_true hl)).trans (by rw [State.lockFound_free hfree])
  case loss =>
    intro l s hl hfollows
    exact ran_guarded (decide_eq_true hl) hfollows
  case window =>
    intro l sec s hl _ _
    exact (ran_next _ _ _ (decide_eq_true (by omega))).trans (by rw [State.windowExpires_main sec hl])
  case band =>
    intro l band centre s hl hmedia
    exact ⟨fun hsearch => (ran_next _ _ _ (decide_eq_true hl)).trans
        (by rw [State.bandFound_search band centre hmedia hsearch]),
      fun hhop => (ran_next _ _ _ (decide_eq_true hl)).trans (by rw [State.bandFound_hop band centre hmedia hhop])⟩
  case search =>
    intro l s hl hsearch hlate
    exact ran_guarded (decide_eq_true hl) ⟨hsearch, hlate⟩
  case learn =>
    intro l i band centre c r s hl hlearn
    exact (ran_next _ _ _ (decide_eq_true hl)).trans (by rw [State.learnEnds_unfound band centre hlearn])
  case boundary =>
    intro l b e s hl hrealign hdue hplain
    exact (ran_next _ _ _ (decide_eq_true hl)).trans
      (by rw [State.realignBoundaryMet_plain hrealign hdue hplain])
  case resume =>
    intro s hwithheld hpast
    exact (goOn_next s _).trans (by rw [State.ticksResume_due hwithheld hpast])
  case fadeIn =>
    intro l s hl hstate hdone hreq
    exact (ran_next _ _ _ (decide_eq_true hl)).trans (by rw [State.realignEnds_silent hstate hdone hreq])

end Sys2Proof.Machine
end

section
/-!
PROOFS. The fabric's margin, voltage, shedding and partitions (chapter 8): each event where it is due.
-/
namespace Sys2Proof.Machine

section
variable {s : State}

/-! ## Shedding (R356) -/

/-- Below SHED_MAX the level rises, and the event says what it sheds. -/
theorem State.shedRise_below (h : s.fab.shed < s.fab.shedMax) :
    s.shedRise = (s.fabMod fun f => { f with shed := f.shed + 1, short := 0 }).event 0x0141 Sev.warning 0x01 0x0000
      (le 1 (s.fab.shed + 1) ++ zeros 3 ++ le 4 ((s.fab.shed + 1) * s.classFour / 16)) := if_pos h

/-! ## Voltage (R353, R354, R367, R649) -/

theorem State.rampVcode_towards {t : Nat} (h : s.fab.vtarget = some t) :
    s.rampVcode =
      (s.setVcode (if s.fab.vcode < t then s.fab.vcode + 1 else s.fab.vcode - 1)).aimVcode.noteReady := by
  simp only [State.rampVcode, h]

section
variable {t mv : Nat}

theorem State.judgeReadback_unacknowledged (mv : Nat) (h : s.fab.readback = some t) :
    s.judgeReadback false mv = s.vddFault 1 mv := by
  simp only [State.judgeReadback, h, Bool.not_false, if_true]

theorem State.judgeReadback_off (h : s.fab.readback = some t) (hdue : t + milli ≤ s.time.elapsed)
    (hoff : mvOff s.fab.vcode mv = true) : s.judgeReadback true mv = s.vddFault 2 mv := by
  simp only [State.judgeReadback, h, Bool.not_true, Bool.false_eq_true, if_false, if_neg (Nat.not_lt.2 hdue), hoff,
    if_true]

theorem State.judgeReadback_agrees (h : s.fab.readback = some t) (hdue : t + milli ≤ s.time.elapsed)
    (hon : mvOff s.fab.vcode mv = false) :
    s.judgeReadback true mv = s.fabMod fun f => { f with readback := none } := by
  simp only [State.judgeReadback, h, Bool.not_true, Bool.false_eq_true, if_false, if_neg (Nat.not_lt.2 hdue), hon]

end

/-! ## Partitions and profiles (R367, R369) -/

theorem State.gateAfterChange_due {b : Nat} {m : Word} (h : s.fab.gateDue = some (b, m)) (hdue : b ≤ s.time.ri) :
    s.gateAfterChange = (s.fabMod fun f => { f with gateDue := none }).gateParts := by
  simp only [State.gateAfterChange, h, if_pos hdue]

theorem State.profileChange_eligible {p : Nat} (h : s.fab.pend = some p) (hphase : s.dat.phase ≠ 3)
    (hready : s.isReady Rdy.fabric = true) (hat : s.changeAt p s.time.ri = true) :
    s.profileChange = s.takeProfile p true := by
  simp only [State.profileChange, h, if_pos (And.intro hphase (And.intro hready hat))]

end

/-- Settles O30: an event of the margin, of shedding or of a partition needs its counter or its power, and the others
are those of the equations above. -/
theorem fabricEventsComplete : Obligations.FabricEventsComplete := by
  refine ⟨?fall, ?rise, ?shedFall, ?ramp, ?readback, ?alert, ?usable, ?gate, ?change⟩
  case fall =>
    intro s hample hshed
    exact goOn_guarded ⟨hample, hshed⟩
  case rise =>
    intro s hshort hbelow
    exact (goOn_guarded hshort).trans (by rw [State.shedRise_below hbelow])
  case shedFall =>
    intro s hample
    exact goOn_guarded hample
  case ramp =>
    intro t s htarget
    exact (goOn_next s _).trans (by rw [State.rampVcode_towards htarget])
  case readback =>
    intro mv t s hset
    exact ⟨(goOn_next s _).trans (by rw [State.judgeReadback_unacknowledged mv hset]),
      fun hdue hoff => (goOn_next s _).trans (by rw [State.judgeReadback_off hset hdue hoff]),
      fun hdue hon => (goOn_next s _).trans (by rw [State.judgeReadback_agrees hset hdue hon])⟩
  case alert =>
    intro mv s hoff
    exact goOn_guarded hoff
  case usable =>
    intro n s hn hpowered
    exact ran_guarded (decide_eq_true hn) hpowered
  case gate =>
    intro b m s hgate hdue
    exact (goOn_next s _).trans (by rw [State.gateAfterChange_due hgate hdue])
  case change =>
    intro p s hpend hphase hready hat
    exact (goOn_next s _).trans (by rw [State.profileChange_eligible hpend hphase hready hat])

end Sys2Proof.Machine
end

section
/-!
PROOFS. Programs, gains, players and lanes at work (chapter 9): each event where it is due.
-/
namespace Sys2Proof.Machine

section
variable {s : State}

/-! ## Programs (R397, R399-R401) -/

/-- At its boundary a swap whose program the active profile holds begins. -/
theorem State.swapProgram_starts {x : AlmSwap} {g : Prog} (hswap : s.alm.swap = some x) (hwaits : x.running = false)
    (hdue : x.at_ ≤ s.time.ri) (hprog : s.progOf s.idleBank = some g)
    (hfits : checkCapacity s.fab.active g = none) : s.swapProgram = s.startSwap x g := by
  simp only [State.swapProgram, hswap, hwaits, decide_eq_false (Nat.not_lt.2 hdue), Bool.or_self, Bool.false_eq_true,
    if_false, hprog, hfits, Option.isSome_none]

theorem State.swapEnds_due {x : AlmSwap} (hswap : s.alm.swap = some x) (hruns : x.running = true)
    (hdue : x.at_ + x.window ≤ s.time.ri) :
    s.swapEnds = (s.corMod fun c => c.dropShadow (((s.runningProg.getD Prog.empty).bus).map (·.1))).almMod fun t =>
      { t with prog := t.progNew, progNew := ProgState.reset, swap := none } := by
  simp only [State.swapEnds, hswap, hruns, decide_eq_false (Nat.not_lt.2 hdue), Bool.not_true, Bool.or_self,
    Bool.false_eq_true, if_false]

/-- An image that was read whole and passes its checks is LOADED. -/
theorem State.almLoaded_sound {f : Fetch} (hload : s.alm.load = some f) (hmay : f.req.mayRead s f.addr f.len = true)
    (hlen : f.len ≠ 0) (hmost : f.len ≤ 524288) (hsource : imageSource f.addr f.len = true)
    (hgood : programCheck (s.almMod fun t => { t with load := none })
      (s.sourceRead f.req f.addr (min f.len 524288)) = none) :
    s.almLoaded = ((s.almMod fun t => { t with load := none }).setAlmBank f.bank
      { state := 2, image := s.sourceRead f.req f.addr (min f.len 524288) }).finish f.req Status.ok (zeros 8) := by
  have hwhole : f.len ≠ 0 ∧ f.len ≤ 524288 ∧ imageSource f.addr f.len = true := ⟨hlen, hmost, hsource⟩
  simp only [State.almLoaded, hload, hmay, Bool.not_true, Bool.false_eq_true, if_false, if_pos hwhole, hgood]

/-! ## Players and lanes (R405, R406, R409) -/

theorem State.playerDone_ended {k m e : Nat} (hmsg : (s.player k).msg = some m)
    (hend : playEnd s.rate (s.libraryMessage m) (s.player k).repeats = some e) (hpast : e ≤ (s.player k).pos) :
    s.playerDone k =
      (s.setPlayer k AlmPlayer.reset).event 0x0605 Sev.info 0x06 0x0000 (le 1 k ++ zeros 1 ++ le 2 m) := by
  simp only [State.playerDone, hmsg, hend, if_pos hpast]

/-- A source that the lane used becomes unusable. -/
theorem State.directChange_lost {k i : Nat} (hvalid : Lane.valid (s.lane k).entry = true)
    (hi : i < Lane.inputs (s.lane k).entry) (hgone : s.directUsable (Lane.src (s.lane k).entry i) = false)
    (hused : bitOf (s.lane k).idle i = false) :
    s.directChange k i = (s.setLane k { s.lane k with idle := (s.lane k).idle + 2 ^ i }).event 0x0604 Sev.warning
      0x06 0x0000 (le 1 k ++ le 1 i ++ le 2 (Lane.src (s.lane k).entry i) ++ le 1 1) := by
  have h : ¬ Lane.inputs (s.lane k).entry ≤ i := Nat.not_le.2 hi
  simp [State.directChange, hvalid, h, hgone, hused, b2n]

theorem State.laneFadeEnds_disabled {k : Nat} (hoff : (s.lane k).enabled = false)
    (hended : (s.lane k).fade.ended = true) (hlen : (s.lane k).fade.len ≠ 0) :
    s.laneFadeEnds k = s.setLane k { s.lane k with fade := DirectLane.reset.fade, out := [] } := by
  simp [State.laneFadeEnds, hoff, hended, hlen]

end

/-- Settles O34: where an event is due its equation above says what it does; a sample at a register's point needs no
condition. -/
theorem almanacEventsComplete : Obligations.AlmanacEventsComplete := by
  refine ⟨?swap, ?swapped, ?load, fun _ _ _ hreg => ran_next _ _ _ (decide_eq_true hreg), ?timeout, ?player, ?source,
    ?fade⟩
  case swap =>
    intro x g s hswap hwaits hdue hprog hfits
    exact (goOn_next s _).trans (by rw [State.swapProgram_starts hswap hwaits hdue hprog hfits])
  case swapped =>
    intro x s hswap hruns hdue
    exact (goOn_next s _).trans (by rw [State.swapEnds_due hswap hruns hdue])
  case load =>
    intro f s img hload hmay hlen hmost hsource hgood
    exact (goOn_next s _).trans (by rw [State.almLoaded_sound hload hmay hlen hmost hsource hgood])
  case timeout =>
    intro reg s hreg hpending harmed
    exact ran_guarded (decide_eq_true hreg) (by simp [hpending, harmed])
  case player =>
    intro k m e s hk hmsg hend hpast
    exact (ran_next _ _ _ (decide_eq_true hk)).trans (by rw [State.playerDone_ended hmsg hend hpast])
  case source =>
    intro k i s x hk hi hvalid hin hgone hused
    exact (ran_next _ _ _ (by simp [hk, hi])).trans (by rw [State.directChange_lost hvalid hin hgone hused])
  case fade =>
    intro k s hk hoff hended hlen
    exact (ran_next _ _ _ (decide_eq_true hk)).trans (by rw [State.laneFadeEnds_disabled hoff hended hlen])

end Sys2Proof.Machine
end

section
/-!
PROOFS. The mesh, swaps of correction and compaction (chapters 10 and 11): each event where it is due.
-/
namespace Sys2Proof.Machine

section
variable {s : State}

/-! ## The mesh (R434, R435) -/

theorem State.adoptMesh_new {b : List Byte} (h : s.obj.newMesh = some b) :
    s.adoptMesh =
      let clear := s.obj.feed.foldl (fun t x => tput Feed.reset t x.1 { x.2 with mesh := false }) s.obj.feed
      let feed := (meshFeeds b).foldl (fun t f => tmod Feed.reset t f fun x => { x with mesh := true }) clear
      let t := s.objMod fun t => { t with mesh := b, newMesh := none, feed := feed }
      let t := t.markDue fun i => Ob.law (t.objRec i) == 1
      (t.event 0x0404 Sev.notice 0x04 0x0000 (le 8 (Mesh.id b))).judgeObjects := by
  simp only [State.adoptMesh, h]

/-- A mesh that was read and passes its checks waits for its boundary. -/
theorem State.meshLoaded_sound {f : Fetch} (hload : s.obj.load = some f) (hlen : f.len ≠ 0)
    (hmay : f.req.mayRead (s.objMod fun t => { t with load := none }) f.addr f.len = true)
    (hgood : (s.objMod fun t => { t with load := none }).meshCheck
      ((s.objMod fun t => { t with load := none }).sourceRead f.req f.addr (min f.len 131013)) f.len = none) :
    s.meshLoaded =
      let t := s.objMod fun t => { t with load := none }
      (t.objMod fun x => { x with newMesh := some (t.sourceRead f.req f.addr (min f.len 131013)) }).finish f.req
        Status.ok (zeros 8) := by
  have hread : ¬ (f.len ≠ 0 ∧
      f.req.mayRead (s.objMod fun t => { t with load := none }) f.addr f.len = false) := by simp [hmay]
  simp only [State.meshLoaded, hload, if_neg hread, if_neg hlen, hgood]

/-! ## Correction (R466, R472, R474) -/

/-- At its boundary a swap that no command asked for, and that nothing bars, exchanges the banks. -/
theorem State.swapFeed_exchanges {f : Nat} {w : CorSwap} (hswap : (s.corFeed f).swap = some w)
    (hdue : w.at_ ≤ s.time.ri) (hreq : w.req = none) (hfree : s.swapBarred f w.at_ = false) :
    s.swapFeed f = ((s.setCorFeed f { ({ s.corFeed f with swap := none } : CorFeed).exchange with
      fadeAt := some w.at_ }).countSpectra f).answerCorSwap w Status.ok := by
  simp only [State.swapFeed, hswap, if_neg (Nat.not_lt.2 hdue), hreq, hfree, Bool.false_eq_true, if_false]

theorem State.swapFeedEnds_due {f b : Nat} (hfade : (s.corFeed f).fadeAt = some b) (hdue : b + 512 ≤ s.time.ri) :
    s.swapFeedEnds f = (s.setCorFeed f { s.corFeed f with fadeAt := none }).event 0x0501 Sev.notice 0x05
      (0x5000 + f) (le 2 f ++ le 1 (b2n (s.corFeed f).run1) ++ zeros 1 ++ le 4 b) := by
  simp only [State.swapFeedEnds, hfade, if_neg (Nat.not_lt.2 hdue)]

theorem State.compactDone_running {r : Req} (h : s.cor.compact = some r) :
    s.compactDone =
      let order := (s.cor.feed.foldl (fun l x => insertRun (x.2.running.base, x.1) l) []).map (·.2)
      let t := (s.corMod fun c => { c with compact := none }).lowerBanks 0 order
      t.1.finish r Status.ok (le 4 t.2 ++ le 4 (longestRun (t.1.freeSlots none))) := by
  simp only [State.compactDone, h]

end

/-- Settles O35: where an event is due its equation above says what it does; the end of a tap's or a section's fade
needs no condition. That compaction takes the banks in order from the lowest base is log 89, deduced. -/
theorem renderEventsComplete : Obligations.RenderEventsComplete := by
  refine ⟨fun _ _ hk => ran_next _ _ _ (decide_eq_true hk), ?mesh, ?load, ?swap, ?swapped, ?compact, ?biquad⟩
  case mesh =>
    intro b s hnew
    exact (goOn_next s _).trans (by rw [State.adoptMesh_new hnew])
  case load =>
    intro f s t b hload hlen hmay hgood
    exact (goOn_next s _).trans (by rw [State.meshLoaded_sound hload hlen hmay hgood])
  case swap =>
    intro f w s hf hswap hdue hreq hfree
    exact (ran_next _ _ _ (decide_eq_true hf)).trans (by rw [State.swapFeed_exchanges hswap hdue hreq hfree])
  case swapped =>
    intro f b s hf hfade hdue
    exact (ran_next _ _ _ (decide_eq_true hf)).trans (by rw [State.swapFeedEnds_due hfade hdue])
  case compact =>
    intro r s order t hcompact
    exact (goOn_next s _).trans (by rw [State.compactDone_running hcompact])
  case biquad =>
    intro u sec s hunit
    exact ran_next _ _ _ (by simpa only [Bool.or_eq_true, Bool.and_eq_true, decide_eq_true_eq, and_assoc] using hunit)

end Sys2Proof.Machine
end

section
/-!
PROOFS. The phases of a datum load, and overlays at their boundaries (chapter 13): each event where it is due.
-/
namespace Sys2Proof.Machine

section
variable {s : State}

/-! ## A datum (R556, R557, R560, Table 13-6) -/

/-- A source that the load may read is copied to the idle slot. -/
theorem State.fetched_copied {j : LoadJob} (hjob : s.dat.job = some j) (hphase : s.dat.phase = 1)
    (hgranted : s.sourceGranted j = true) (hread : j.readable = true) (hplace : j.addr ≠ s.idleSlot) :
    s.fetched = (({ s with mem := writeBytes s.mem s.idleSlot (j.bytes s) }).datMod fun d =>
      { d with phase := 2 }).mirrorLoad j := by
  have hcopy : ¬ (s.sourceGranted j = false ∨ j.readable = false ∨ j.addr = s.idleSlot) := by
    simp [hgranted, hread, hplace]
  have hfetch : ¬ s.dat.phase ≠ 1 := by simp [hphase]
  simp only [State.fetched, hjob, if_neg hfetch, if_neg hcopy]

theorem State.checked_sound {j : LoadJob} (hjob : s.dat.job = some j) (hphase : s.dat.phase = 2)
    (hopen : s.dat.boundary = none) (hgood : s.loadFail j = none) :
    s.checked = s.datMod fun d => { d with boundary := some s.fadeBoundary } := by
  have hcheck : ¬ (s.dat.phase ≠ 2 ∨ s.dat.boundary.isSome = true) := by simp [hphase, hopen]
  simp only [State.checked, hjob, if_neg hcheck, hgood]

/-- At B, with a datum of the active profile, no profile is asked for. -/
theorem State.datumBoundary_sameProfile {b : Nat} (hboundary : s.dat.boundary = some b) (hphase : s.dat.phase = 2)
    (hdue : b ≤ s.time.ri) :
    let t := ((s.dropAudio.datumReady false false).datMod fun d => { d with
      id := 0, phase := 3, boundary := none, applied := false
      roles := s.roleList
      fade := { pos := 64, len := 64, up := false }
      ovl := d.ovl.map fun o => (o.1, { Ovl.reset with stored := o.2.stored }) }).undelegate.resetAudio
    Dm.profile t.idleImage = t.fab.active → s.datumBoundary = t := by
  intro t hprofile
  have hdueNow : ¬ (s.dat.phase ≠ 2 ∨ s.time.ri < b) := by omega
  simp only [State.datumBoundary, hboundary, if_neg hdueNow]
  exact if_pos hprofile

theorem State.datumApplied_pending (hphase : s.dat.phase = 3) (hpending : s.dat.applied = false) :
    s.datumApplied = (s.writeDatum s.idleImage).datMod fun d =>
      { d with applied := true, roles := [], boundary := some s.nextBoundary } := by
  have h : ¬ (s.dat.phase ≠ 3 ∨ s.dat.applied = true) := by simp [hphase, hpending]
  simp only [State.datumApplied, if_neg h]

theorem State.datumActivate_due {b : Nat} (hboundary : s.dat.boundary = some b) (hphase : s.dat.phase = 3)
    (happlied : s.dat.applied = true) (hdue : b ≤ s.time.ri)
    (heligible : eligibleRi s.fab.active (min 4 (Dm.profile s.idleImage)) s.time.ri = true) :
    s.datumActivate = s.activate := by
  have h : ¬ (s.dat.phase ≠ 3 ∨ s.dat.applied = false ∨ s.time.ri < b ∨
      eligibleRi s.fab.active (min 4 (Dm.profile s.idleImage)) s.time.ri = false) := by
    simp [hphase, happlied, hdue, heligible]
  simp only [State.datumActivate, hboundary, if_neg h]

theorem State.stored_running {r : Req} (h : s.dat.store = some r) :
    s.stored = (({ s with mem := writeBytes s.mem flashDatum s.runningImage }).datMod fun d =>
      { d with store := none }).finish r Status.ok [] := by
  simp only [State.stored, h]

/-! ## Overlays (R525, R562, R565, R566) -/

section
variable {p : Pending} {ps : List Pending} {n : Nat}

/-- The first command due applies its overlay, if it still passes its checks. -/
theorem State.overlayBoundary_applies (hdue : s.dueCommands = p :: ps) (hop : p.req.op = 0x0211)
    (hn : p.req.index = n) (hgen : p.req.gen = 0) (hgood : (s.dropPending p).applyFail n = none) :
    s.overlayBoundary 0x0211 n = ((s.dropPending p).applyOvl n).finish p.req Status.ok [] := by
  simp [State.overlayBoundary, hdue, hop, hn, hgen, hgood]

theorem State.overlayBoundary_removes (hdue : s.dueCommands = p :: ps) (hop : p.req.op = 0x0212)
    (hn : p.req.index = n) (hgen : p.req.gen = 0) (hgood : (s.dropPending p).removeFail n = none) :
    s.overlayBoundary 0x0212 n = ((s.dropPending p).removeOvl n).finish p.req Status.ok [] := by
  simp [State.overlayBoundary, hdue, hop, hn, hgen, hgood]

end

/-- A suspended overlay whose checks pass again takes the place that came free. -/
theorem State.resumeOvl_stacked {n b : Nat} (hresume : (s.ovl n).resumeDue = some b)
    (hsusp : (s.ovl n).suspended = true) (hdue : b ≤ s.time.ri) (hplace : s.activeCount < 4)
    (hgood : ovlFail (s.setOvl n { s.ovl n with active := false, suspended := false, resumeDue := none }) n = none) :
    s.resumeOvl n = ((s.setOvl n { s.ovl n with
      active := false, suspended := false, resumeDue := none }).stackOn n).ovlSuspended n false := by
  simp only [State.resumeOvl, hresume, hsusp, decide_eq_false (Nat.not_lt.2 hdue), Bool.not_true, Bool.or_self,
    Bool.false_eq_true, if_false, if_neg (Nat.not_le.2 hplace), hgood]

theorem State.islandRemove_active {n : Nat} (hready : s.saf.ready = true) (hisland : ovlIsland s n = true)
    (hended : s.ovlNeeded n = false) (hwait : (s.ovl n).waiting = false) (hactive : (s.ovl n).active = true)
    (hfree : s.swapStuck (s.removeOvl n) = false) : s.islandRemove n = s.removeOvl n := by
  simp only [State.islandRemove, hready, hisland, hended, hwait, hactive, hfree, Bool.not_true, Bool.or_self,
    Bool.false_eq_true, if_false]

end

/-- Settles O36: in each phase of a load its equation above says what the event does. That DATUM_ID reads 0 from B,
that audio stands at reset there, and that B is `fadeBoundary` is log 92, and that DATUM_ACTIVATE waits for an eligible
index is log 93, both deduced. -/
theorem datumEventsComplete : Obligations.DatumEventsComplete := by
  refine ⟨?fetch, ?check, ?boundary, ?apply, ?activate, ?store⟩
  case fetch =>
    intro j s hjob hphase hgranted hread hplace
    exact (goOn_next s _).trans (by rw [State.fetched_copied hjob hphase hgranted hread hplace])
  case check =>
    intro j s hjob hphase hopen hgood
    exact (goOn_next s _).trans (by rw [State.checked_sound hjob hphase hopen hgood])
  case boundary =>
    intro b s t hboundary hphase hdue hprofile
    exact (goOn_next s _).trans (by rw [State.datumBoundary_sameProfile hboundary hphase hdue hprofile])
  case apply =>
    intro s hphase hpending
    exact (goOn_next s _).trans (by rw [State.datumApplied_pending hphase hpending])
  case activate =>
    intro b s hboundary hphase happlied hdue heligible
    exact (goOn_next s _).trans (by rw [State.datumActivate_due hboundary hphase happlied hdue heligible])
  case store =>
    intro r s hstore
    exact (goOn_next s _).trans (by rw [State.stored_running hstore])

/-- Settles O37: where an overlay's boundary is met its equation above says what the event does. -/
theorem overlayEventsComplete : Obligations.OverlayEventsComplete := by
  refine ⟨?boundary, ?resume, ?island⟩
  case boundary =>
    intro p ps n s hn hdue hindex hgen
    exact ⟨fun hop hgood => (ran_next _ _ _ (decide_eq_true hn)).trans
        (by rw [State.overlayBoundary_applies hdue hop hindex hgen hgood]),
      fun hop hgood => (ran_next _ _ _ (decide_eq_true hn)).trans
        (by rw [State.overlayBoundary_removes hdue hop hindex hgen hgood])⟩
  case resume =>
    intro n b s t hn hresume hsusp hdue hplace hgood
    exact (ran_next _ _ _ (decide_eq_true hn)).trans
      (by rw [State.resumeOvl_stacked hresume hsusp hdue hplace hgood])
  case island =>
    intro n s hn hready hisland hended hwait hactive hfree
    exact (ran_next _ _ _ (decide_eq_true hn)).trans
      (by rw [State.islandRemove_active hready hisland hended hwait hactive hfree])

end Sys2Proof.Machine
end

section
/-!
PROOFS. Frames, links, wake patterns and the field bus (chapter 5): each event where it is due.
-/
namespace Sys2Proof.Machine

section
variable {s : State} {p : Nat} {f : List Byte}

/-! ## Frames that arrive (R211, Table 5-2) -/

theorem State.receiveFrame_runt (fcs : Bool) (hhears : s.hears p = true) (hlen : f.length < 64) :
    s.receiveFrame p f fcs = s.countPort p Ctr.runt 1 := by
  simp only [State.receiveFrame, hhears, Bool.not_true, Bool.false_eq_true, if_false, if_pos hlen]

theorem State.receiveFrame_oversize (fcs : Bool) (hhears : s.hears p = true) (hlen : 64 ≤ f.length)
    (hmax : s.maxFrame p < f.length) : s.receiveFrame p f fcs = s.countPort p Ctr.oversize 1 := by
  simp only [State.receiveFrame, hhears, Bool.not_true, Bool.false_eq_true, if_false, if_neg (Nat.not_lt.2 hlen),
    if_pos hmax]

theorem State.receiveFrame_badFcs (hhears : s.hears p = true) (hlen : 64 ≤ f.length)
    (hmax : f.length ≤ s.maxFrame p) : s.receiveFrame p f false = s.countPort p Ctr.fcsErr 1 := by
  simp only [State.receiveFrame, hhears, Bool.not_true, Bool.not_false, Bool.false_eq_true, if_false, if_true,
    if_neg (Nat.not_lt.2 hlen), if_neg (Nat.not_lt.2 hmax)]

/-- A good frame is counted and goes to its port's chain. -/
theorem State.receiveFrame_good (hhears : s.hears p = true) (hlen : 64 ≤ f.length) (hmax : f.length ≤ s.maxFrame p) :
    s.receiveFrame p f true =
      let t := (s.countPort p Ctr.rxFrames 1).countPort p Ctr.rxBytes f.length
      if p < 3 then t.mediaFrame p f else if p = 3 then t.sightPortFrame f else t.fieldFrame f := by
  simp only [State.receiveFrame, hhears, Bool.not_true, Bool.false_eq_true, if_false, if_neg (Nat.not_lt.2 hlen),
    if_neg (Nat.not_lt.2 hmax)]

/-! ## Links, low-power idle and wake patterns (R209, R223, R234) -/

/-- A media port that is configured off does not come up. -/
theorem State.linkUp_configured (h : p < 3 → (s.port p).mode ≠ 0xFF) :
    s.linkUp p =
      let u := s.modPort p fun x => { x with link := true }
      let t := if p = 3 then u else u.setReady (portReadyBit p) true
      t.event 0x0901 Sev.notice 0x09 0x0000 (le 1 p ++ le 1 (t.port p).mode) := by
  have hon : (decide (p < 3) && (s.port p).mode == 0xFF) = false := by
    by_cases hp : p < 3
    · simp [hp, h hp]
    · simp [hp]
  simp only [State.linkUp, hon, Bool.false_eq_true, if_false]

/-- A frame without a launch time wakes the transmitter. -/
theorem State.lpiExit_waiting (hlpi : (s.port p).lpi = true)
    (hwait : ((s.port p).tx.any fun q => q.2.any fun f => f.launch.isNone) = true) :
    s.lpiExit p = s.modPort p fun x => { x with lpi := false } := by
  simp only [State.lpiExit, hlpi, hwait, Bool.or_true, Bool.and_self, if_true]

theorem State.wakeHoldEnds_due {w t : Nat} (hhold : (s.wakePattern w).hold = some t) (hdue : t ≤ s.time.elapsed) :
    s.wakeHoldEnds w = (s.netMod fun n => { n with
      wake := tmod WakePattern.reset n.wake w fun x => { x with hold := none } }).gateParts := by
  simp only [State.wakeHoldEnds, hhold, if_pos hdue]

/-! ## The field bus (R236, R238, R242, R243) -/

/-- A follower that has PLCA keeps it, and notes the beacon. -/
theorem State.beaconSeen_follower (hrole : s.net.fb.role = 1) (hplca : s.net.fb.plca = true) :
    s.beaconSeen = s.fbMod fun f => { f with plca := true, lastBeacon := s.time.elapsed } := by
  simp only [State.beaconSeen, hrole, hplca, if_true]

/-- A second coordinator silences the one that sends beacons. -/
theorem State.beaconSeen_coordinator (hrole : s.net.fb.role = 0) (hbeacons : s.net.fb.beaconing = true) :
    s.beaconSeen = (s.fbMod fun f => { f with plca := false, beaconing := false }).event 0x090B Sev.error 0x09
      0x0000 (le 1 4) := by
  simp only [State.beaconSeen, hrole, hbeacons, if_true]

/-- Below the 16th collision of a frame the transmitter tries again. -/
theorem State.collision_retries (h : (s.countPort 4 Ctr.collisions 1).net.fb.attempts + 1 < 16) :
    s.collision = (s.countPort 4 Ctr.collisions 1).fbMod fun f =>
      { f with attempts := (s.countPort 4 Ctr.collisions 1).net.fb.attempts + 1 } := if_pos h

theorem State.rollReceive_sound (h : fbFrameOk f = true) :
    s.rollReceive f = (s.deliverFrame 72 4 0 0xFF 0 0 f).drainRoll 260 := if_pos h

theorem State.safetyReceive_sound (h : fbFrameOk f = true) :
    s.safetyReceive f = (((s.deliverFrame 243 4 0 0xFF 0 0 f).drainSafety 260).deliverFrame 74 4 0 0xFF 0 0
      f).firmwareTakes 74 260 := if_pos h

end

/-- Settles O39: where an event is due its equation above says what it does, and the five application frames of the
field bus are two receptions behind their types. -/
theorem networkEventsComplete : Obligations.NetworkEventsComplete := by
  refine ⟨?receive, ?up, fun _ _ hp => ran_next _ _ _ (decide_eq_true hp), ?idle, ?wake, ?follower, ?coordinator,
    ?collision, ?roll, ?frames⟩
  case receive =>
    intro p f s hp hhears
    refine ⟨fun hlen fcs => ?_, fun hlen hmax fcs => ?_, fun hlen hmax => ⟨?_, ?_⟩⟩
    · exact (ran_next _ _ _ (decide_eq_true hp)).trans (by rw [State.receiveFrame_runt fcs hhears hlen])
    · exact (ran_next _ _ _ (decide_eq_true hp)).trans (by rw [State.receiveFrame_oversize fcs hhears hlen hmax])
    · exact (ran_next _ _ _ (decide_eq_true hp)).trans (by rw [State.receiveFrame_badFcs hhears hlen hmax])
    · exact (ran_next _ _ _ (decide_eq_true hp)).trans (by rw [State.receiveFrame_good hhears hlen hmax])
  case up =>
    intro p s u t hp hmode
    exact (ran_next _ _ _ (decide_eq_true hp)).trans (by rw [State.linkUp_configured hmode])
  case idle =>
    intro p s hp
    exact ⟨ran_next _ _ _ (decide_eq_true hp), fun hlpi hwait =>
      (ran_next _ _ _ (decide_eq_true hp)).trans (by rw [State.lpiExit_waiting hlpi hwait])⟩
  case wake =>
    intro w t s hw hhold hdue
    exact (ran_next _ _ _ (decide_eq_true hw)).trans (by rw [State.wakeHoldEnds_due hhold hdue])
  case follower =>
    intro s hrole hplca
    exact ⟨fun hsilent => goOn_guarded ⟨hrole, hplca, hsilent⟩,
      (goOn_next s _).trans (by rw [State.beaconSeen_follower hrole hplca])⟩
  case coordinator =>
    intro s hrole hbeacons
    exact (goOn_next s _).trans (by rw [State.beaconSeen_coordinator hrole hbeacons])
  case collision =>
    intro s hplca hfew
    exact (goOn_unbarred (by simp [hplca])).trans (by rw [State.collision_retries hfew])
  case roll =>
    intro s t hrole hrun hdue
    exact goOn_guarded ⟨hrole, hrun, hdue⟩
  case frames =>
    intro f s hok
    exact ⟨fun htype => (goOn_guarded htype).trans (by rw [State.rollReceive_sound hok]),
      fun htype => (goOn_guarded htype).trans (by rw [State.rollReceive_sound hok]),
      fun htype => (goOn_guarded htype).trans (by rw [State.rollReceive_sound hok]),
      fun htype => (goOn_guarded htype).trans (by rw [State.safetyReceive_sound hok]),
      fun htype => (goOn_guarded htype).trans (by rw [State.safetyReceive_sound hok])⟩

end Sys2Proof.Machine
end

section
/-!
PROOFS. Streams and their discovery (chapter 6): each event where it is due.
-/
namespace Sys2Proof.Machine

section
variable {s : State} {i : Nat}

/-! ## Packets, absence and locks (R274-R276, R280, R281, R285-R292) -/

/-- An enabled entry whose samples the output edge has presented forms its next packet. -/
theorem State.formPacket_due (henabled : Ent.enabled (s.tx i).entry = true) (hcauses : (s.tx i).causes = 0)
    (hdue : (s.tx i).riBase + ((s.tx i).formed + 1) * packetStep (s.tx i).entry ≤ s.posRi)
    (hstep : packetStep (s.tx i).entry ≠ 0) :
    s.formPacket i =
      let x := s.tx i
      let last := x.riBase + (x.formed + 1) * packetStep x.entry
      let d := s.draw 17
      (entPorts x.entry).foldl
        (fun u p => u.sendStream i p (x.riBase + x.formed * packetStep x.entry) last
          (d.2.riTime last + u32 x.entry 16)
          (u.txFrame x.entry p d.1 (d.2.transport i x x.formed)))
        (d.2.setTx i { x with formed := x.formed + 1 }) := by
  have h : (!Ent.enabled (s.tx i).entry || (s.tx i).causes != 0 ||
      decide (s.posRi < (s.tx i).riBase + ((s.tx i).formed + 1) * packetStep (s.tx i).entry) ||
      packetStep (s.tx i).entry == 0) = false := by
    rw [decide_eq_false (Nat.not_lt.2 hdue), beq_false_of_ne hstep]
    simp [henabled, hcauses]
  simp only [State.formPacket, h, Bool.false_eq_true, if_false]

theorem State.trackEstimate_active {g : Nat} (ppb : Int) (hmode : (s.group g).mode = 1)
    (hactive : (s.group g).suspended = false) :
    s.trackEstimate g ppb = (s.setGroup g { s.group g with ppb := ppb }).setLock g
      (decide (-1000000 ≤ ppb) && decide (ppb ≤ 1000000)) := by
  have h : ¬ ((s.group g).mode ≠ 1 ∨ (s.group g).suspended = true) := by simp [hmode, hactive]
  simp only [State.trackEstimate, if_neg h]

/-! ## Discovery (R293, R294, Table 6-8) -/

theorem State.sapAnnounce_due (hrun : s.sys.running = true) (hout : s.outputsHeld = false)
    (henabled : Ent.enabled (s.tx i).entry = true) (hannounce : Ent.flag (s.tx i).entry 3 = true)
    (haes : Ent.aes67 (s.tx i).entry = true)
    (hdue : (s.tx i).sapAt = 0 ∨ (s.tx i).sapAt - 1 + 30 * second ≤ s.time.elapsed) :
    s.sapAnnounce i = (entPorts (s.tx i).entry).foldl (fun s p => s.sapFrame i p false)
      (s.setTx i { s.tx i with sapAt := s.time.elapsed + 1 }) := by
  simp only [State.sapAnnounce, hrun, hout, henabled, hannounce, haes, if_pos hdue, Bool.not_true, Bool.or_self,
    Bool.and_self, Bool.false_eq_true, if_false, if_true]

/-- The announcement steps its index, and the frames it queues leave the streams alone. -/
theorem State.adpAvailable_str (hrun : s.sys.running = true) (hout : s.outputsHeld = false)
    (hdue : s.str.adpAt = 0 ∨ s.str.adpAt - 1 + 5 * second ≤ s.time.elapsed) :
    s.adpAvailable.str = { s.str with
      adpAt := s.time.elapsed + 1, adpIdx := (s.str.adpIdx + 1) % 4294967296 } := by
  have hwait : (s.str.adpAt != 0 && decide (s.time.elapsed < s.str.adpAt - 1 + 5 * second)) = false := by
    rcases hdue with h | h
    · rw [h]; rfl
    · rw [decide_eq_false (Nat.not_lt.2 h), Bool.and_false]
  simp only [State.adpAvailable, hrun, hout, hwait, Bool.not_true, Bool.or_self, Bool.false_eq_true, if_false]
  rfl

theorem State.sessionExpires_due {x : SdpSession} (hx : s.str.sdp[i]? = some x)
    (hdue : x.last + 300 * second ≤ s.time.elapsed) :
    s.sessionExpires i = s.strMod fun t => { t with sdp := t.sdp.eraseIdx i } := by
  simp only [State.sessionExpires, hx, if_pos hdue]

/-- A managed transmit entry with a place for a listener gains one, is enabled and reported. -/
theorem State.acmp_listener (id dmac : List Byte) (vid : Nat)
    (hvalid : Ent.valid (streamRecord.padBytes 128 (s.streamEntry (0x2000 + i))) = true)
    (hmanaged : Ent.flag (streamRecord.padBytes 128 (s.streamEntry (0x2000 + i))) 4 = true)
    (havtp : Ent.aes67 (streamRecord.padBytes 128 (s.streamEntry (0x2000 + i))) = false)
    (hown : Ent.island (streamRecord.padBytes 128 (s.streamEntry (0x2000 + i))) = false)
    (hrun : s.sys.running = true) (hplace : (s.tx i).listeners ≠ 16) :
    s.acmp true i true id dmac vid =
      let u := 0x2000 + i
      let e := streamRecord.padBytes 128 (s.streamEntry u)
      let l := s.modTx i fun x => { x with listeners := (s.tx i).listeners + 1 }
      let t := (l.bumpGen u).adoptStream u (withEnable e true) ((l.bumpGen u).tx i).run
      t.event 0x030A Sev.notice 0x03 u (le 2 u ++ le 1 1 ++ zeros 1 ++ le 2 (t.genOf u)) := by
  have hcount : decide (0 < (s.tx i).listeners + 1) = true := decide_eq_true (Nat.succ_pos _)
  simp only [State.acmp, if_true, hvalid, hmanaged, havtp, hown, hrun, beq_false_of_ne hplace, Bool.not_true,
    Bool.not_false, Bool.and_self, Bool.and_false, Bool.or_self, Bool.false_eq_true, if_false, hcount]
  rfl

end

/-- Settles O40: where an event is due its equation above says what it does. That a first SAP or ADP announcement is
due at once, and later ones count from the last, is log 145, deduced. -/
theorem streamEventsComplete : Obligations.StreamEventsComplete := by
  refine ⟨?form, ?absent, ?lock, ?sap, ?adp, ?sdp, ?acmp⟩
  case form =>
    intro i s x last d hi henabled hcauses hdue hstep
    exact (ran_next _ _ _ (decide_eq_true hi)).trans (by rw [State.formPacket_due henabled hcauses hdue hstep])
  case absent =>
    intro i s hi hstate
    exact ⟨fun hlate => ran_guarded (decide_eq_true hi) ⟨hstate, hlate⟩,
      fun p hp hdual hup hlate => ran_guarded (by simp [hi, hp]) ⟨hdual, hstate, hup, hlate⟩⟩
  case lock =>
    intro g ppb s hg hmode hactive
    exact (ran_next _ _ _ (decide_eq_true hg)).trans (by rw [State.trackEstimate_active ppb hmode hactive])
  case sap =>
    intro i s hi hrun hout henabled hannounce haes hdue
    exact (ran_next _ _ _ (decide_eq_true hi)).trans
      (by rw [State.sapAnnounce_due hrun hout henabled hannounce haes hdue])
  case adp =>
    intro s hrun hout hdue
    have hstr := State.adpAvailable_str hrun hout hdue
    exact ⟨_, goOn_next s _, by rw [State.goesTo_str, hstr], by rw [State.goesTo_str, hstr]⟩
  case sdp =>
    intro i x s hi hx hdue
    exact (ran_next _ _ _ (decide_eq_true hi)).trans (by rw [State.sessionExpires_due hx hdue])
  case acmp =>
    intro i vid id dmac s u e t hi hvid hvalid hmanaged havtp hown hrun hplace
    exact (ran_next _ _ _ (by simp [hi, hvid])).trans
      (by rw [State.acmp_listener id dmac vid hvalid hmanaged havtp hown hrun hplace])

end Sys2Proof.Machine
end

section
/-!
PROOFS. TDM ports, AES3 receivers and non-audio mutes (chapter 7): each event where it is due.
-/
namespace Sys2Proof.Machine

section
variable {s : State} {k p n : Nat}

/-! ## Clocks (R322, R323, R326, Table 7-4) -/

/-- An interface other than a receiver loses its clock by a rate change. -/
theorem State.serRateChange_lost (hz : Nat) (hruns : s.serRuns k = true)
    (hoff : rateNear hz (s.serNominal k) = false) (hrx : serIsRx k = false) :
    s.serRateChange k hz = ((s.clockLost k 2).modSer k fun x => { x with measured := hz }).serEvent 0x0323
      Sev.warning k 0 (le 4 hz) := by
  simp only [State.serRateChange, hruns, hoff, hrx, Bool.not_true, Bool.or_self, Bool.false_and, Bool.false_eq_true,
    if_false]

theorem State.serReturn_nominal {hz : Nat} (htdm : serIsTdm k = true)
    (hstate : (s.ser_ k).state = 1 ∨ (s.ser_ k).state = 3) (hslave : s.serDrives k (s.ser_ k).set = false)
    (hnear : rateNear hz (s.serNominal k) = true) : s.serReturn k hz = s.clockOk k hz := by
  have h : (serIsTdm k && ((s.ser_ k).state == 1 || (s.ser_ k).state == 3) &&
      !s.serDrives k (s.ser_ k).set) = true := by simp [htdm, hstate, hslave]
  simp only [State.serReturn, h, hnear, if_true]

/-- A wrong bit count is counted, and the 16th in a row takes the clock. -/
theorem State.bitCount_running (again : Bool) (hruns : s.serRuns p = true) :
    s.bitCount p again =
      let t := s.modSer p fun x => { x.count 1 with badRun := if again then x.badRun + 1 else 1 }
      if 16 ≤ (t.ser_ p).badRun then (t.clockLost p 3).serEvent 0x0320 Sev.warning p 3 [] else t := by
  simp only [State.bitCount, hruns, Bool.not_true, Bool.false_eq_true, if_false]

theorem State.slips_running (slow : Bool) (hstate : (s.ser_ k).state = 2)
    (hslip : hasSlip k (s.ser_ k).set = true) :
    s.slips k slow = (s.setSer k { (s.ser_ k).count 2 with
      slip := 0, slipFade := true, fade := Fade.out 16 }).oncePerSecond (0x32200 * 4096 + k) fun s =>
        s.serEvent 0x0322 Sev.warning k (if slow then 1 else 2) (le 4 (tget 0 (s.ser_ k).counters 2)) := by
  have h : ¬ ((s.ser_ k).state ≠ 2 ∨ hasSlip k (s.ser_ k).set = false) := by simp [hstate, hslip]
  simp only [State.slips, if_neg h]

/-! ## TDM settings (R317-R319) -/

theorem State.latchMasks_written {m : List Byte} (hm : (s.ser_ p).masks = some m) :
    s.latchMasks p = if s.tdmOk p ((tdmSet (s.ser_ p)).take 8 ++ m) then
      s.setSer p { s.ser_ p with set := (tdmSet (s.ser_ p)).take 8 ++ m, masks := none, pendc := false }
      else s.pendTdm p := by
  simp only [State.latchMasks, hm]

theorem State.changeFraming_pending {b : List Byte} (hb : (s.ser_ p).newSet = some b) :
    s.changeFraming p = (s.setSer p { s.ser_ p with
      set := b, newSet := none, masks := none, pendc := false, badRun := 0, last := [] }).judgeSer p := by
  simp only [State.changeFraming, hb]

/-! ## AES3 receivers (R325, R328, R335) -/

theorem State.statusBlock_badCrc {d : List Byte} (hruns : s.serRuns (16 + n) = true)
    (hpro : bitOf (u8 (slice (d ++ zeros 24) 0 24) 0) 0 = true)
    (hcrc : u8 (slice (d ++ zeros 24) 0 24) 23 ≠ csCrc (slice (d ++ zeros 24) 0 24)) :
    s.statusBlock n d = s.modSer (16 + n) (·.count 6) := by
  simp only [State.statusBlock, hruns, hpro, bne_iff_ne.2 hcrc, Bool.not_true, Bool.and_self, Bool.false_eq_true,
    if_false, if_true]

/-- A sound block that says NON-AUDIO mutes the receiver's pair. -/
theorem State.statusBlock_nonAudio {d : List Byte} (hruns : s.serRuns (16 + n) = true)
    (hsound : bitOf (u8 (slice (d ++ zeros 24) 0 24) 0) 0 = false ∨
      u8 (slice (d ++ zeros 24) 0 24) 23 = csCrc (slice (d ++ zeros 24) 0 24))
    (hnon : bitOf (u8 (slice (d ++ zeros 24) 0 24) 0) 1 = true) :
    s.statusBlock n d = (s.modSer (16 + n) fun x =>
      { x with cs := slice (d ++ zeros 24) 0 24 }).naMute (naIface (16 + n)) 0 true := by
  have h : (bitOf (u8 (slice (d ++ zeros 24) 0 24) 0) 0 &&
      u8 (slice (d ++ zeros 24) 0 24) 23 != csCrc (slice (d ++ zeros 24) 0 24)) = false := by
    rcases hsound with h | h <;> simp [h]
  simp only [State.statusBlock, hruns, h, hnon, Bool.not_true, Bool.false_eq_true, if_false, if_true]

section
variable {hz : Nat} (h0 : (s.ser_ (16 + n)).state ≠ 0) (h2 : (s.ser_ (16 + n)).state ≠ 2)
include h0 h2

theorem State.receiverLock_unknown (hnominal : aesNominal hz = none) :
    s.receiverLock n hz =
      s.setSer (16 + n) { s.ser_ (16 + n) with state := 3, cause := 4, measured := hz } := by
  have h : ¬ ((s.ser_ (16 + n)).state = 0 ∨ (s.ser_ (16 + n)).state = 2) := by omega
  simp only [State.receiverLock, if_neg h, hnominal]

/-- A receiver without an ASRC group locks at the device's own rate. -/
theorem State.receiverLock_ownRate (hnominal : aesNominal hz = some s.rate)
    (hmode : u8 (s.ser_ (16 + n)).set 2 ≠ 2) : s.receiverLock n hz = s.clockOk (16 + n) hz := by
  have h : ¬ ((s.ser_ (16 + n)).state = 0 ∨ (s.ser_ (16 + n)).state = 2) := by omega
  simp only [State.receiverLock, if_neg h, hnominal, if_neg hmode, if_true]

end

/-! ## Non-audio mutes (R332-R335) -/

/-- A preamble on a stream's pair mutes it; only a serial interface counts it. -/
theorem State.naDetect_stream {i pair even odd : Nat} (hi : i < 512) (hpair : s.naPairOk i pair = true)
    (hpre : isPreamble even odd = true) : s.naDetect i pair even odd = s.naMute i pair false := by
  simp only [State.naDetect, hpair, hpre, Bool.and_self, if_true, if_neg (Nat.not_le.2 hi)]

end

/-- Settles O41: where an event is due its equation above says what it does. -/
theorem serialEventsComplete : Obligations.SerialEventsComplete := by
  refine ⟨?clock, ?back, ?bits, ?slip, ?masks, ?framing, ?block, ?lock, ?detect, ?hold⟩
  case clock =>
    intro k s hk hruns
    exact ⟨ran_guarded (decide_eq_true hk) hruns, ran_guarded (decide_eq_true hk) hruns, fun hz hoff hrx =>
      (ran_next _ _ _ (decide_eq_true hk)).trans (by rw [State.serRateChange_lost hz hruns hoff hrx])⟩
  case back =>
    intro k hz s hk htdm hstate hslave hnear
    exact (ran_next _ _ _ (decide_eq_true hk)).trans (by rw [State.serReturn_nominal htdm hstate hslave hnear])
  case bits =>
    intro p again s t hp hruns
    have hcount := State.bitCount_running again hruns
    exact ⟨fun hfew => (ran_next _ _ _ (decide_eq_true hp)).trans
        (by rw [hcount.trans (if_neg (Nat.not_le.2 hfew))]),
      fun hmany => (ran_next _ _ _ (decide_eq_true hp)).trans (by rw [hcount.trans (if_pos hmany)])⟩
  case slip =>
    intro k slow s hk hstate hslip
    exact (ran_next _ _ _ (decide_eq_true hk)).trans (by rw [State.slips_running slow hstate hslip])
  case masks =>
    intro p m s hp hm
    exact ⟨fun hok => (ran_next _ _ _ (decide_eq_true hp)).trans (by rw [State.latchMasks_written hm, if_pos hok]),
      fun hbad => (ran_next _ _ _ (decide_eq_true hp)).trans
        (by rw [State.latchMasks_written hm, if_neg (by simp [hbad])])⟩
  case framing =>
    intro p b s hp hb
    exact (ran_next _ _ _ (decide_eq_true hp)).trans (by rw [State.changeFraming_pending hb])
  case block =>
    intro n s hn hruns
    refine ⟨fun kind hkind => ran_guarded (by simp [hn, hkind]) hruns, ?_⟩
    intro d b t
    exact ⟨fun hpro hcrc => (ran_next _ _ _ (decide_eq_true hn)).trans
        (by rw [State.statusBlock_badCrc hruns hpro hcrc]),
      fun hsound hnon => (ran_next _ _ _ (decide_eq_true hn)).trans
        (by rw [State.statusBlock_nonAudio hruns hsound hnon])⟩
  case lock =>
    intro n hz s hn h0 h2
    exact ⟨fun hnominal => (ran_next _ _ _ (decide_eq_true hn)).trans
        (by rw [State.receiverLock_unknown h0 h2 hnominal]),
      fun hnominal hmode => (ran_next _ _ _ (decide_eq_true hn)).trans
        (by rw [State.receiverLock_ownRate h0 h2 hnominal hmode])⟩
  case detect =>
    intro i pair even odd s hi hpair hok hpre
    exact (ran_next _ _ _ (by simp only [Bool.and_eq_true, decide_eq_true_eq]; omega)).trans
      (by rw [State.naDetect_stream hi hok hpre])
  case hold =>
    intro i pair s hi hpair hmuted hcs hdue
    exact ran_guarded (by simp [hi, hpair]) ⟨hmuted, hcs, hdue⟩

end Sys2Proof.Machine
end

section
/-!
PROOFS. The sight line (chapters 5 and 14): its transport, and the messages it delivers in sequence.
-/
namespace Sys2Proof.Machine

section
variable {s : State} {f : List Byte}

/-! ## Synchronisation and acknowledgements (R245-R247) -/

/-- Until the transport is ready a SYNC goes out. -/
theorem State.syncSend_unready (hlink : (s.port 3).link = true) (hwait : s.isReady Rdy.sight = false)
    (hf : s.net.sight.frozen = false) :
    s.syncSend = s.sightMod fun x => { x with out := x.out ++ [syncFrame s] } := by
  simp only [State.syncSend, hlink, hwait, Bool.not_false, Bool.and_self, if_true, State.sightMod, hf,
    Bool.false_eq_true, if_false]

/-- The first SYNC of a peer is learned and acknowledged. -/
theorem State.syncReceive_first (hf : s.net.sight.frozen = false) (hver : u8 f 0 = 1) (htype : u8 f 1 = 0)
    (hlen : u16 f 20 = 16) (hfirst : s.net.sight.peerSync = false) :
    s.syncReceive f =
      let t := s.sightMod fun x => { x with
        peerSync := true, peerAddr := slice (f.drop 32) 0 6, peerBoot := u32 (f.drop 32) 8
        peerId := u8 (f.drop 32) 6 == 1 }
      (({ t with pair := { t.pair with heard := true } }).sightMod Sight.sendAck).sightReadyNow := by
  simp only [State.syncReceive, hf, hver, htype, hlen, hfirst, bne_self_eq_false, Bool.or_self, Bool.false_and,
    Bool.false_eq_true, if_false]

theorem State.ackReceive_ack (hf : s.net.sight.frozen = false) (hver : u8 f 0 = 1) (htype : u8 f 1 = 1) :
    s.ackReceive f =
      (s.sightMod fun x => { x.ackTo (u32 f 24) s.time.elapsed with ackSeen := true }).sightReadyNow := by
  simp only [State.ackReceive, hf, hver, htype, bne_self_eq_false, beq_self_eq_true, Bool.or_self, Bool.or_true,
    Bool.false_eq_true, if_false]

theorem State.ackTimer_due {t : Nat} (hack : s.net.sight.ackDue = some t) (hdue : t + 10 * micro ≤ s.time.elapsed) :
    s.ackTimer = s.sightMod Sight.sendAck := by
  simp only [State.ackTimer, hack, if_pos hdue]

/-- A stalled acknowledgement fails the line after 8 resends, and resends what is owed before. -/
theorem State.retransmit_stalled (howed : s.net.sight.unacked ≠ [])
    (hstalled : s.net.sight.progress + 50 * micro ≤ s.time.elapsed) :
    s.retransmit = if 8 ≤ s.net.sight.resends then s.sightFails else
      (s.sightMod fun x => x.unacked.foldl (fun y u => y.emit (asResend u.2))
        { x with resends := x.resends + 1, progress := s.time.elapsed }).countPort 3 Ctr.sightRetrans 1 :=
  if_pos ⟨howed, hstalled⟩

/-! ## Messages (R247, R248, Table 14-4) -/

section
variable {use : State → State} {kind : Nat} (hseq : (s.sequenced f).2 = true)
include hseq

/-- A message in sequence reaches the consumer of its type. -/
theorem State.sightMessage_delivered {stype : Nat} (htype : u8 f 1 = stype) :
    s.sightMessage f stype use = use (s.sequenced f).1 := by
  simp only [State.sightMessage, htype, hseq, ne_eq, not_true_eq_false, if_false, if_true]

theorem State.commandMessage_delivered (htype : u8 f 1 = 3) (hkind : u8 (sightPayload f) 0 = kind) :
    s.commandMessage f kind use = use (s.sequenced f).1 :=
  (if_pos hkind).trans (State.sightMessage_delivered hseq htype)

theorem State.roleMessage_delivered (htype : u8 f 1 = 6) (hkind : u8 (sightPayload f) 0 = kind) :
    s.roleMessage f kind use = use (s.sequenced f).1 :=
  (if_pos hkind).trans (State.sightMessage_delivered hseq htype)

end

/-! ## Heartbeats of the peer (R583, R587) -/

theorem State.peerBeat_taken (hf : s.net.sight.frozen = false) (hver : u8 f 0 = 1) (htype : u8 f 1 = 2)
    (hpair : s.pair.state ≠ .single) :
    s.peerBeat f =
      let t := (s.ackReceive f).pairMod fun p =>
        { p with peer := parseBeat f, beats := (p.beats.filter fun n => n != (parseBeat f).ri) ++ [(parseBeat f).ri] }
      ((t.pairMod fun p => { p with beats := p.beats.drop (p.beats.length - 16) }).peerRequests
        (parseBeat f).reqBits).beatRole (parseBeat f) := by
  simp only [State.peerBeat, hf, hver, htype, beq_false_of_ne hpair, bne_self_eq_false, Bool.or_self,
    Bool.false_eq_true, if_false]

end

/-- Settles O42: a timer that is due, or a frame of the transport, is that of its equation above, and a frame in
sequence reaches the consumer of its type and kind. That REFUSE has no effect of its own, and that a mirrored write is
taken in any state of the pair, is log 137, deduced. -/
theorem sightlineCompletes : Obligations.SightlineCompletes := by
  refine ⟨?sync, ?learned, ?ack, ?timer, ?resend, ?messages, ?beat⟩
  case sync =>
    intro s hlink hwait hf
    exact (goOn_next s _).trans (by rw [State.syncSend_unready hlink hwait hf])
  case learned =>
    intro f s t hf hver htype hlen hfirst
    exact (goOn_next s _).trans (by rw [State.syncReceive_first hf hver htype hlen hfirst])
  case ack =>
    intro f s hf hver htype
    exact (goOn_guarded htype).trans (by rw [State.ackReceive_ack hf hver htype])
  case timer =>
    intro t s hack hdue
    exact (goOn_next s _).trans (by rw [State.ackTimer_due hack hdue])
  case resend =>
    intro s howed hstalled
    exact ⟨fun hmany => (goOn_next s _).trans (by rw [State.retransmit_stalled howed hstalled, if_pos hmany]),
      fun hfew => (goOn_next s _).trans
        (by rw [State.retransmit_stalled howed hstalled, if_neg (Nat.not_le.2 hfew)])⟩
  case messages =>
    intro f s hseq
    have hcommand (kind : Nat) (use : State → State) (htype : u8 f 1 = 3) (hkind : u8 (sightPayload f) 0 = kind) :
        goOn s (s.commandMessage f kind use) = .next (s.goesTo (use (s.sequenced f).1)) := by
      rw [State.commandMessage_delivered hseq htype hkind, goOn_next]
    have hrole (kind : Nat) (use : State → State) (htype : u8 f 1 = 6) (hkind : u8 (sightPayload f) 0 = kind) :
        goOn s (s.roleMessage f kind use) = .next (s.goesTo (use (s.sequenced f).1)) := by
      rw [State.roleMessage_delivered hseq htype hkind, goOn_next]
    refine ⟨fun htype => ⟨hcommand 1 _ htype, hcommand 2 _ htype, hcommand 3 _ htype, hcommand 4 _ htype⟩,
      fun htype => ?_, fun htype => ?_,
      fun htype => ⟨hrole 1 _ htype, hrole 2 _ htype, hrole 3 _ htype, hrole 4 _ htype, hrole 5 _ htype,
        hrole 6 _ htype, hrole 7 _ htype, hrole 8 _ htype⟩⟩
    · exact (goOn_next s _).trans (by rw [State.sightMessage_delivered hseq htype])
    · exact (goOn_next s _).trans (by rw [State.sightMessage_delivered hseq htype])
  case beat =>
    intro f s t hf hver htype hpair
    exact (goOn_next s _).trans (by rw [State.peerBeat_taken hf hver htype hpair])

end Sys2Proof.Machine
end

section
/-!
PROOFS. The roles of a pair (chapter 14): each event where it is due.
-/
namespace Sys2Proof.Machine

section
variable {s : State}

/-! ## Taking over, fencing and holding (R586, R601-R603) -/

theorem State.takeover_allowed (h : s.pair.mayTake = true) :
    s.takeover =
      let t := (((s.enterPair .alone).judgeHeld s).pairMod fun q => { q with
        takeovers := (q.takeovers + 1) % 4294967296, lastTake := s.time.ri }).replayAll.announce
      let u := t.sendRole 6 0 t.time.ri t.pair.state.code t.dat.id
      u.event 0x0B03 Sev.error 0x0B 0x0000 (le 1 (min 255 s.pair.misses) ++ zeros 3 ++ le 4 u.time.ri) := by
  simp only [State.takeover, h, Bool.not_true, Bool.false_eq_true, if_false]

theorem State.fenceExpires_late {n : Nat} (hrole : s.pair.state = .backsight) (hfence : s.pair.peerFenced = true)
    (hwait : s.pair.fenceWait = some n) (hlate : 2 ≤ n) : s.fenceExpires = s.isolate := by
  simp [State.fenceExpires, hrole, hfence, hwait, hlate]

theorem State.fenceConflict_yields (hid : s.pair.pairId = true) (hactive : s.pair.active = true)
    (hfence : s.pair.fenced = true) (hrun : 2 ≤ s.pair.fenceRun) :
    s.fenceConflict = s.dropPeerLoad.seek.pairSplit 2 := by
  simp only [State.fenceConflict, hid, hactive, hfence, decide_eq_true hrun, Bool.and_self, if_true]

theorem State.foreHold_due {h : Nat} (hhold : s.pair.holdAt = some h) (hdue : h ≤ s.time.ri)
    (hrole : s.pair.state = .foresight) (hmay : s.pair.fenced = true ∨ s.pair.hbOnly = true) :
    s.foreHold = s.setSelfHold (some s.time.ri) := by
  have hcond : (s.pair.state == .foresight && (s.pair.fenced || s.pair.hbOnly)) = true := by simp [hrole, hmay]
  simp only [State.foreHold, hhold, if_neg (Nat.not_lt.2 hdue), hcond, if_true]

/-- A block after the hold the outputs are released, unless the peer's fence stands. -/
theorem State.foreRelease_due {h : Nat} (hhold : s.pair.selfHold = some h) (hrole : s.pair.state.isFore = true)
    (hdue : h + s.blockLen ≤ s.time.ri) :
    s.foreRelease = if s.pair.peerFenced then s.dropPeerLoad.seek else s.goAlone.setSelfHold none := by
  simp only [State.foreRelease, hhold, hrole, decide_eq_false (Nat.not_lt.2 hdue), Bool.not_true, Bool.or_self,
    Bool.false_eq_true, if_false]

/-! ## Seeking and joining (R582, R583, R603, R607) -/

theorem State.foreRejoin_due (hrole : s.pair.state = .seeking) (hheld : s.pair.selfHold.isSome = true)
    (hsent : s.pair.withheld = 0) (hdue : s.pair.beatFrom + 3 * second ≤ s.time.elapsed) :
    s.foreRejoin = (s.setSelfHold none).requestJoin := by
  simp [State.foreRejoin, hrole, hheld, hsent, hdue]

theorem State.seekTimeout_due (hrole : s.pair.state = .seeking) (hfree : s.pair.selfHold = none)
    (hsilent : s.pair.heard = false) (hdue : s.pair.seekFrom + s.pair.seekNs ≤ s.time.elapsed)
    (hfence : s.pair.peerFenced = false) : s.seekTimeout = s.becomeAlone := by
  simp [State.seekTimeout, hrole, hfree, hsilent, hdue, hfence]

/-- At J the joiner takes the records that it holds, and is the Backsight. -/
theorem State.joinStart_due {j : Nat} (hj : s.pair.joinAt = some j) (hrole : s.pair.state = .joining)
    (hdue : j ≤ s.time.ri) (hidle : s.dat.phase = 0) :
    s.joinStart =
      let t := (((s.pair.snapshot.filter fun m => u8 m 0 == 0xFF).map (·.drop 1)).foldl State.takeRecords
        s.startSnapshot).pairMod fun p =>
          { p with state := .backsight, snapshot := [], misses := 0, settled := false, resent := false }
      t.sendRole 3 0 0 t.pair.state.code t.dat.id := by
  have h : ¬ (s.pair.state ≠ .joining ∨ s.time.ri < j ∨ s.dat.phase ≠ 0) := by simp [hrole, hdue, hidle]
  simp only [State.joinStart, hj, if_neg h]

theorem State.pairSettles_due {j : Nat} (hj : s.pair.joinAt = some j) (hopen : s.pair.settled = false)
    (hrole : s.pair.state = .foresight ∨ s.pair.state = .backsight) (hdue : j + 3 * s.rate ≤ s.time.ri) :
    s.pairSettles = ((s.pairMod fun p => { p with settled := true }).showPair).event 0x0B01 Sev.notice 0x0B 0x0000
      (le 1 s.pair.state.code ++ zeros 3 ++ le 4 j) := by
  have hpart : (s.pair.state == .foresight || s.pair.state == .backsight) = true := by simpa using hrole
  simp only [State.pairSettles, hj, hopen, hpart, decide_eq_false (Nat.not_lt.2 hdue), Bool.not_true, Bool.or_self,
    Bool.false_eq_true, if_false]

/-! ## Handing over and skew (R605, R606, R608) -/

/-- At H an acknowledged Foresight that nothing waits for becomes the Backsight. -/
theorem State.handoverNow_foresight {x : Handover} (hx : s.pair.handover = some x) (hdue : x.h ≤ s.time.ri)
    (hacked : x.acked = true) (hreq : x.req = none) (hrole : s.pair.state = .foresight)
    (hload : s.pair.peerLoad = false) (hwait : s.pair.loadReq = none) :
    s.handoverNow =
      ((((s.enterPair .backsight).judgeHeld s).pairMod fun q => { q with
        settled := true, switchRi := some x.h, handover := none, loadReq := none, joinAt := s.pair.joinAt
        mseq := q.mseq, mseqDone := q.mseq }).showPair).event 0x0B04 Sev.notice 0x0B 0x0000
          (le 1 PState.backsight.code ++ zeros 3 ++ le 4 x.h) := by
  simp only [State.handoverNow, hx, if_neg (Nat.not_lt.2 hdue), hacked, hreq, hrole, hload, hwait,
    beq_self_eq_true, Bool.true_or, Bool.and_self, Bool.not_true, Bool.not_false, Bool.false_eq_true, if_false,
    if_true]

theorem State.handoverLate_unacknowledged {x : Handover} (hx : s.pair.handover = some x) (hopen : x.acked = false)
    (hlate : x.h ≤ s.time.ri + 2 * s.blockLen) : s.handoverLate = s.dropHandover x := by
  simp only [State.handoverLate, hx, hopen, decide_eq_true hlate, Bool.not_false, Bool.and_self, if_true]

theorem State.skew_due {t : Nat} (hskew : s.pair.skewFrom = some t) (hopen : s.pair.skewSent = false)
    (hdue : t + second ≤ s.time.elapsed) :
    s.skew = (s.pairMod fun p => { p with skewSent := true }).event 0x0B07 Sev.warning 0x0B 0x0000
      (zeros 4 ++ leI 4 s.pair.offset) := by
  simp only [State.skew, hskew, hopen, decide_eq_false (Nat.not_lt.2 hdue), Bool.or_self, Bool.false_eq_true,
    if_false]

end

/-- Settles O43: where an event is due its equation above says what it does. -/
theorem pairEventsComplete : Obligations.PairEventsComplete := by
  refine ⟨?take, ?isolate, ?conflict, ?hold, ?release, ?rejoin, ?timeout, ?join, ?settled, ?handover, ?abandon, ?skew⟩
  case take =>
    intro s t hmay
    exact (goOn_next s _).trans (by rw [State.takeover_allowed hmay])
  case isolate =>
    intro n s hrole hfence hwait hlate
    exact (goOn_next s _).trans (by rw [State.fenceExpires_late hrole hfence hwait hlate])
  case conflict =>
    intro s hid hactive hfence hrun
    exact (goOn_next s _).trans (by rw [State.fenceConflict_yields hid hactive hfence hrun])
  case hold =>
    intro h s hhold hdue hrole hmay
    exact (goOn_next s _).trans (by rw [State.foreHold_due hhold hdue hrole hmay])
  case release =>
    intro h s hhold hrole hdue
    exact (goOn_next s _).trans (by rw [State.foreRelease_due hhold hrole hdue])
  case rejoin =>
    intro s hrole hheld hsent hdue
    exact (goOn_next s _).trans (by rw [State.foreRejoin_due hrole hheld hsent hdue])
  case timeout =>
    intro s hrole hfree hsilent hdue hfence
    exact (goOn_next s _).trans (by rw [State.seekTimeout_due hrole hfree hsilent hdue hfence])
  case join =>
    intro j s hj hrole hdue hidle t
    exact (goOn_next s _).trans (by rw [State.joinStart_due hj hrole hdue hidle])
  case settled =>
    intro j s hj hopen hrole hdue
    exact (goOn_next s _).trans (by rw [State.pairSettles_due hj hopen hrole hdue])
  case handover =>
    intro x s hx hdue hacked hreq hrole hload hwait
    exact (goOn_next s _).trans (by rw [State.handoverNow_foresight hx hdue hacked hreq hrole hload hwait])
  case abandon =>
    intro x s hx hopen hlate
    exact (goOn_next s _).trans (by rw [State.handoverLate_unacknowledged hx hopen hlate])
  case skew =>
    intro t s hskew hopen hdue
    exact (goOn_next s _).trans (by rw [State.skew_due hskew hopen hdue])

end Sys2Proof.Machine
end

section
/-!
PROOFS. Inputs, delegation and heartbeats of the safety island (chapter 12): each event where it is due.
-/
namespace Sys2Proof.Machine

section
variable {s : State} {r : Nat}

/-! ## Inputs (R504, R505) -/

theorem State.sampleInputs_ready (mv : List Nat) (h : s.saf.ready = true) :
    s.sampleInputs mv = (List.range 8).foldl (fun s i => s.sampleInput i (mv.getD i 0)) s := if_pos h

/-- While blocks tick they pace the island's content. -/
theorem State.islandPace_blocks (ins : List (Nat × List Int)) (h : s.blocksPace = true) : s.islandPace ins = s := by
  simp only [State.islandPace, h, Bool.not_true, Bool.and_false, Bool.false_eq_true, if_false]

theorem State.inputBandOut_due {i t : Nat} (hbetween : (s.safIn i).between = some t) (hready : s.saf.ready = true)
    (hdue : t + second ≤ s.time.elapsed) :
    s.inputBandOut i = (s.inputFault i SafFault.inputBand true).safRefresh := by
  simp only [State.inputBandOut, hbetween, if_pos (And.intro hready hdue)]

/-! ## Delegation (R523, R524) -/

/-- A request without an overlay of its own begins at once. -/
theorem State.delegationApply_plain (hready : s.saf.ready = true) (hbeats : s.saf.hbMissing = 0)
    (hwants : s.wantsOverlay r = true) (hphase : s.dat.phase ≠ 3) (hovl : s.reqOvl r = none) :
    s.delegationApply r = s.beginDelegation r := by
  have h : (!(s.saf.ready && s.saf.hbMissing == 0 && s.wantsOverlay r) || decide (s.dat.phase = 3)) = false := by
    simp [hready, hbeats, hwants, hphase]
  simp only [State.delegationApply, h, Bool.false_eq_true, if_false, hovl]

theorem State.handOff_due {a : Nat} (ha : (s.safReq r).boundaryA = some a) (hready : s.saf.ready = true)
    (hactive : (s.safReq r).active = true) (hstart : (s.safReq r).deleg = Deleg.start)
    (hmissing : s.saf.hbMissing = 0) (hbeats : (s.safReq r).beatsOk = true)
    (hdue : a + (profDepth s.fab.active + 3) * s.blockLen ≤ s.time.ri) :
    s.handOff r = ((s.setSafReq r { s.safReq r with
      deleg := Deleg.delegated, direct := s.keptDirect r }).islandEvent 0x0E03 Sev.notice
        (le 1 r ++ zeros 3 ++ le 2 (s.keptDirect r).length)).settleSinks s.saf := by
  have h : (s.saf.ready && (s.safReq r).active && (s.safReq r).deleg == Deleg.start && s.saf.hbMissing == 0) =
      true := by simp [hready, hactive, hstart, hmissing]
  simp only [State.handOff, ha, h, hbeats, Bool.not_true, Bool.false_eq_true, if_false, if_neg (Nat.not_lt.2 hdue)]

theorem State.delegReturn_due {since : Nat} (hhealthy : s.saf.healthy = some since) (hready : s.saf.ready = true)
    (hset : SafCfg.returnS s.saf.general ≠ 0) (hactive : (s.safReq r).active = true)
    (htaken : (s.safReq r).deleg = Deleg.takenOver)
    (hdue : since + SafCfg.returnS s.saf.general * second ≤ s.time.elapsed) :
    s.delegReturn r =
      (s.setSafReq r { s.safReq r with deleg := Deleg.start, boundaryA := none, direct := [] }).settleSinks s.saf := by
  have h : (s.saf.ready && SafCfg.returnS s.saf.general != 0 && (s.safReq r).active &&
      (s.safReq r).deleg == Deleg.takenOver &&
      decide (since + SafCfg.returnS s.saf.general * second ≤ s.time.elapsed)) = true := by
    rw [hready, bne_iff_ne.2 hset, hactive, htaken, decide_eq_true hdue]
    rfl
  simp only [State.delegReturn, hhealthy, h, if_true]

/-! ## Heartbeats (R522) -/

theorem State.beatMissing_noticed (i : Nat) (hready : s.saf.ready = true) (hpresent : bitOf s.saf.hbMissing i = false) :
    s.beatMissing i =
      (((s.safMod fun x => { x with hbMissing := withBit x.hbMissing i true, healthy := none }).islandFault 0
        (SafFault.fabricHb + i) true).takeOver (SafFault.fabricHb + i)).safRefresh := by
  simp only [State.beatMissing, hready, hpresent, Bool.not_true, Bool.or_self, Bool.false_eq_true, if_false]

/-- A heartbeat that was not missing changes no judgement. -/
theorem State.beatBack_present {i : Nat} (h : bitOf s.saf.hbMissing i = false) : s.beatBack i = s := by
  simp only [State.beatBack, h, Bool.not_false, if_true]

/-! ## Lines, triggers and time (R503, R531, R532) -/

theorem State.reportSilence_due {e : Nat} (hready : s.saf.ready = true)
    (hon : bitOf (u8 (s.saf.lineEntries.getD e []) 1) 0 = true)
    (hdue : max s.saf.readyAt ((s.saf.lineAt e).last.getD 0) + SafCfg.reportToMs s.saf.general * milli ≤
      s.time.elapsed) :
    s.reportSilence e = (s.lineFault e SafFault.reportSilent true).safRefresh := by
  simp only [State.reportSilence, hready, hon, decide_eq_true hdue, Bool.and_self, if_true]

theorem State.triggerEnds_due (hready : s.saf.ready = true) (htrigger : (s.safReq r).trigger = true)
    (hdue : (s.safReq r).trigUntil ≤ s.time.elapsed) :
    s.triggerEnds r = s.changeReq r 2 fun q => { q with trigger := false } := by
  simp only [State.triggerEnds, hready, htrigger, decide_eq_true hdue, Bool.and_self, if_true]

/-- Once a second island time slews towards device time, or steps to it where they are more than 1 ms apart. -/
theorem State.compareTime_due (hpower : s.saf.present = true) (htime : s.isReady Rdy.time = true)
    (hcrystal : (s.loop 0).fallback = false)
    (hdue : ∀ t, s.saf.compared = some t → t + second ≤ s.time.elapsed) :
    s.compareTime =
      let d : Int := (s.time.now.nanos : Int) - (s.saf.time.nanos : Int)
      s.safMod fun x => if d.natAbs ≤ milli then
          { x with compared := some s.time.elapsed, slewPpb := clampI (-100000) 100000 d }
        else { x with compared := some s.time.elapsed, time := s.time.now, slewPpb := 0 } := by
  cases hc : s.saf.compared with
  | none =>
    simp only [State.compareTime, hpower, htime, hcrystal, hc, Bool.not_true, Bool.not_false, Bool.and_self,
      Bool.false_eq_true, if_false]
  | some t =>
    simp only [State.compareTime, hpower, htime, hcrystal, hc, decide_eq_true (hdue t hc), Bool.not_true,
      Bool.not_false, Bool.and_self, Bool.false_eq_true, if_false]

end

/-- Settles O44: each event runs on an input, a request or a line that the island has, and where it is due its equation
above says what it does. -/
theorem islandEventsComplete : Obligations.IslandEventsComplete := by
  refine ⟨?sample, ?state, ?band, ?apply, ?handOff, ?missing, ?heartbeat, ?returned, ?silent, ?trigger, ?time⟩
  case sample =>
    intro mv ins s hready _ hpace
    exact (goOn_next s _).trans (by rw [State.sampleInputs_ready mv hready, State.islandPace_blocks ins hpace])
  case state =>
    intro i s hi hdue
    exact exec_inputStateChange_due hi hdue
  case band =>
    intro i t s hi hbetween hready hdue
    rw [exec_inputBandTimeout hi, State.inputBandOut_due hbetween hready hdue]
  case apply =>
    intro r s hr hready hbeats hwants hphase hovl
    exact (ran_next _ _ _ (decide_eq_true hr)).trans
      (by rw [State.delegationApply_plain hready hbeats hwants hphase hovl])
  case handOff =>
    intro r a s kept t hr ha hready hactive hstart hmissing hbeats hdue
    exact (ran_next _ _ _ (decide_eq_true hr)).trans
      (by rw [State.handOff_due ha hready hactive hstart hmissing hbeats hdue])
  case missing =>
    intro s hready
    refine ⟨fun hmissing hpresent => ?_, fun hlate hpresent => ?_, fun hslot hlate hpresent => ?_⟩
    · exact (goOn_guarded hmissing).trans (by rw [State.beatMissing_noticed 0 hready hpresent]; rfl)
    · exact (goOn_guarded hlate).trans (by rw [State.beatMissing_noticed 1 hready hpresent])
    · exact (goOn_guarded ⟨hslot, hlate⟩).trans (by rw [State.beatMissing_noticed 2 hready hpresent])
  case heartbeat =>
    intro s hrun hpower hpresent
    refine (goOn_guarded (by rw [hrun, hpower]; rfl)).trans ?_
    rw [State.beatBack_present]
    exact hpresent
  case returned =>
    intro r since s hr hhealthy hready hset hactive htaken hdue
    exact (ran_next _ _ _ (decide_eq_true hr)).trans
      (by rw [State.delegReturn_due hhealthy hready hset hactive htaken hdue])
  case silent =>
    intro e s he hready hon hdue
    exact (ran_next _ _ _ (decide_eq_true he)).trans (by rw [State.reportSilence_due hready hon hdue])
  case trigger =>
    intro r s hr hready htrigger hdue
    exact (ran_next _ _ _ (decide_eq_true hr)).trans (by rw [State.triggerEnds_due hready htrigger hdue])
  case time =>
    intro s d hpower htime hcrystal hdue
    have hcompare := State.compareTime_due hpower htime hcrystal hdue
    exact ⟨fun hnear => (goOn_next s _).trans
        (by rw [hcompare.trans (congrArg s.safMod (funext fun _ => if_pos hnear))]),
      fun hfar => (goOn_next s _).trans
        (by rw [hcompare.trans (congrArg s.safMod (funext fun _ => if_neg (Nat.not_le.2 hfar)))])⟩

end Sys2Proof.Machine
end

section
/-!
PROOFS. What ports, links and stores leave as it was (chapters 2, 3, 5, 12, 13 and 14).
-/
namespace Sys2Proof.Machine

theorem goOn_eq_next {s t u : State} (h : goOn s t = .next u) : u = s.goesTo t := by
  rw [goOn_next] at h
  injection h with h
  exact h.symm

section
variable {s t u : State} {wf : Bool} {name : String}

/-- A command whose effect leaves the audio alone leaves it alone. -/
theorem ran_sameAudio (k : s.sameAudio t) (h : ran wf name s t = .next u) : s.sameAudio u := by
  rw [ran_eq_next h]
  exact k.trans (goesTo_frame s t).1

theorem goOn_sameAudio (k : s.sameAudio t) (h : goOn s t = .next u) : s.sameAudio u := by
  rw [goOn_eq_next h]
  exact k.trans (goesTo_frame s t).1

theorem State.sameAudio.ite {c : Prop} [Decidable c] (ht : s.sameAudio t) (hu : s.sameAudio u) :
    s.sameAudio (if c then t else u) := by
  split
  · exact ht
  · exact hu

/-- An effect under a condition leaves alone what the effect does. -/
theorem State.sameAudio.guarded {c : Prop} [Decidable c] (ht : s.sameAudio t) : s.sameAudio (if c then t else s) :=
  ht.ite (State.sameAudio.refl s)

end

/-! ## The parts of the state that are none of the audio's -/

theorem net_frame (s : State) (x : NetPart) : s.sameWork { s with net := x } :=
  ⟨⟨rfl, rfl, rfl, rfl, rfl, rfl, rfl, rfl, rfl⟩, rfl, rfl, rfl⟩

theorem netMod_frame (s : State) (f : NetPart → NetPart) : s.sameWork (s.netMod f) := net_frame s _

theorem modPort_frame (s : State) (p : Nat) (f : NetPort → NetPort) : s.sameWork (s.modPort p f) := netMod_frame s _

theorem fbMod_frame (s : State) (f : FieldBus → FieldBus) : s.sameWork (s.fbMod f) := netMod_frame s _

theorem sightMod_frame (s : State) (f : Sight → Sight) : s.sameWork (s.sightMod f) := net_frame s _

theorem countPort_frame (s : State) (p c n : Nat) : s.sameWork (s.countPort p c n) := net_frame s _

theorem setReady_frame (s : State) (bit : Nat) (on : Bool) : s.sameWork (s.setReady bit on) := host_frame s _

theorem setRead_frame (s : State) (i : Nat) (d : List Byte) : s.sameWork (s.setRead i d) := host_frame s _

theorem forgetSeq_frame (s : State) (q : Nat) : s.sameWork (s.forgetSeq q) := host_frame s _

theorem forgetSlot_frame (s : State) (i : Nat) : s.sameWork (s.forgetSlot i) :=
  (((forgetSeq_frame s _).trans (forgetSeq_frame _ _)).trans (forgetSeq_frame _ _)).trans (forgetSeq_frame _ _)

theorem pairMod_frame (s : State) (f : PairPart → PairPart) : s.sameWork (s.pairMod f) := pair_frame s _

theorem modChan_frame (s : State) (c : Nat) (f : Channel → Channel) : s.sameAudio (s.modChan c f) :=
  ⟨rfl, rfl, rfl, rfl, rfl, rfl, rfl, rfl, rfl⟩

theorem datMod_frame (s : State) (f : DatPart → DatPart) : s.sameAudio (s.datMod f) :=
  ⟨rfl, rfl, rfl, rfl, rfl, rfl, rfl, rfl, rfl⟩

theorem setPin_frame (s : State) (p : Nat) (x : GpioPin) : s.sameAudio (s.setPin p x) :=
  ⟨rfl, rfl, rfl, rfl, rfl, rfl, rfl, rfl, rfl⟩

theorem ownedChans_frame (s : State) (i : Nat) (f : Channel → Channel) (l : List Nat) :
    s.sameAudio (s.ownedChans i f l) := by
  induction l generalizing s with
  | nil => exact State.sameAudio.refl s
  | cons c l ih => exact (State.sameAudio.guarded (modChan_frame s c f)).trans (ih _)

/-! ## Registers, apertures and doorbells (R61-R63, R99, R141, R152) -/

theorem doorbell_frame (s : State) (i q op : Nat) : s.sameAudio (s.doorbell i q op) := by
  unfold State.doorbell
  split
  · exact (qop_frame s q _ _).1.guarded
  · exact (qop_frame s q _ _).1.guarded
  · exact (qop_frame s q _ _).1
  · exact State.sameAudio.refl s

theorem writeReg_frame (s : State) (i off v : Nat) : s.sameAudio (s.writeReg i off v) := by
  unfold State.writeReg
  refine (State.sameAudio.refl s).ite (.ite (.guarded ?snapshot) (.ite (.guarded ?doorbell) (.ite ?channel (.ite ?sticky
    ?freeze))))
  case snapshot => exact (modSlot_frame s i _).1
  case doorbell => exact doorbell_frame s i _ v
  case channel => exact modChan_frame s _ _
  case sticky => exact (sticky_frame s _).1
  case freeze => exact freezeSlot_frame s i 1 off

theorem regWrite_frame (s : State) (i off v : Nat) : s.sameAudio (s.regWrite i off v) :=
  (State.sameAudio.refl s).ite (writeReg_frame s i off v)

theorem writeWords_frame (s : State) (i off : Nat) (d : List Byte) : s.sameAudio (s.writeWords i off d) := by
  fun_induction State.writeWords s i off d with
  | case1 s off a b c d rest ih => exact (writeReg_frame s i off _).trans ih
  | case2 => exact State.sameAudio.refl _

theorem cellWrite_frame (s : State) (i off : Nat) (d : List Byte) : s.sameAudio (s.cellWrite i off d) := by
  unfold State.cellWrite
  refine .ite ((State.sameAudio.refl s).ite (writeWords_frame s i off d)) ?_
  split
  · exact (qop_frame s _ _ _).1.ite (freezeSlot_frame s i 1 off)
  · exact freezeSlot_frame s i 1 off

/-- A read of a pop aperture; a read below 0x8000 may clear counters. -/
theorem cellRead_frame (s : State) (i len : Nat) {off : Nat} (h : 0x8000 ≤ off) :
    s.sameAudio (s.cellRead i off len) := by
  have frozen : s.sameAudio ((s.freezeSlot i 1 off).setRead i []) :=
    (freezeSlot_frame s i 1 off).trans (setRead_frame _ i []).1
  unfold State.cellRead
  rw [if_neg (by omega)]
  split
  · exact .ite ((qop_frame s _ none true).1.trans (setRead_frame _ i _).1) frozen
  · exact .ite (setRead_frame s i _).1 frozen

theorem chanDoorbell_frame (s : State) (who c v : Nat) : s.sameAudio (s.chanDoorbell who c v) :=
  .ite (.guarded (regWrite_frame s who _ v)) (.ite (modChan_frame s c _) (.guarded (modChan_frame s c _)))

/-! ## The reset of a function (R68, R69) -/

theorem resetQueues_frame (s : State) (l : List Nat) : s.sameAudio (s.resetQueues l) := by
  induction l generalizing s with
  | nil => exact State.sameAudio.refl s
  | cons q l ih => exact (qop_frame s q _ _).1.trans (ih _)

theorem dropWaiting_frame (s : State) (i : Nat) : s.sameAudio (s.dropWaiting i) :=
  ⟨rfl, rfl, rfl, rfl, rfl, rfl, rfl, rfl, rfl⟩

theorem thawSlot_frame (s : State) (i : Nat) : s.sameAudio (s.thawSlot i) :=
  ((modSlot_frame s i _).1.trans (forgetSlot_frame _ i).1).trans (ownedChans_frame _ i _ _)

theorem functionReset_frame (s : State) (i : Nat) : s.sameAudio (s.functionReset i) :=
  (((resetQueues_frame s _).trans (forgetSlot_frame _ i).1).trans (dropWaiting_frame _ i)).trans
    (.guarded (thawSlot_frame _ i))

/-! ## A datagram (R70-R75) -/

theorem discardDatagram_frame (s : State) (c : Nat) : s.sameAudio (s.discardDatagram c) :=
  (countPort_frame s 2 c 1).1.trans (host_frame _ _).1

theorem authFailure_frame (s : State) (i : Nat) : s.sameAudio (s.authFailure i) :=
  (modSlot_frame s i _).1.trans (.guarded (freezeSlot_frame _ i 4 0))

theorem authDatagram_frame (s : State) (i sport : Nat) (d : List Byte) : s.sameAudio (s.authDatagram i sport d) := by
  unfold State.authDatagram
  refine .ite (discardDatagram_frame s 20) (.ite ?boot (.ite (host_frame s _).1 ?taken))
  case boot => exact (sendDatagram_frame s i false _ _).1
  case taken => exact (modSlot_frame s i _).1.trans (pushCells_frame _ _ _).1

theorem datagram_frame (s : State) (ipver : Nat) (addr : List Byte) (sport : Nat) (frag : Bool) (d : List Byte) :
    s.sameAudio (s.datagram ipver addr sport frag d) := by
  unfold State.datagram
  refine .ite (discardDatagram_frame s 21) ?_
  split
  · exact discardDatagram_frame s 20
  · exact (State.sameAudio.refl s).ite (.ite (authFailure_frame s _) (authDatagram_frame s _ sport d))

theorem pulseEnds_frame (s : State) (p : Nat) : s.sameAudio (s.pulseEnds p) := by
  unfold State.pulseEnds
  dsimp only
  split
  · exact .guarded (setPin_frame s p _)
  · exact State.sameAudio.refl s

/-- Settles O49: every write of a port is a queue operation, a channel's doorbell, a slot's own state or a freeze. -/
theorem portsFrame : Obligations.PortsFrame := by
  intro s t
  exact ⟨
    fun slot off d => ran_sameAudio (cellWrite_frame s slot off d),
    fun slot off n h => ran_sameAudio (cellRead_frame s slot n h),
    fun slot off v => ran_sameAudio (regWrite_frame s slot off v.toNat),
    fun slot q => ran_sameAudio (regWrite_frame s slot (0x1004 + 16 * q) 1),
    fun slot q => ran_sameAudio (regWrite_frame s slot (0x1004 + 16 * q) 2),
    fun slot q => ran_sameAudio (regWrite_frame s slot (0x1004 + 16 * q) 3),
    fun slot => ran_sameAudio (regWrite_frame s slot 0x0100 1),
    fun slot off v => ran_sameAudio (regWrite_frame s slot off v.toNat),
    fun who ch => ran_sameAudio (chanDoorbell_frame s who ch 1),
    fun who ch => ran_sameAudio (chanDoorbell_frame s who ch 2),
    fun who ch => ran_sameAudio (chanDoorbell_frame s who ch 4),
    fun slot => ran_sameAudio (functionReset_frame s slot),
    goOn_sameAudio ((((functionReset_frame s 0).trans (functionReset_frame _ 1)).trans (functionReset_frame _ 2)).trans
      (functionReset_frame _ 3)),
    fun v a p x d => goOn_sameAudio (datagram_frame s v a p x d),
    fun pin => ran_sameAudio (pulseEnds_frame s pin)⟩

/-! ## Links, low power and the field bus (R209, R233-R237) -/

theorem linkUp_frame (s : State) (p : Nat) : s.sameAudio (s.linkUp p) :=
  (State.sameAudio.refl s).ite (((modPort_frame s p _).1.trans
    ((State.sameAudio.refl _).ite (setReady_frame _ _ true).1)).trans (event_frame _ _ _ _ _ _ _).1)

/-- The link of a port other than the sight line's goes down. -/
theorem linkDown_frame (s : State) {p : Nat} (h : p ≠ 3) : s.sameAudio (s.linkDown p) := by
  unfold State.linkDown
  dsimp only
  rw [if_neg h]
  exact ((modPort_frame s p _).1.trans (setReady_frame _ _ false).1).trans (event_frame _ _ _ _ _ _ _).1

theorem lpiEnter_frame (s : State) (p : Nat) : s.sameAudio (s.lpiEnter p) :=
  .guarded ((modPort_frame s p _).1.trans (countPort_frame _ p _ 1).1)

theorem lpiExit_frame (s : State) (p : Nat) : s.sameAudio (s.lpiExit p) := .guarded (modPort_frame s p _).1

theorem beaconLoss_frame (s : State) : s.sameAudio s.beaconLoss :=
  .guarded (((fbMod_frame s _).1.trans (countPort_frame _ 4 _ 1).1).trans (event_frame _ _ _ _ _ _ _).1)

theorem beaconSeen_frame (s : State) : s.sameAudio s.beaconSeen := by
  unfold State.beaconSeen
  dsimp only
  split
  · exact (fbMod_frame s _).1.trans ((State.sameAudio.refl _).ite (event_frame _ _ _ _ _ _ _).1)
  · exact .guarded ((fbMod_frame s _).1.trans (event_frame _ _ _ _ _ _ _).1)
  · exact State.sameAudio.refl s

theorem collision_frame (s : State) : s.sameAudio s.collision := by
  have hcount := (countPort_frame s 4 Ctr.collisions 1).1
  unfold State.collision
  dsimp only
  refine .ite (hcount.trans (fbMod_frame _ _).1) ?_
  have hdropped := (hcount.trans (fbMod_frame _ fun f => { f with attempts := 0 }).1).trans
    (countPort_frame _ 4 Ctr.excessColl 1).1
  split
  · exact hdropped.trans (modPort_frame _ 4 _).1
  · exact hdropped

/-- Settles O50: each of these events changes a port, the field bus or READY, and raises at most an event. -/
theorem networkFrame : Obligations.NetworkFrame := by
  intro s t
  exact ⟨
    fun p => ran_sameAudio (linkUp_frame s p),
    fun p h => ran_sameAudio (linkDown_frame s h),
    fun p => ran_sameAudio (lpiEnter_frame s p),
    fun p => ran_sameAudio (lpiExit_frame s p),
    fun p => ran_sameAudio (countPort_frame s p _ 1).1,
    goOn_sameAudio (beaconLoss_frame s),
    goOn_sameAudio (beaconSeen_frame s),
    goOn_sameAudio ((State.sameAudio.refl s).ite (collision_frame s))⟩

/-! ## Memory after a store -/

theorem State.sameAudio.mem_eq {s t : State} (h : s.sameAudio t) : t.mem = s.mem := by
  obtain ⟨_, _, _, _, _, hmem, _⟩ := h
  exact hmem

section
variable {s t : State} {a : Nat} {bs : List Byte}

/-- A command that stores `bs` at `a`, or nothing, keeps memory's form and every byte outside. -/
theorem stores_outside (hs : s.memOk) (h : t.mem = s.mem ∨ t.mem = writeBytes s.mem a bs) :
    t.memOk ∧ ∀ c, c < a ∨ a + bs.length ≤ c → readByte t.mem c = readByte s.mem c := by
  unfold State.memOk
  rcases h with h | h <;> rw [h]
  · exact ⟨hs, fun _ _ => rfl⟩
  · exact ⟨wf_writeBytes hs a bs, fun _ hc => readByte_writeBytes_outside hs a bs hc⟩

/-- A command that stores `bs` at `a` and then `cs` at `b` keeps every byte outside both. -/
theorem stores_twice_outside {b : Nat} {cs : List Byte} (hs : s.memOk)
    (h : t.mem = writeBytes (writeBytes s.mem a bs) b cs) :
    t.memOk ∧ ∀ c, (c < a ∨ a + bs.length ≤ c) → (c < b ∨ b + cs.length ≤ c) →
      readByte t.mem c = readByte s.mem c := by
  unfold State.memOk
  rw [h]
  have hw := wf_writeBytes hs a bs
  refine ⟨wf_writeBytes hw b cs, fun c ha hb => ?_⟩
  rw [readByte_writeBytes_outside hw b cs hb, readByte_writeBytes_outside hs a bs ha]

end

/-! ### A mirrored write (R247, R248, R594) -/

theorem showPair_frame (s : State) : s.sameWork s.showPair := setReady_frame s _ _

theorem enterPair_frame (s : State) (x : PState) : s.sameWork (s.enterPair x) :=
  (pairMod_frame s _).trans (showPair_frame _)

theorem dropPeerLoad_frame (s : State) : s.sameWork s.dropPeerLoad := by
  unfold State.dropPeerLoad
  split
  · exact (pairMod_frame s _).trans (finish_frame _ _ _ _)
  · exact State.sameWork.refl s

theorem sightLost_frame (s : State) : s.sameAudio s.sightLost := by
  unfold State.sightLost
  split
  case h_1 => exact ((enterPair_frame s .alone).trans (dropPeerLoad_frame _)).1.trans (event_frame _ _ _ _ _ _ _).1
  case h_2 => exact (pairMod_frame s _).1
  case h_3 => exact (enterPair_frame s .seeking).1
  all_goals exact State.sameAudio.refl s

theorem freezeSight_frame (s : State) (cause info : Nat) : s.sameAudio (s.freezeSight cause info) :=
  (State.sameAudio.refl s).ite ((((sightMod_frame s _).1.trans (sticky_frame _ _).1).trans
    (event_frame _ _ _ _ _ _ _).1).trans (sightLost_frame _))

theorem ackReceive_frame (s : State) (f : List Byte) : s.sameAudio (s.ackReceive f) :=
  (State.sameAudio.refl s).ite ((sightMod_frame s _).1.trans (.guarded (setReady_frame _ _ true).1))

theorem countStale_frame (s : State) : s.sameWork s.countStale := host_frame s _

/-- A frame of the sight line, in sequence or not, moves nothing but the line. -/
theorem sequenced_frame (s : State) (f : List Byte) : s.sameAudio (s.sequenced f).1 := by
  have hack := ackReceive_frame s f
  unfold State.sequenced
  dsimp only
  split
  · exact State.sameAudio.refl s
  · split
    · exact hack.trans (countPort_frame _ 3 _ 1).1
    · have hline (g : Sight → Sight) := hack.trans (sightMod_frame (s.ackReceive f) g).1
      split
      · exact ((hline _).trans (countPort_frame _ 3 _ 1).1).trans (countStale_frame _).1
      · exact hline _

/-- A mirrored write stores its data at its address, or freezes the line. -/
theorem takeWrite_mem (s : State) (p : List Byte) :
    (s.takeWrite p).mem = s.mem ∨ (s.takeWrite p).mem = writeBytes s.mem (u64 p 0) (p.drop 8) := by
  unfold State.takeWrite
  dsimp only
  split
  · exact .inr rfl
  · exact .inl (freezeSight_frame s 5 0).mem_eq

theorem sightMessage_write_mem (s : State) (f : List Byte) :
    (s.sightMessage f 0x05 fun t => t.takeWrite (sightPayload f)).mem = s.mem ∨
      (s.sightMessage f 0x05 fun t => t.takeWrite (sightPayload f)).mem =
        writeBytes s.mem (u64 (sightPayload f) 0) ((sightPayload f).drop 8) := by
  have hseq := (sequenced_frame s f).mem_eq
  unfold State.sightMessage
  dsimp only
  split
  · exact .inl rfl
  · split
    · rw [← hseq]
      exact takeWrite_mem _ _
    · exact .inl hseq

/-! ### A datum's store and its fetch (R556, R560, R592) -/

theorem stored_mem (s : State) :
    s.stored.mem = s.mem ∨ s.stored.mem = writeBytes s.mem flashDatum s.runningImage := by
  unfold State.stored
  split
  · exact .inl rfl
  · exact .inr (finish_frame _ _ _ _).1.mem_eq

theorem mirrorWrite_frame (s : State) (a : Nat) (d : List Byte) (fuel : Nat) :
    s.sameAudio (s.mirrorWrite a d fuel) := by
  induction fuel generalizing s a d with
  | zero => exact State.sameAudio.refl s
  | succ fuel ih =>
    exact (State.sameAudio.refl s).ite ((sightSend_frame s _ _ _ _ _).1.trans (ih _ _ _))

theorem mirrorLoad_frame (s : State) (j : LoadJob) : s.sameAudio (s.mirrorLoad j) := by
  unfold State.mirrorLoad
  split
  · exact State.sameAudio.refl s
  · exact .guarded (((mirrorWrite_frame s _ _ _).trans (datMod_frame _ _)).trans (mirrorCommand_frame _ _ _).1)

theorem fetched_mem (s : State) {j : LoadJob} (hj : s.dat.job = some j) :
    s.fetched.mem = s.mem ∨ s.fetched.mem = writeBytes s.mem s.idleSlot (j.bytes s) := by
  unfold State.fetched
  rw [hj]
  dsimp only
  split
  · exact .inl rfl
  · rw [((datMod_frame _ _).trans (mirrorLoad_frame _ j)).mem_eq]
    split
    · exact .inl rfl
    · exact .inr rfl

/-! ### A message's load (R530) -/

theorem drainIslandEvents_frame (s : State) (fuel : Nat) : s.sameWork (s.drainIslandEvents fuel) := by
  induction fuel generalizing s with
  | zero => exact State.sameWork.refl s
  | succ fuel ih =>
    have hpop := popPacket_frame s 242
    unfold State.drainIslandEvents
    split
    · rename_i s' heq
      rw [heq] at hpop
      exact hpop
    · rename_i s' p _ heq
      rw [heq] at hpop
      refine (hpop.trans ?_).trans (ih _)
      split
      · exact State.sameWork.refl s'
      · exact deliver_frame s' _

theorem islandEvent_frame (s : State) (code sev : Nat) (d : List Byte) (unit : Nat) :
    s.sameAudio (s.islandEvent code sev d unit) := by
  unfold State.islandEvent
  exact .guarded ((((safMod_frame s _).1.trans (.guarded (sticky_frame _ _).1)).trans
    (rawPushCells_frame _ _ _).1).trans (.guarded (drainIslandEvents_frame _ 260).1))

theorem islandFault_frame (s : State) (entry code : Nat) (on : Bool) : s.sameAudio (s.islandFault entry code on) :=
  (State.sameAudio.refl s).ite ((safMod_frame s _).1.trans
    (.ite (islandEvent_frame _ _ _ _ _) (islandEvent_frame _ _ _ _ _)))

/-- A fault of the island is judged, and its outputs follow. -/
theorem islandFault_safRefresh_frame (s : State) (entry code : Nat) (on : Bool) :
    s.sameAudio (s.islandFault entry code on).safRefresh :=
  (islandFault_frame s entry code on).trans (safMod_frame _ _).1

/-- How the message's entry is judged once it is written. -/
theorem messageJudged_frame (s : State) (m : Nat) (good : Bool) :
    s.sameAudio (if good then s.judgeBadMessages m else (s.islandFault m SafFault.messageBad true).safRefresh) :=
  (islandFault_safRefresh_frame s m _ _).ite (islandFault_safRefresh_frame s m _ _)

/-- The directory entry that `putMsgEntry` writes (Table 12-9). -/
def msgEntryBytes (offset length state : Nat) (tag : List Byte) : List Byte :=
  le 4 offset ++ le 4 length ++ le 1 state ++ zeros 7 ++ slice (tag ++ zeros 8) 0 8 ++ zeros 8

theorem length_le (n v : Nat) : (le n v).length = n := by
  induction n generalizing v with
  | zero => rfl
  | succ n ih => simp [le, ih]

theorem length_msgEntryBytes (offset length state : Nat) (tag : List Byte) :
    (msgEntryBytes offset length state tag).length = 32 := by
  simp [msgEntryBytes, length_le, slice, zeros]

theorem putMsgEntry_mem (s : State) (m offset length state : Nat) (tag : List Byte) :
    (s.putMsgEntry m offset length state tag).mem =
      writeBytes s.mem (0x40000000 + 32 * m) (msgEntryBytes offset length state tag) := by
  simp only [State.putMsgEntry, msgEntryBytes]

/-- The copy ends: the bytes are stored, and then the message's entry. -/
theorem messageLoaded_mem (s : State) {j : MsgLoad} (hj : s.saf.load = some j) (hp : j.persist = false) :
    ∃ state, s.messageLoaded.mem = writeBytes (writeBytes s.mem (messageArea + j.offset) (s.loadBytes j))
      (0x40000000 + 32 * j.msg) (msgEntryBytes j.offset j.len state (Msg.tag (s.loadBytes j))) := by
  unfold State.messageLoaded
  rw [hj]
  dsimp only
  generalize ((j.flash || busFault s 32 false j.src j.len == 0) && messageOk j.msg (s.loadBytes j)) = good
  refine ⟨if good then 2 else 3, ?_⟩
  rw [hp, Bool.and_false, if_neg Bool.false_ne_true, (finish_frame _ _ _ _).1.mem_eq,
    (messageJudged_frame _ j.msg good).mem_eq, putMsgEntry_mem, State.safMod_mem]

/-- Settles O51: each of them stores once, a message load its entry as well, and the rest of it leaves memory alone. -/
theorem storesFrame : Obligations.StoresFrame := by
  refine ⟨fun f s t a hs h => ?mirrored, fun s t a hs h => ?store, fun j s t a hs hj h => ?fetch,
    fun j s t a hs hj hp h => ?message⟩
  case mirrored =>
    obtain ⟨hwf, hout⟩ := stores_outside hs (t := t) (by rw [goOn_eq_next h]; exact sightMessage_write_mem s f)
    exact ⟨hwf, hout a⟩
  case store =>
    obtain ⟨hwf, hout⟩ := stores_outside hs (t := t) (by rw [goOn_eq_next h]; exact stored_mem s)
    exact ⟨hwf, hout a⟩
  case fetch =>
    obtain ⟨hwf, hout⟩ := stores_outside hs (t := t) (by rw [goOn_eq_next h]; exact fetched_mem s hj)
    exact ⟨hwf, hout a⟩
  case message =>
    obtain ⟨state, hmem⟩ := messageLoaded_mem s hj hp
    obtain ⟨hwf, hout⟩ := stores_twice_outside hs (t := t) (by rw [goOn_eq_next h]; exact hmem)
    rw [length_msgEntryBytes] at hout
    exact ⟨hwf, hout a⟩

end Sys2Proof.Machine
end
